-- ==== Sys2Proof/Word.lean ====
section
/-! DEFINITION. The byte type and the plainest arithmetic on the numbers that registers hold. -/

namespace Sys2Proof

/-- One byte. -/
abbrev Byte := BitVec 8

/-- Bits `[lsb + width - 1 : lsb]` of a number (R2 counts bits from the least significant one). -/
def bits (v lsb width : Nat) : Nat := v / 2 ^ lsb % 2 ^ width

/-- One bit of a number. -/
def bit (v i : Nat) : Bool := v / 2 ^ i % 2 == 1

/-- 1 for true, 0 for false. -/
def b2n (b : Bool) : Nat := if b then 1 else 0

/-- A number cut to a width. -/
def cut (width v : Nat) : Nat := v % 2 ^ width

/-- The set bits of `v` below `n`, lowest first. -/
def setBits (n v : Nat) : List Nat := (List.range n).filter (bit v)

/-- The number with exactly the listed bits set. -/
def ofBits (l : List Nat) : Nat := l.foldl (fun a i => a ||| 2 ^ i) 0

/-- `a` with the bits of `b` cleared. -/
def clearBits (a b : Nat) : Nat := a - (a &&& b)

/-- The two's-complement code of an integer in a field of `width` bits. -/
def toCode (width : Nat) (i : Int) : Nat := (i % (2 ^ width : Int)).toNat

/-- The integer that a two's-complement code of `width` bits stands for. -/
def ofCode (width c : Nat) : Int := if c < 2 ^ (width - 1) then c else (c : Int) - 2 ^ width

/-- An integer held inside a range. -/
def clampInt (lo hi i : Int) : Int := max lo (min hi i)

/-- A number rounded down after division, or up when any part is left over. -/
def ceilDiv (a b : Nat) : Nat := (a + b - 1) / b

/-- The little-endian bytes of a number. -/
def leBytes : Nat → Nat → List Byte
  | 0, _ => []
  | n + 1, v => BitVec.ofNat 8 v :: leBytes n (v / 256)

/-- The number that little-endian bytes spell. -/
def ofLe : List Byte → Nat
  | [] => 0
  | b :: r => b.toNat + 256 * ofLe r

/-- The big-endian bytes of a number. -/
def beBytes (n v : Nat) : List Byte := (leBytes n v).reverse

/-- The number that big-endian bytes spell. -/
def ofBe (l : List Byte) : Nat := ofLe l.reverse

/-- `n` bytes of a list from an offset; bytes past its end read as 0. -/
def slice (l : List Byte) (off n : Nat) : List Byte :=
  (List.range n).map fun i => (l[off + i]?).getD 0

/-- The little-endian number of `n` bytes at an offset. -/
def leAt (l : List Byte) (off n : Nat) : Nat := ofLe (slice l off n)

/-- The big-endian number of `n` bytes at an offset. -/
def beAt (l : List Byte) (off n : Nat) : Nat := ofBe (slice l off n)

/-- A list padded with zero bytes, or cut, to a length. -/
def padTo (n : Nat) (l : List Byte) : List Byte := slice l 0 n

/-- An element put into a list sorted by a key, before the first greater one. -/
def insertBy {α : Type} (key : α → Nat) (x : α) : List α → List α
  | [] => [x]
  | y :: r => if key x < key y then x :: y :: r else y :: insertBy key x r

/-- A list sorted by a key, equal keys in their order. -/
def sortBy {α : Type} (key : α → Nat) (l : List α) : List α := l.foldl (fun a x => insertBy key x a) []

/-- A list with one element replaced. -/
def setAt {α : Type} : List α → Nat → α → List α
  | [], _, _ => []
  | _ :: r, 0, v => v :: r
  | x :: r, n + 1, v => x :: setAt r n v

end Sys2Proof
end

