-- ==== Sys2Proof/Syntax.lean ====
section
/-! DEFINITION. The commands that reach the block, with their operands. -/

namespace Sys2Proof

/-- The two host ports (R33). -/
inductive HostPort where
  | pcie | serial
  deriving DecidableEq, Repr

/-- The loops with an actuator output latch (R20). -/
inductive Loop where
  | foc | trk | lpc | sld | spn
  deriving DecidableEq, Repr

/-- What a calibration run step measures (R121, R122); each step uses its own part. -/
structure CalMeas where
  /-- the trim that each of the 12 amplifier cells needs, in codes -/
  tiaTrim : List Int := []
  /-- the gain of each amplifier cell; 4096 is nominal -/
  tiaGain : List Nat := []
  /-- the current of each of the 67 focus DAC segments -/
  focSeg : List Nat := []
  /-- the current of each of the 67 tracking DAC segments -/
  trkSeg : List Nat := []
  /-- the delay of each of the 96 TDC cells, in ps -/
  tdc : List Nat := []
  /-- the cells that the selection rule of R122 takes -/
  tdcSel : List Nat := []
  /-- the selected line's worst differential nonlinearity exceeds 0.5 of one cell -/
  tdcNonlinear : Bool := false
  /-- reference ÷ measured for 780 nm, 12 fraction bits -/
  gain780 : Nat := 4096
  /-- reference ÷ measured for 650 nm, 12 fraction bits -/
  gain650 : Nat := 4096
  deriving DecidableEq, Repr

/-- One track of a disc: its number, its first LBA, its session, its CONTROL nibble (bit 2: data). -/
structure DiscTrack where
  number : Nat
  first : Nat
  session : Nat := 1
  control : Nat := 0
  deriving DecidableEq, Repr

/-- What the table of contents or the control data of a disc says (R191 step 4, R460). -/
structure DiscInfo where
  tracks : List DiscTrack := []
  /-- LBA of the lead-out: the number of sectors of the data area -/
  leadOut : Nat := 0
  sessions : Nat := 1
  /-- the layer 1 addresses run backward (R173) -/
  otp : Bool := false
  /-- PSN of the first data sector of a DVD -/
  firstPsn : Nat := 0x030000
  /-- PSN of the last data sector of layer 0 -/
  lastPsn : Nat := 0xFFFFFF
  /-- the session and the 12-byte Q of each lead-in TOC entry, in point order -/
  tocQ : List (Nat × List Byte) := []
  /-- the sectors that the identity is formed over; none where one failed -/
  idSectors : List (Option (List Byte)) := []
  /-- the ATIP of a recordable CD -/
  atip : Option (List Byte) := none
  deriving DecidableEq, Repr

/-- What one step of detection finds (R191); each step uses its own part. -/
structure DetectResult where
  /-- step 1: the spindle stalled or its ripple is above UNBAL_THR -/
  chuckFail : Bool := false
  /-- step 2: reflections at 0.6 mm, a reflection at 1.2 mm, a surface reflection -/
  at06 : Nat := 0
  at12 : Bool := false
  surface : Bool := false
  /-- step 3: RF at the lead-in; the disc code recognised, 15 for none; a recordable mark -/
  rf : Bool := true
  disc : Nat := 15
  recordable : Bool := false
  /-- step 4 -/
  info : DiscInfo := {}
  deriving DecidableEq, Repr

/-- A roster entry (R451). -/
structure RosterEnt where
  unique : Nat
  id : Nat
  /-- neighbour IDs on ports A, B and C; none where the port is not connected -/
  neigh : List (Option Nat)
  elder : Bool := false
  disc : Bool := false
  borrow : Bool := false
  priority : Nat := 0
  libs : Nat := 0
  discTag : Nat := 0
  bloom : Nat := 0
  deriving DecidableEq, Repr

/-- A caravan's payload by its type (R444). -/
inductive Payload where
  /-- the sender's UNIQUE, its node ID if it has one, and its port -/
  | hello (unique : Nat) (node : Option Nat) (port : Nat)
  /-- a candidate key and its hop count -/
  | elect (priority unique hops : Nat)
  | joinReq (unique : Nat) (preferred : Option Nat) (path : List Nat)
  | joinGrant (unique id : Nat) (path : List Nat)
  /-- the sender's entry, with its three port neighbours -/
  | neigh (e : RosterEnt)
  /-- a generation, the entries that it adds or changes, and the IDs that it removes -/
  | roster (gen : Nat) (entries : List RosterEnt) (gone : List Nat)
  | syncReq
  | rosterFull (gen : Nat) (entries : List RosterEnt)
  /-- a 64-byte submission entry -/
  | nsReq (entry : List Byte)
  | nsData (data : List Byte)
  | nsDone (specific residual status : Nat)
  | progress
  | borrowReq (ident : List Byte) (layer addr mask : Nat)
  | borrowData (data : List Byte)
  | borrowDone (mask : Nat)
  | reserved
  deriving DecidableEq, Repr

/-- A caravan (R442), without its checks. -/
structure Caravan where
  last : Bool := true
  hops : Nat := 255
  dst : Nat := 0
  src : Nat := 0
  tag : Nat := 0
  epoch : Nat := 0
  lseq : Nat := 0
  param : Nat := 0
  body : Payload
  deriving DecidableEq, Repr

/-- The TYPE of a payload (R444). -/
def Payload.kind : Payload → Nat
  | .hello .. => 0 | .elect .. => 1 | .joinReq .. => 2 | .joinGrant .. => 3 | .neigh .. => 4 | .roster .. => 5
  | .syncReq => 6 | .rosterFull .. => 7 | .nsReq .. => 8 | .nsData .. => 9 | .nsDone .. => 10 | .progress => 11
  | .borrowReq .. => 12 | .borrowData .. => 13 | .borrowDone .. => 14 | .reserved => 15

/-- What a block of 1,024 channel bits showed (R204 to R209, R225). -/
structure BitBlock where
  /-- phase errors of its crossings of the middle levels, oldest first, in 1/4,096 of a bit period -/
  errs : List Int := []
  /-- its envelope, on the scale of the levels -/
  top : Int := 768
  bottom : Int := 256
  /-- the direction that sign-LMS asks of each of the 7 taps: −1, 0 or 1 -/
  taps : List Int := [0, 0, 0, 0, 0, 0, 0]
  /-- the signal-to-noise ratio over the last 65,536 bits, in dB, Q8.8 -/
  snr : Nat := 0
  /-- the asymmetry, signed Q1.15 -/
  asym : Int := 0
  /-- samples at ±31 of the 65,536 consecutive non-erased ones that ended in it -/
  clips : Option Nat := none
  deriving DecidableEq, Repr

/-- What discovery finds on one chip enable (R405), from its parameter page. -/
structure NandPart where
  dies : Nat
  blocks : Nat
  pages : Nat
  dataBytes : Nat := 16384
  spare : Nat
  trUs : Nat
  tprogUs : Nat
  tbersMs : Nat
  /-- the rated erase endurance -/
  endurance : Nat := 3000
  /-- the highest SDR mode and the highest NV-DDR mode, if it has one -/
  sdrMax : Nat
  ddrMax : Option Nat
  /-- modes at which the parameter page read again fails its CRC: NV-DDR or not, and the mode -/
  failModes : List (Bool × Nat) := []
  deriving DecidableEq, Repr

/-- One chip enable at discovery: empty, with no readable parameter page, or a part. -/
inductive NandFind where
  | empty
  | paramBad
  | part (p : NandPart)
  deriving DecidableEq, Repr

/-- What a NAND program held (R421, R422, R426). -/
inductive ProgKind where
  /-- the next sectors of the write of the command that holds a tag: at most 8 -/
  | data (tag n : Nat)
  | journal
  | other
  deriving DecidableEq, Repr

/-- One library sector of a page read: its namespace and block, and what its two codewords' first reads and their two
re-reads corrected; none where a decode failed. -/
structure SectorRead where
  ns : Nat
  block : Nat
  first : List (Option Nat)
  again : List (Option Nat) := []
  last : List (Option Nat) := []
  deriving DecidableEq, Repr

/-- What a raw operation came back with (R409, R418, R419). -/
structure RawResult where
  /-- the status of a program or erase -/
  ok : Bool := true
  wp : Bool := false
  /-- what was read: corrected data and metadata, or all bytes -/
  data : List Byte := []
  /-- bits corrected in each codeword, none where it failed, and the bits at 0 in each -/
  bits : List (Option Nat) := []
  zeros : List Nat := []
  /-- the pointer that the pages read from the last downward give -/
  ptr : Nat := 0
  deriving DecidableEq, Repr

/-- One codeword of a decode: errors outside its erasures, and erasures (R229). -/
structure Codeword where
  e : Nat := 0
  f : Nat := 0
  deriving DecidableEq, Repr

/-- One sector of a decode (R230, R232): its place in the unit, its kind (0 CD-DA, 1 mode 1, 2 mode 2 form 1, 3 mode 2
form 2, 4 DVD), its 2,352 or 2,064 bytes, its subcode, the 294 bytes of C2 pointers, and its checks. -/
structure SectorDec where
  index : Nat := 0
  kind : Nat
  data : List Byte
  sub : List Byte := []
  c2 : List Byte := []
  edc : Bool := true
  edcZero : Bool := false
  ied : Bool := true
  deriving DecidableEq, Repr

/-- A decode of a unit (R228, R229): the sectors, the codewords of each kind as their last pass left them (PI also as its
first pass did), the angular extents of its frames, and the angles of its first and last failed frames. -/
structure Decode where
  addr : Nat
  layer : Nat := 0
  sectors : List SectorDec
  c1 : List Codeword := []
  c2 : List Codeword := []
  l2 : List Codeword := []
  piFirst : List Codeword := []
  pi : List Codeword := []
  po : List Codeword := []
  frames : List (Nat × Nat) := []
  failed : Option (Nat × Nat) := none
  deriving DecidableEq, Repr

/-- One frame of a Barchan pass (R246): the sync was found or inserted, the offset at which it lies or correlates best,
that correlation in 1/256 of the ideal, its place on the grid, and its soft samples. -/
structure PassFrame where
  found : Bool
  ofs : Int := 0
  corr : Nat := 256
  at_ : Nat
  samples : List Nat
  deriving DecidableEq, Repr

/-- A Barchan pass (R246): its frames, and the address that CHN took during it. -/
structure Pass where
  frames : List PassFrame
  addr : Option Nat := none
  deriving DecidableEq, Repr

/-- A configuration request (R287): a read of a dword, or a write of the enabled bytes of one. -/
inductive CfgReq where
  | read (off : Nat)
  | write (off be value : Nat)
  deriving DecidableEq, Repr

/-- A received message (R287): vendor-defined of Type 0 or Type 1, PME_Turn_Off, or another of the Base Specification. -/
inductive PcieMsg where
  | vendor0 | vendor1 | pmeTurnOff | other
  deriving DecidableEq, Repr

/-- A received TLP with EP set (R288). -/
inductive PoisonTlp where
  | bar4 (off : Nat) (data : List Byte) (en : List Bool)
  | bar02 (hdr : List Nat)
  /-- a completion to the DMA read with a PCIe tag, or to an entry fetch -/
  | completion (ptag : Option Nat)
  deriving DecidableEq, Repr

/-- What the PCIe port finds wrong with a TLP or DLLP (R308). -/
inductive RxErr where
  | receiver | badTlp | badDllp | malformed
  deriving DecidableEq, Repr

/-- A serial transaction that ended inside a byte (R303): how far it had come. -/
inductive SerialCut where
  | opcode
  | read (addr n : Nat)
  | write (addr : Nat) (data : List Byte)
  deriving DecidableEq, Repr
/-- The commands: one constructor per row of the opcode table, with the operands that the event, access or command carries. -/
inductive Instr where
  /-- STAGE_WINDOW_END (R24) -/
  | stageWindowEnd (c0 c1 c2 laps mclk : Nat)
  /-- REFCLK_STOP (R562) -/
  | refclkStop
  /-- DLL_LOCK_ACQUIRED (R562) -/
  | dllLockAcquired
  /-- DLL_UNLOCK (R80) -/
  | dllUnlock
  /-- SERVO_UPDATE (R20) -/
  | servoUpdate (loop : Loop) (late : Bool)
  /-- WATER_CLR (R32) -/
  | waterClr
  /-- WATER_CLR_DONE (R32) -/
  | waterClrDone
  /-- NOW_LO_READ (R31) -/
  | nowLoRead (port : HostPort)
  /-- OP_SECONDS_TICK (R500) -/
  | opSecondsTick
  /-- BAR0_WRITE (R44) -/
  | bar0Write (port : HostPort) (page off be value rid : Nat) (pasid : Option Nat)
  /-- CHIP_RESET_KEY (R47) -/
  | chipResetKey (port : HostPort) (value : Nat)
  /-- QUIESCE_WRITE (R91) -/
  | quiesceWrite (page : Nat) (v : Bool)
  /-- BLOCK_DRAINED (R91) -/
  | blockDrained (page : Nat)
  /-- FORCED_BLOCK_RESET (R92) -/
  | forcedBlockReset (page : Nat)
  /-- FORCED_RESET_END (R92) -/
  | forcedResetEnd (page : Nat)
  /-- BLOCK_GATE (R95) -/
  | blockGate (page : Nat)
  /-- BLOCK_GATED (R95) -/
  | blockGated (page : Nat)
  /-- BLOCK_UNGATE (R95) -/
  | blockUngate (page : Nat)
  /-- UNGATE_DONE (R95) -/
  | ungateDone (page : Nat)
  /-- GATE_FAULT_TIMEOUT (R95) -/
  | gateFaultTimeout (page : Nat)
  /-- SHD_HOLD_WRITE (R46) -/
  | shdHoldWrite (page : Nat) (v : Bool)
  /-- INTERNAL_REPLY_ARRIVAL (R93) -/
  | internalReplyArrival (page tag reqEpoch repEpoch : Nat)
  /-- QUARANTINE_EXPIRY (R94) -/
  | quarantineExpiry (tag : Nat)
  /-- ATN_FORCE_WRITE (R70) -/
  | atnForceWrite (page value : Nat)
  /-- GRP_PEND_CLEAR (R70) -/
  | grpPendClear (group value : Nat)
  /-- ROUTED_CLEAR (R71) -/
  | routedClear (slice group value : Nat)
  /-- ATN_SLICE_WRITE (R75) -/
  | atnSliceWrite (port : HostPort) (page be value : Nat)
  /-- PIN_CTL_WRITE (R63) -/
  | pinCtlWrite (port : HostPort) (be value : Nat)
  /-- SUMMARY_READ (R78) -/
  | summaryRead (port : HostPort)
  /-- POWER_ON_RESET (R85) -/
  | powerOnReset
  /-- STBY_POWER_LOSS (R85) -/
  | stbyPowerLoss
  /-- RAIL_LOW (R99) -/
  | railLow (rail : Nat)
  /-- RAIL_GOOD (R99) -/
  | railGood (rail : Nat)
  /-- BROWNOUT (R89) -/
  | brownout
  /-- CORE_RESET_RELEASE (R86) -/
  | coreResetRelease (fuseErr : Bool)
  /-- SRAM_ZERO_FILL_DONE (R263) -/
  | sramZeroFillDone (upsets : List (Nat × Nat))
  /-- ENGINE_RELEASE (R86) -/
  | engineRelease (ce0 ce1 : NandFind)
  /-- PERST_ASSERT (R90) -/
  | perstAssert
  /-- PERST_DEASSERT (R90) -/
  | perstDeassert
  /-- FUNCTION_LEVEL_RESET (R90) -/
  | functionLevelReset
  /-- HOT_RESET (R294) -/
  | hotReset
  /-- FUNCTION_RESET_DONE (R90) -/
  | functionResetDone
  /-- IDLE_TIMER_EXPIRY (R100) -/
  | idleTimerExpiry (target : Nat)
  /-- DOZE_ENTRY_DONE (R102) -/
  | dozeEntryDone
  /-- NAP_ENTRY_DONE (R102) -/
  | napEntryDone
  /-- STANDBY_ENTRY_COMMIT (R102) -/
  | standbyEntryCommit
  /-- DISCHARGE_WAIT_END (R102) -/
  | dischargeWaitEnd
  /-- POWER_CMD_GO (R103) -/
  | powerCmdGo
  /-- IDLE_TIMER_WRITE (R100) -/
  | idleTimerWrite (port : HostPort) (off be value : Nat)
  /-- HWAKE_EVENT (R104) -/
  | hwakeEvent
  /-- WAKE_PIN_EVENT (R104) -/
  | wakePinEvent (n : Nat)
  /-- LOADER_WAKE_EVENT (R104) -/
  | loaderWakeEvent
  /-- RYL_WAKE_ACTIVITY (R104) -/
  | rylWakeActivity (rport : Nat)
  /-- DOZE_EXIT_DONE (R105) -/
  | dozeExitDone
  /-- NAP_EXIT_DONE (R105) -/
  | napExitDone
  /-- STANDBY_EXIT_DONE (R106) -/
  | standbyExitDone (ce0 ce1 : NandFind)
  /-- POWER_FAIL (R108) -/
  | powerFail
  /-- POWER_FAIL_FLUSH_DONE (R108) -/
  | powerFailFlushDone
  /-- POWER_RESTORED (R110) -/
  | powerRestored
  /-- CAL_RUN_GO (R121) -/
  | calRunGo
  /-- CAL_RUN_START (R119) -/
  | calRunStart
  /-- CAL_RUN_STEP_END (R121) -/
  | calRunStepEnd (m : CalMeas)
  /-- CAL_RUN_ABORT (R124) -/
  | calRunAbort
  /-- CAL_RESTORE_GO (R127) -/
  | calRestoreGo
  /-- CAL_RESTORE_START (R127) -/
  | calRestoreStart
  /-- CAL_RESTORE_END (R129) -/
  | calRestoreEnd (residuals : List Int) (spanNow stageNow : Nat)
  /-- FOC_CLOSE_WRITE (R146) -/
  | focCloseWrite (port : HostPort) (be value : Nat)
  /-- TRK_CLOSE_WRITE (R146) -/
  | trkCloseWrite (port : HostPort) (be value : Nat)
  /-- LPC_WAVE_WRITE (R148) -/
  | lpcWaveWrite (port : HostPort) (be value : Nat)
  /-- FOCUS_TRACKING_SAMPLE (R142) -/
  | focusTrackingSample (w : List Nat) (dpd : Int) (num den : Nat) (cross : Int) (period : Nat)
  /-- ACQ_SWEEP_EXHAUSTED (R150) -/
  | acqSweepExhausted
  /-- FOCUS_LOSS (R151) -/
  | focusLoss
  /-- TRK_PULLIN_TIMEOUT (R154) -/
  | trkPullinTimeout
  /-- TRACKING_LOCK (R154) -/
  | trackingLock
  /-- TRACKING_LOSS (R155) -/
  | trackingLoss
  /-- DUNE_HOLD_EXIT (R161) -/
  | duneHoldExit (loop : Loop)
  /-- DUNE_HOLD_MAX (R161) -/
  | duneHoldMax (loop : Loop)
  /-- FF_LEARN_WRAP (R157) -/
  | ffLearnWrap
  /-- LAYER_JUMP_GO (R152) -/
  | layerJumpGo
  /-- LAYER_JUMP_KICK_END (R152) -/
  | layerJumpKickEnd
  /-- LAYER_JUMP_BRAKE_END (R152) -/
  | layerJumpBrakeEnd
  /-- LAYER_JUMP_TIMEOUT (R152) -/
  | layerJumpTimeout
  /-- LAYER_JUMP_SETTLED (R152) -/
  | layerJumpSettled
  /-- LOOP_RELEASE_DONE (R147) -/
  | loopReleaseDone (loop : Loop)
  /-- LPC_SAMPLE (R163) -/
  | lpcSample (mon : Nat)
  /-- LASER_MON_FAIL (R164) -/
  | laserMonFail
  /-- LASER_LOCKED (R163) -/
  | laserLocked
  /-- LASER_RAMP_DONE (R163) -/
  | laserRampDone
  /-- LPC_OVER_UNDER (R165) -/
  | lpcOverUnder
  /-- DAC_FAULT (R167) -/
  | dacFault (loop : Loop)
  /-- DRIVE_SAT_RUN (R167) -/
  | driveSatRun (loop : Loop)
  /-- FF_CLEAR (R158) -/
  | ffClear (loop : Loop)
  /-- CROSS_CLEAR (R153) -/
  | crossClear
  /-- REF_CAPTURE (R166) -/
  | refCapture
  /-- SPINDLE_SAMPLE (R182) -/
  | spindleSample (rpm now : Nat)
  /-- COMMUTATION_EVENT (R181) -/
  | commutationEvent (hall : Nat) (late : Bool) (ripple dead : Nat)
  /-- SPINDLE_ALIGN_DONE (R178) -/
  | spindleAlignDone
  /-- SPINDLE_LOCK (R178) -/
  | spindleLock
  /-- SPN_CTL_WRITE (R178) -/
  | spnCtlWrite (port : HostPort) (be value : Nat)
  /-- SPEED_CAP_WRITE (R175) -/
  | speedCapWrite (port : HostPort) (be value : Nat)
  /-- ZONE_TABLE_WRITE (R177) -/
  | zoneTableWrite (port : HostPort) (dvd : Bool) (k be value : Nat)
  /-- SPINDLE_STOPPED (R180) -/
  | spindleStopped
  /-- SPINDLE_FAULT_PIN (R183) -/
  | spindleFaultPin
  /-- SPINDLE_STALL_TIMEOUT (R183) -/
  | spindleStallTimeout
  /-- SEEK_GO (R184) -/
  | seekGo
  /-- SEEK_START (R184) -/
  | seekStart
  /-- SEEK_COARSE_DONE (R184) -/
  | seekCoarseDone (position : Nat)
  /-- SEEK_TIMEOUT (R184) -/
  | seekTimeout
  /-- SEEK_ABORT (R188) -/
  | seekAbort
  /-- SLED_SAMPLE (R186) -/
  | sledSample (position jumped : Nat)
  /-- HOME_GO (R187) -/
  | homeGo
  /-- HOME_REACHED (R187) -/
  | homeReached
  /-- SLED_FAULT_PIN (R187) -/
  | sledFaultPin
  /-- SLED_STALL_TIMEOUT (R187) -/
  | sledStallTimeout
  /-- LOADER_OPEN (R189) -/
  | loaderOpen
  /-- LOADER_CLOSE (R189) -/
  | loaderClose
  /-- LOADER_DETECT (R191) -/
  | loaderDetect
  /-- LIMIT_A_CHANGE (R189) -/
  | limitAChange (high : Bool)
  /-- LIMIT_B_CHANGE (R189) -/
  | limitBChange (high : Bool)
  /-- SLOT_CHANGE (R189) -/
  | slotChange (asserted : Bool)
  /-- EJECT_BUTTON (R190) -/
  | ejectButton
  /-- EJECT_MOTION_START (R190) -/
  | ejectMotionStart
  /-- LOAD_TIMEOUT (R189) -/
  | loadTimeout
  /-- BOTH_LIMITS_FAULT (R189) -/
  | bothLimitsFault
  /-- LOADER_FAULT_PIN (R192) -/
  | loaderFaultPin
  /-- LOADER_THERMAL_TIMEOUT (R192) -/
  | loaderThermalTimeout
  /-- DETECT_STEP_DONE (R191) -/
  | detectStepDone (r : DetectResult)
  /-- CHN_BIT_BLOCK_BOUNDARY (R209) -/
  | chnBitBlockBoundary (b : BitBlock)
  /-- TIMING_LOCK (R205) -/
  | timingLock (errs : List Int)
  /-- TIMING_LOST (R205) -/
  | timingLost (errs : List Int)
  /-- DROPOUT_DECLARED (R211) -/
  | dropoutDeclared (theta : Nat)
  /-- DROPOUT_END (R211) -/
  | dropoutEnd (theta : Nat)
  /-- FREEWHEEL_TIMEOUT (R205) -/
  | freewheelTimeout
  /-- BLANK_TIMEOUT (R212) -/
  | blankTimeout
  /-- BLANK_END (R205) -/
  | blankEnd
  /-- RF_OK_CHANGE (R213) -/
  | rfOkChange (ok : Bool) (theta : Nat)
  /-- OVERRATE (R206) -/
  | overrate
  /-- EQ_LOAD (R208) -/
  | eqLoad
  /-- SYNC_FOUND (R214) -/
  | syncFound (ofs : Int) (id frame : Nat)
  /-- SYNC_INSERT (R214) -/
  | syncInsert
  /-- CODEWORD_DECODE (R216) -/
  | codewordDecode (data margin : Nat) (erased illegal inserted : Bool)
  /-- SUBCODE_BLOCK (R218) -/
  | subcodeBlock (q : List Byte) (marks : Bool)
  /-- DVD_ID_FIELD (R219) -/
  | dvdIdField (id : Option Nat)
  /-- SUBQ_READ (R220) -/
  | subqRead (port : HostPort)
  /-- UNIT_DECODE_DONE (R229) -/
  | unitDecodeDone (d : Decode)
  /-- REREAD_ATTEMPT_DONE (R236) -/
  | rereadAttemptDone (d : Decode)
  /-- AVG_ACCUMULATOR_GRANT (R245) -/
  | avgAccumulatorGrant
  /-- AVG_ALLOC_TIMEOUT (R245) -/
  | avgAllocTimeout
  /-- AVG_PASS_END (R246) -/
  | avgPassEnd (p : Pass)
  /-- AVG_ABORT (R251) -/
  | avgAbort
  /-- BORROW_TIMEOUT (R249) -/
  | borrowTimeout (addr layer : Nat)
  /-- ERG_CLEAR (R243) -/
  | ergClear
  /-- ERG_SAVE (R243) -/
  | ergSave
  /-- ERG_SCAN (R244) -/
  | ergScan
  /-- ERG_SCAN_DONE (R244) -/
  | ergScanDone
  /-- SEG_DATA_READ (R257) -/
  | segDataRead (port : HostPort)
  /-- BAR4_READ (R277) -/
  | bar4Read (off len : Nat) (hdr : List Nat) (par : Bool)
  /-- BAR4_WRITE (R265) -/
  | bar4Write (off : Nat) (data : List Byte) (en : List Bool) (hdr : List Nat) (par : Bool)
  /-- POISONED_TLP (R288) -/
  | poisonedTlp (p : PoisonTlp)
  /-- SCRUB_WORD (R274) -/
  | scrubWord (upsets : List (Nat × Nat)) (par : Bool)
  /-- SCRUB_LATE (R274) -/
  | scrubLate
  /-- TBL_CLEAR_CE (R281) -/
  | tblClearCe
  /-- TBL_CLEAR_UE (R281) -/
  | tblClearUe
  /-- TBL_DATA_READ (R283) -/
  | tblDataRead (port : HostPort) (k : Nat)
  /-- HOST_PAGES_WRITE (R276) -/
  | hostPagesWrite (port : HostPort) (be value : Nat)
  /-- HOST_PAGES_TAKE_EFFECT (R276) -/
  | hostPagesTakeEffect
  /-- PAGE_ALLOC_GRANT (R275) -/
  | pageAllocGrant
  /-- PAGE_FREE (R271) -/
  | pageFree (page : Nat)
  /-- CONFIG_REQUEST (R287) -/
  | configRequest (r : CfgReq) (ident : Nat)
  /-- UNSUPPORTED_REQUEST (R287) -/
  | unsupportedRequest (posted : Bool) (hdr : List Nat)
  /-- PCIE_MESSAGE (R287) -/
  | pcieMessage (m : PcieMsg) (hdr : List Nat)
  /-- DMA_READ_COMPLETION (R293) -/
  | dmaReadCompletion (ptag status : Nat) (data : List Byte) (poison : Bool)
  /-- COMPLETION_TIMEOUT (R293) -/
  | completionTimeout (ptag : Option Nat)
  /-- PCIE_LINK_UP (R308) -/
  | pcieLinkUp (both5 : Bool)
  /-- PCIE_LINK_DOWN (R294) -/
  | pcieLinkDown
  /-- PCIE_RETRAIN (R309) -/
  | pcieRetrain
  /-- PCIE_RETRAIN_DONE (R309) -/
  | pcieRetrainDone (up both5 : Bool)
  /-- SERIAL_READ (R299) -/
  | serialRead (mode3 : Bool) (addr n : Nat) (waits : List Nat)
  /-- SERIAL_QREAD (R299) -/
  | serialQread (mode3 : Bool) (addr n : Nat) (waits : List Nat)
  /-- SERIAL_WRITE (R300) -/
  | serialWrite (mode3 : Bool) (addr : Nat) (data : List Byte)
  /-- SERIAL_QWRITE (R300) -/
  | serialQwrite (mode3 : Bool) (addr : Nat) (data : List Byte)
  /-- SERIAL_STATUS (R302) -/
  | serialStatus (mode3 : Bool)
  /-- SERIAL_BAD_OPCODE (R296) -/
  | serialBadOpcode (mode3 : Bool) (op : Nat)
  /-- SERIAL_CS_ABORT (R303) -/
  | serialCsAbort (mode3 quad : Bool) (cut : SerialCut)
  /-- SERIAL_WAIT_LIMIT (R299) -/
  | serialWaitLimit (mode3 quad : Bool) (addr : Nat)
  /-- SERIAL_BUFFERED_APPLY (R301) -/
  | serialBufferedApply
  /-- QP_CREATE (R312) -/
  | qpCreate
  /-- QP_DELETE (R314) -/
  | qpDelete
  /-- QP_DELETE_DONE (R314) -/
  | qpDeleteDone (slice qp : Nat)
  /-- QP_ABORT (R314) -/
  | qpAbort
  /-- QP_ABORT_DONE (R314) -/
  | qpAbortDone (slice qp : Nat)
  /-- SQ_DOORBELL (R321) -/
  | sqDoorbell (port : HostPort) (slice qp tail rid : Nat) (pasid : Option Nat)
  /-- CQ_HEAD_DOORBELL (R319) -/
  | cqHeadDoorbell (port : HostPort) (slice qp head rid : Nat) (pasid : Option Nat)
  /-- ENTRY_FETCH (R322) -/
  | entryFetch (entry : List Byte) (ok : Bool)
  /-- COMMAND_DISPATCH (R326) -/
  | commandDispatch (tag : Nat)
  /-- COMPLETION_WRITE (R316) -/
  | completionWrite (tag : Nat) (ok : Bool)
  /-- OVERLOAD_TIMER (R335) -/
  | overloadTimer (slice : Nat)
  /-- HAZARD_WAIT_LONG (R342) -/
  | hazardWaitLong (tag : Nat)
  /-- FENCE_WAIT_LONG (R329) -/
  | fenceWaitLong (tag : Nat)
  /-- READAHEAD (R337) -/
  | readahead (sectors : Nat)
  /-- LAT_CLR (R343) -/
  | latClr
  /-- TEST_UNIT_READY (R354) -/
  | testUnitReady (tag : Nat)
  /-- REQUEST_SENSE (R357) -/
  | requestSense (tag : Nat)
  /-- INQUIRY (R359) -/
  | inquiry (tag : Nat)
  /-- START_STOP_UNIT (R365) -/
  | startStopUnit (tag : Nat)
  /-- PREVENT_ALLOW_MEDIUM_REMOVAL (R365) -/
  | preventAllowMediumRemoval (tag : Nat)
  /-- READ_10 (R349) -/
  | read10 (tag : Nat)
  /-- READ_12 (R349) -/
  | read12 (tag : Nat)
  /-- READ_CD (R359) -/
  | readCd (tag : Nat)
  /-- READ_CD_MSF (R359) -/
  | readCdMsf (tag : Nat)
  /-- READ_TOC_PMA_ATIP (R359) -/
  | readTocPmaAtip (tag : Nat)
  /-- READ_DISC_INFORMATION (R359) -/
  | readDiscInformation (tag : Nat)
  /-- READ_TRACK_INFORMATION (R359) -/
  | readTrackInformation (tag : Nat)
  /-- GET_CONFIGURATION (R360) -/
  | getConfiguration (tag : Nat)
  /-- GET_EVENT_STATUS_NOTIFICATION (R361) -/
  | getEventStatusNotification (tag : Nat)
  /-- MECHANISM_STATUS (R359) -/
  | mechanismStatus (tag : Nat)
  /-- SET_CD_SPEED (R364) -/
  | setCdSpeed (tag : Nat)
  /-- MODE_SENSE_10 (R362) -/
  | modeSense10 (tag : Nat)
  /-- MODE_SELECT_10 (R363) -/
  | modeSelect10 (tag : Nat)
  /-- NOP (R367) -/
  | nop (tag : Nat)
  /-- IDENTIFY (R369) -/
  | identify (tag : Nat)
  /-- ABORT_ALL (R368) -/
  | abortAll (tag : Nat)
  /-- READ (R367) -/
  | read (tag : Nat)
  /-- WRITE (R421) -/
  | write (tag : Nat)
  /-- TRIM (R416) -/
  | trim (tag : Nat)
  /-- VERIFY (R367) -/
  | verify (tag : Nat)
  /-- LIB_FORMAT (R414) -/
  | libFormat (tag : Nat) (bad : List (Nat × Nat))
  /-- LIB_MOUNT (R414) -/
  | libMount (tag : Nat)
  /-- LIB_UNMOUNT (R414) -/
  | libUnmount (tag : Nat)
  /-- RIP (R558) -/
  | rip (tag : Nat)
  /-- SHADOW_LOOKUP (R367) -/
  | shadowLookup (tag : Nat)
  /-- SHADOW_PURGE (R429) -/
  | shadowPurge (tag : Nat)
  /-- RYL_ROSTER (R453) -/
  | rylRoster (tag : Nat)
  /-- SERVO_TEST_ACQUIRE (R367) -/
  | servoTestAcquire (tag : Nat)
  /-- SERVO_TEST_SEEK (R367) -/
  | servoTestSeek (tag : Nat)
  /-- SERVO_TEST_RUNOUT (R367) -/
  | servoTestRunout (tag : Nat)
  /-- SERVO_TEST_SWEEP (R367) -/
  | servoTestSweep (tag : Nat)
  /-- CAL_RUN (R132) -/
  | calRun (tag : Nat)
  /-- CAL_RESTORE (R132) -/
  | calRestore (tag : Nat)
  /-- CAL_SAVE (R367) -/
  | calSave (tag : Nat)
  /-- REC_DUMP (R498) -/
  | recDump (tag : Nat)
  /-- REC_ERASE (R498) -/
  | recErase (tag : Nat)
  /-- TRACE_CTL_START (R507) -/
  | traceCtlStart (tag : Nat)
  /-- TRACE_CTL_STOP (R507) -/
  | traceCtlStop (tag : Nat)
  /-- TRACE_CTL_FILTER (R507) -/
  | traceCtlFilter (tag : Nat)
  /-- AUDIO_PLAY (R476) -/
  | audioPlay (tag : Nat)
  /-- AUDIO_STOP (R483) -/
  | audioStop (tag : Nat)
  /-- CMD_STALL_TIMEOUT (R372) -/
  | cmdStallTimeout (tag : Nat)
  /-- SLC_TABLE_COMMIT (R374) -/
  | slcTableCommit
  /-- SLICE_RESET (R398) -/
  | sliceReset
  /-- SLICE_RESET_DONE (R398) -/
  | sliceResetDone (slice : Nat)
  /-- SLICE_ABORT (R398) -/
  | sliceAbort
  /-- WADI_REFILL (R388) -/
  | wadiRefill
  /-- ENGINE_UNIT_BOUNDARY (R393) -/
  | engineUnitBoundary (engine : Nat)
  /-- UNIT_WAIT_LONG (R395) -/
  | unitWaitLong (engine tag : Nat)
  /-- SHARE_WINDOW_END (R396) -/
  | shareWindowEnd
  /-- NAND_PROGRAM_DONE (R411) -/
  | nandProgramDone (die block page : Nat) (kind : ProgKind) (ok wp : Bool)
  /-- NAND_ERASE_DONE (R411) -/
  | nandEraseDone (die block : Nat) (ok wp : Bool)
  /-- NAND_READ_DONE (R408) -/
  | nandReadDone (tag die : Nat) (sectors : List SectorRead)
  /-- NAND_BUSY_LONG (R411) -/
  | nandBusyLong (die : Nat) (beyond : Bool)
  /-- MOUNT_DONE (R424) -/
  | mountDone (noSuper fail : Bool)
  /-- RAW_READ (R418) -/
  | rawRead
  /-- RAW_READ_RAW (R418) -/
  | rawReadRaw
  /-- RAW_PROGRAM (R418) -/
  | rawProgram
  /-- RAW_ERASE (R418) -/
  | rawErase
  /-- RAW_OP_DONE (R418) -/
  | rawOpDone (r : RawResult)
  /-- GARBAGE_COLLECTION (R415) -/
  | garbageCollection (die block : Nat)
  /-- SHADOW_STORE_WRITE (R429) -/
  | shadowStoreWrite
  /-- RYL_LINK_UP (R440) -/
  | rylLinkUp (rport : Nat)
  /-- RYL_LINK_DOWN (R440) -/
  | rylLinkDown (rport : Nat)
  /-- HELLO_RECEIVED (R441) -/
  | helloReceived (rport : Nat) (c : Caravan)
  /-- ELECT_RECEIVED (R447) -/
  | electReceived (rport : Nat) (c : Caravan)
  /-- JOIN_REQ_RECEIVED (R449) -/
  | joinReqReceived (rport : Nat) (c : Caravan)
  /-- JOIN_GRANT_RECEIVED (R449) -/
  | joinGrantReceived (rport : Nat) (c : Caravan)
  /-- NEIGH_RECEIVED (R451) -/
  | neighReceived (rport : Nat) (c : Caravan)
  /-- ROSTER_RECEIVED (R452) -/
  | rosterReceived (rport : Nat) (c : Caravan)
  /-- SYNC_REQ_RECEIVED (R452) -/
  | syncReqReceived (rport : Nat) (c : Caravan)
  /-- ROSTER_FULL_RECEIVED (R452) -/
  | rosterFullReceived (rport : Nat) (c : Caravan)
  /-- NS_REQ_RECEIVED (R457) -/
  | nsReqReceived (rport : Nat) (c : Caravan)
  /-- NS_DATA_RECEIVED (R458) -/
  | nsDataReceived (rport : Nat) (c : Caravan)
  /-- NS_DONE_RECEIVED (R458) -/
  | nsDoneReceived (rport : Nat) (c : Caravan)
  /-- PROGRESS_RECEIVED (R458) -/
  | progressReceived (rport : Nat) (c : Caravan)
  /-- BORROW_REQ_RECEIVED (R461) -/
  | borrowReqReceived (rport : Nat) (c : Caravan)
  /-- BORROW_DATA_RECEIVED (R250) -/
  | borrowDataReceived (rport : Nat) (c : Caravan) (good : Bool)
  /-- BORROW_DONE_RECEIVED (R249) -/
  | borrowDoneReceived (rport : Nat) (c : Caravan)
  /-- RESERVED_CARAVAN_RECEIVED (R444) -/
  | reservedCaravanReceived (rport : Nat) (c : Caravan)
  /-- BAD_CARAVAN (R443) -/
  | badCaravan (rport : Nat) (own : Bool)
  /-- ACK_RECEIVED (R445) -/
  | ackReceived (rport lseq : Nat)
  /-- NAK_RECEIVED (R445) -/
  | nakReceived (rport lseq : Nat)
  /-- CREDITS_RECEIVED (R445) -/
  | creditsReceived (rport n : Nat)
  /-- REPLAY_TIMEOUT (R445) -/
  | replayTimeout (rport : Nat)
  /-- CREDIT_STALL (R445) -/
  | creditStall (rport : Nat)
  /-- CARAVAN_LIFETIME_EXPIRY (R446) -/
  | caravanLifetimeExpiry (rport : Nat)
  /-- ELDER_QUIET_EXPIRY (R447) -/
  | elderQuietExpiry
  /-- HEARTBEAT_TIMER (R448) -/
  | heartbeatTimer
  /-- ELDER_LOST (R448) -/
  | elderLost
  /-- JOIN_RETRY (R449) -/
  | joinRetry
  /-- ID_RESERVATION_EXPIRY (R449) -/
  | idReservationExpiry (id : Nat)
  /-- ROUTE_REBUILD_DONE (R453) -/
  | routeRebuildDone
  /-- EXPORTER_PROGRESS_TIMER (R457) -/
  | exporterProgressTimer (src tag : Nat)
  /-- REMOTE_PROGRESS_TIMEOUT (R458) -/
  | remoteProgressTimeout (tag : Nat)
  /-- PORT_RETRAIN (R440) -/
  | portRetrain (rport : Nat)
  /-- PORT_WAKE (R454) -/
  | portWake (rport : Nat)
  /-- AUDIO_FRAME_BOUNDARY (R477) -/
  | audioFrameBoundary
  /-- AUDIO_SECTOR_ENTER (R477) -/
  | audioSectorEnter
  /-- SPDIF_BLOCK_BOUNDARY (R473) -/
  | spdifBlockBoundary
  /-- MCLK_LOST (R474) -/
  | mclkLost
  /-- MCLK_BACK (R474) -/
  | mclkBack
  /-- AUDIO_MUTE_WRITE (R479) -/
  | audioMuteWrite (v : Bool)
  /-- AUDIO_PAUSE_WRITE (R480) -/
  | audioPauseWrite (v : Bool)
  /-- AUDIO_SOURCE_WRITE (R485) -/
  | audioSourceWrite (v : Bool)
  /-- REC_FLUSH_GO (R496) -/
  | recFlushGo
  /-- REC_FLUSH_TIMER (R496) -/
  | recFlushTimer
  /-- REC_FLUSH_DONE (R496) -/
  | recFlushDone (ok : Bool)
  /-- REC_WRITE (R499) -/
  | recWrite
  /-- LIFE_SAVE_TIMER (R500) -/
  | lifeSaveTimer
  /-- LIFE_COUNTER_RESTORE (R500) -/
  | lifeCounterRestore
  /-- RD_DATA_READ (R513) -/
  | rdDataRead (port : HostPort) (k : Nat)
  /-- TRACE_START (R506) -/
  | traceStart
  /-- TRACE_STOP (R506) -/
  | traceStop
  /-- TRACE_BATCH_WRITE (R504) -/
  | traceBatchWrite (ok : Bool)
  /-- TRACE_BATCH_TIMEOUT (R504) -/
  | traceBatchTimeout (ok : Bool)
  /-- TRACE_RPTR_WRITE (R505) -/
  | traceRptrWrite (port : HostPort) (be value : Nat)
  /-- TRACE_POST_DONE (R506) -/
  | tracePostDone
  /-- MIR_KEY_WRITE (R515) -/
  | mirKeyWrite (value : Nat)
  /-- MIR_LOCK (R516) -/
  | mirLock
  /-- MIR_AUTO_LOCK (R516) -/
  | mirAutoLock
  /-- MIR_HOOK_WRITE (R518) -/
  | mirHookWrite (port : HostPort) (page be value : Nat)
  /-- MIR_SLOT_WRITE (R519) -/
  | mirSlotWrite (port : HostPort) (off be value : Nat)
  /-- MIR_BACKPRESS_WINDOW (R521) -/
  | mirBackpressWindow (page : Nat)
  /-- TESTEN_RISE (R549) -/
  | testenRise
  /-- TESTEN_FALL (R549) -/
  | testenFall
  /-- TAP_LEAVE_RESET (R550) -/
  | tapLeaveReset
  /-- EXTEST (R547) -/
  | extest (pins tdi : List Bool)
  /-- SAMPLE_PRELOAD (R547) -/
  | samplePreload (pins tdi : List Bool)
  /-- IDCODE (R547) -/
  | idcode (tdi : List Bool)
  /-- CLAMP (R547) -/
  | clamp (tdi : List Bool)
  /-- HIGHZ (R547) -/
  | highz (tdi : List Bool)
  /-- BYPASS (R547) -/
  | bypass (code : Nat) (tdi : List Bool)
  /-- FREEWHEEL_RELOCK (R205) -/
  | freewheelRelock (errs : List Int)
  /-- CODE_ERROR (R440) -/
  | codeError (rport : Nat)
  /-- RECEIVER_ERR (R308) -/
  | receiverErr (e : RxErr) (msg : Option Nat)
  /-- PCIE_REPLAY_TIMEOUT (R308) -/
  | pcieReplayTimeout (rollover : Bool) (msg : Option Nat)
  /-- ENGINE_BACKLOG (R342) -/
  | engineBacklog (engine : Nat)
  /-- TAP_RESET (R547) -/
  | tapReset
  deriving DecidableEq, Repr

end Sys2Proof
end

