-- ==== Sys2Proof/Decode.lean ====
section
/-! DEFINITION. What a word of the opcode table spells. -/

namespace Sys2Proof

/-- The command that a word spells. The table gives no row any bits, so no word spells a command. Log: 4 (DEDUCED). -/
def decodeTableWord (_nbits _w : Nat) : Option Instr := none

end Sys2Proof
end

