-- ==== Sys2Proof/Config.lean ====
section
/-! DEFINITION. What one part fixes for its whole life, and the values that the spec leaves open. None of these constants has a body: nothing can be proved of a particular value of one. -/

namespace Sys2Proof

/-- True on silicon revision B, false on revision A (R60). Log: 7 (DESIGN CHOICE). -/
opaque Config.revB : Bool
/-- The low half of the die serial number (R60: "per die"). Log: 7 (DESIGN CHOICE). -/
opaque Config.uniqueLo : BitVec 32
/-- The high half of the die serial number (R60). Log: 7 (DESIGN CHOICE). -/
opaque Config.uniqueHi : BitVec 32
/-- Fuse default of the TIA element map. Log: 7 (DESIGN CHOICE). -/
opaque Config.fuseTiaMap : BitVec 32
/-- Fuse default of the retired elements of the focus DAC. Log: 7 (DESIGN CHOICE). -/
opaque Config.fuseRetireFoc : BitVec 28
/-- Fuse default of the retired elements of the tracking DAC. Log: 7 (DESIGN CHOICE). -/
opaque Config.fuseRetireTrk : BitVec 28
/-- Fuse defaults of the TDC cell selection. Log: 7 (DESIGN CHOICE). -/
opaque Config.fuseTdcSel0 : BitVec 32
/-- Fuse defaults of the TDC cell selection. Log: 7 (DESIGN CHOICE). -/
opaque Config.fuseTdcSel1 : BitVec 32
/-- Fuse defaults of the TDC cell selection. Log: 7 (DESIGN CHOICE). -/
opaque Config.fuseTdcSel2 : BitVec 32
/-- Fuse default of the TDC line's span. Log: 7 (DESIGN CHOICE). -/
opaque Config.fuseSpanPs : BitVec 16
/-- The strap that selects the NAND level (1: 3.3 V). Log: 7 (DESIGN CHOICE). -/
opaque Config.nand33 : BitVec 1
/-- The strap that selects the I/O level (1: 3.3 V). Log: 7 (DESIGN CHOICE). -/
opaque Config.io33 : BitVec 1

/-- SYS.REVISION.REV: 0x41 is "A", 0x42 is "B" (R60). -/
def Config.revCode : Nat := if Config.revB then 0x42 else 0x41

/-- A value that the spec leaves open; the step applies it to a fresh number, so two uses share nothing. Log: 5 (DESIGN
CHOICE). -/
opaque Config.freeNat : Nat → Nat

/-- Whether an inexact quotient is rounded up (true) or down, where the spec states no rounding. The arguments are the
place that rounds, the dividend and the divisor. Log: 6 (DESIGN CHOICE). -/
opaque Config.roundUp : Nat → Int → Int → Bool

/-- What a Mirage LFSR value makes of its range, before the range is cut out of it (R523 states no mapping). Log: 48
(DESIGN CHOICE). -/
opaque Config.lfsrDraw : Nat → Nat

/-- K_DPP of R139, for which the spec gives no value: a numerator and one less than its denominator. Log: 35 (DESIGN
CHOICE). -/
opaque Config.kDppNum : Int
/-- One less than the denominator of K_DPP. Log: 35 (DESIGN CHOICE). -/
opaque Config.kDppDen : Nat

/-- The rpm that a speed in quarter steps needs at a sled position: it rests on the disc's 1× linear velocity and on the
radius of the home position, which the spec does not give (R175). Log: 38 (DESIGN CHOICE). -/
opaque Config.rpmOf : Nat → Bool → Nat → Nat

/-- The tracks between two addresses by the spiral model of R184, which needs the radius of the home position: the sled
position in µm, the address difference and the learned sector area. Log: 38 (DESIGN CHOICE). -/
opaque Config.tracksOf : Nat → Int → Nat → Nat

/-- The sector area that two verified addresses and their sled positions give (R184): it needs the radius of the home
position, which the spec does not give. Log: 38 (DESIGN CHOICE). -/
opaque Config.areaOf : Nat → Nat → Nat → Nat → Nat

/-- The drive that the sled loop makes of the tracking integrator (R186 states no gain). Log: 39 (DESIGN CHOICE). -/
opaque Config.sledDrive : Int → Int

/-- Whether a sector information byte of a DVD ID names a reserved sector type (R219 does not give the types). Log: 54
(DEDUCED). -/
opaque Config.reservedSector : Nat → Bool

/-- Blocks of the system area (R415 does not give their number). Log: 107 (DEDUCED). -/
opaque Config.systemBlocks : Nat

/-- A quotient whose rounding the spec does not state: exact where it divides, else one of its two neighbours. Log: 6
(DESIGN CHOICE). -/
def Config.quot (place : Nat) (num den : Int) : Int :=
  let q := num.fdiv den
  if den = 0 then q
  else if num % den = 0 then q
  else if Config.roundUp place num den then q + 1 else q

end Sys2Proof
end

