-- ==== Sys2Proof/Machine/State.lean ====
section
/-! DEFINITION. What the machine holds: register fields, the leaves, and the state of every block, as plain data. -/

namespace Sys2Proof.Machine

/-- The Kinds of a register field (R5, R44). `live` is an STS field that the machine derives from other state when it is read. -/
inductive Kind where
  | ctl | sts | w1c | cnt | go | shd | key | live
  deriving DecidableEq, Repr

/-- The legal values of a field (R48, R49). -/
inductive Legal where
  /-- every value of the width -/
  | any
  /-- a range; the nearer end is stored -/
  | range (lo hi : Nat)
  /-- zero or a range -/
  | zrange (lo hi : Nat)
  /-- a power of two inside a range -/
  | pow2 (lo hi : Nat)
  /-- legal values that depend on other state -/
  | custom
  deriving DecidableEq, Repr

/-- One register field: where it lies, its Kind, its reset value and its legal values. A family of registers is one
entry with a count and a stride. -/
structure Fld where
  page : Nat
  off : Nat
  lsb : Nat
  width : Nat
  kind : Kind
  reset : Nat
  legal : Legal := .any
  count : Nat := 1
  stride : Nat := 0
  exc : List (Nat × Nat) := []
  deriving DecidableEq, Repr

/-- One leaf: a bit of a page's ATN_CAUSE (R64). -/
structure Leaf where
  page : Nat
  bit : Nat
  deriving DecidableEq, Repr

/-- One row of the leaf table of R81. -/
structure LeafRow where
  group : Nat
  gbit : Nat
  page : Nat
  pbit : Nat
  n : Nat
  deriving DecidableEq, Repr

/-- What the part sends out: on its buses, links and pins, and the data that a host's read returns. -/
inductive OutMsg where
  /-- Assert_INTA on the PCIe link (R63) -/
  | assertIntA
  /-- Deassert_INTA on the PCIe link (R63) -/
  | deassertIntA
  /-- the data of a register read over one host port -/
  | regData (port : HostPort) (addr value : Nat)
  /-- a memory write to the host, poisoned or not, with the PASID of its prefix -/
  | memWrite (addr : Nat) (data : List Byte) (poison : Bool) (pasid : Option Nat)
  /-- a memory read request to the host, with the PASID of its prefix -/
  | memRead (addr len tag : Nat) (pasid : Option Nat)
  /-- a PCIe completion: its status (0 SC, 1 UR, 2 CRS, 4 CA), its data, and whether it is poisoned -/
  | completion (status : Nat) (data : List Byte) (poison : Bool)
  /-- a PCIe error message: 0 ERR_COR, 1 ERR_NONFATAL, 2 ERR_FATAL -/
  | errMsg (kind : Nat)
  /-- PME_TO_Ack, the answer to PME_Turn_Off -/
  | pmeToAck
  /-- bytes that the serial host port drives -/
  | serial (data : List Byte)
  /-- one caravan sent on a Ryrram port, and whether Mirage spoilt a symbol or a bit of it -/
  | caravan (port : Nat) (c : Caravan) (spoilt : Bool)
  /-- a link control symbol sent on a Ryrram port: 0 an ACK, 1 a NAK, 2 credits, 3 an idle burst -/
  | linkSym (port kind value : Nat)
  /-- a frame on the audio outputs: the words of AUD_SD's slots, and the left and right words of S/PDIF with their validity
  bits while it is on -/
  | audio (slots : List Nat) (spdif : Option (Nat × Nat × Bool × Bool))
  /-- an S/PDIF block's channel status -/
  | spdifStatus (data : Nat)
  /-- the bits that TDO shifts out, first one first -/
  | tap (tdo : List Bool)
  deriving DecidableEq, Repr

/-- How far the part is from power-off to work (R85, R86, R106). -/
inductive Phase where
  /-- the wake domain is in power-on reset -/
  | off
  /-- the core is held in reset until the main rails are good -/
  | held
  /-- the boot or the STANDBY exit runs -/
  | boot
  /-- the engines are released -/
  | run
  /-- STANDBY: PWR_EN is low -/
  | standby
  deriving DecidableEq, Repr

/-- What a boot follows (R89). -/
inductive BootKind where
  | por | brownout | chip | stby
  deriving DecidableEq, Repr

/-- The states that a step down can enter (R102). -/
inductive PState where
  | active | doze | nap | standby
  deriving DecidableEq, Repr

/-- Power and reset state beside the registers (R83 to R110). -/
structure Power where
  phase : Phase := .held
  kind : BootKind := .por
  /-- the PWR_EN output -/
  pwrEn : Bool := true
  /-- rails that a monitor reports low, numbered as SUPPLY_STAT.LOW -/
  low : Nat := 0
  /-- the POWER_FAIL_N pin is low -/
  pfail : Bool := false
  /-- the steps of R108 have run and fetching has not resumed -/
  pfHeld : Bool := false
  /-- the power-fail flush of R108 is under way -/
  pfFlush : Bool := false
  /-- a power-fail flush was unfinished when the power went (R109) -/
  flushShort : Bool := false
  /-- PERST_N is low -/
  perst : Bool := false
  /-- REFCLK edges arrive -/
  refclk : Bool := true
  /-- REF_LOST has set since REF_OK last rose (R80) -/
  refWasLost : Bool := false
  /-- a stage-meter window is under way -/
  window : Bool := false
  /-- the SRAM zero-fill of this boot has ended -/
  filled : Bool := false
  /-- the entry that runs -/
  entry : Option PState := none
  /-- the exit that runs: its source's code (R104) -/
  exit : Option Nat := none
  /-- the state that the running exit leaves -/
  exitFrom : Nat := 0
  /-- `elapsed` when the running exit's time began (R105) -/
  exitStart : Nat := 0
  /-- `elapsed` when the present DOZE, NAP or STANDBY was entered -/
  sleepStart : Nat := 0
  /-- a wake that arrived after STANDBY committed -/
  wakePend : Option Nat := none
  /-- the 1,000 µs discharge wait after a STANDBY entry has ended -/
  discharged : Bool := false
  /-- `elapsed` when the running idle timer last started -/
  timerStart : Nat := 0
  /-- whether an idle timer runs, and toward which state -/
  timer : Option PState := none
  /-- the instant of the first value of SYS.CHIP_RESET's sequence -/
  chipKey : Option Nat := none
  /-- pages whose forced reset runs -/
  resetting : List Nat := []
  /-- pages whose gate runs steps 1 to 4 of R92 -/
  gating : List Nat := []
  /-- pages whose power is being restored -/
  ungating : List Nat := []
  /-- pages whose reset waits for the end of a gate -/
  resetAfterGate : List Nat := []
  /-- pages whose gate waits for the end of a reset -/
  gateAfterReset : List Nat := []
  /-- a forced reset or gate of RYL waits for a quarantined tag (R94) -/
  rylEpochWait : Bool := false
  /-- a function reset's clearing is under way -/
  funcReset : Bool := false
  /-- TESTEN is high -/
  testen : Bool := false
  deriving DecidableEq, Repr

/-- A tag that a block holds open toward another block (R93). -/
structure OpenTag where
  page : Nat
  tag : Nat
  reqEpoch : Nat
  repEpoch : Nat
  deriving DecidableEq, Repr

/-- A caravan tag in quarantine (R94): the tag, the requester epoch it carried, and TIME.NOW when it began. -/
structure Quarantined where
  tag : Nat
  epoch : Nat
  since : Nat
  deriving DecidableEq, Repr

/-- An event record (R491) without its CRC, which is computed when the record is written out. -/
structure EvRec where
  opSeconds : Nat
  powerCycles : Nat
  sev : Nat
  code : Nat
  page : Nat
  slice : Nat
  repeats : Nat
  data : List Byte
  lastDelta : Nat
  deriving DecidableEq, Repr

/-- A record in the staging ring: its serial number, its content, and whether it was staged before the restore of R500. -/
structure RingRec where
  rsn : Nat
  body : EvRec
  early : Bool
  deriving DecidableEq, Repr

/-- One recorder page in the store (R496). -/
structure RecPage where
  flags : Nat
  pageSeq : Nat
  firstRsn : Nat
  recs : List EvRec
  opSeconds : Nat
  powerCycles : Nat
  erasedBelow : Nat
  /-- which of the two recorder blocks holds it -/
  block : Nat
  /-- whether it still reads: false when its CRC or its BCH fails -/
  ok : Bool
  deriving DecidableEq, Repr

/-- The event recorder's state beside its registers (R491 to R500). -/
structure Recorder where
  /-- the staging ring, oldest first -/
  ring : List RingRec := []
  /-- how many of the oldest ring records the flush under way holds -/
  flushN : Nat := 0
  /-- header byte 3 of the flush under way -/
  flushFlags : Nat := 0
  /-- the tag of a REC_ERASE that waits for the flush under way -/
  eraseTag : Option Nat := none
  /-- RECORDS_LOST already set since the last flush -/
  lostSet : Bool := false
  /-- slot 64 holds the RECORDS_LOST record -/
  lostSlot : Bool := false
  /-- records dropped since the last RECORDS_LOST record -/
  lostRun : Nat := 0
  /-- NO_NAND has set since a store last existed -/
  noNandSet : Bool := false
  /-- ERASED_BELOW -/
  erasedBelow : Nat := 0
  /-- the next page's PAGE_SEQ -/
  pageSeq : Nat := 0
  /-- the active recorder block -/
  active : Nat := 0
  /-- OP_SECONDS when the last page programmed by a flush of any kind -/
  lastPageSec : Nat := 0
  /-- the life counters have been restored since engine release -/
  restored : Bool := false
  /-- the flush under way was started by REC_CMD.FLUSH -/
  flushGo : Bool := false
  /-- the next restore follows a reset of REC: the SYS counters keep their values (R511) -/
  again : Bool := false
  deriving DecidableEq, Repr

/-- A trace record before it takes its SEQ (R501). -/
structure TrcRec where
  src : Nat
  kind : Nat
  drop : Bool
  lost : Bool
  stamp : Nat
  payload : List Byte
  deriving DecidableEq, Repr

/-- The trace's state beside its registers (R501 to R509). -/
structure Trace where
  /-- records in the source FIFOs and the markers, in arrival order -/
  queue : List TrcRec := []
  /-- sources whose next record carries DROP -/
  dropNext : List Nat := []
  /-- samples seen by each divided source since its last record -/
  divCount : List Nat := [0, 0, 0, 0, 0, 0]
  /-- records dropped since START -/
  droppedRun : Nat := 0
  /-- records written since START -/
  written : Nat := 0
  /-- records still to be written after the trigger -/
  postLeft : Option Nat := none
  /-- the trigger leaf set in the command under way and its marker is still to be written -/
  trigHit : Bool := false
  /-- RECORDS_LOST set since START -/
  lostSet : Bool := false
  /-- STREAM_STALL set in this run -/
  stallSet : Bool := false
  /-- the tag of the TRACE_CTL START that the running trace holds -/
  startTag : Option Nat := none
  /-- the SEQ of the last STOP marker -/
  stopSeq : Nat := 0
  /-- a stalled stream has resumed, and the next record carries DROP (R505) -/
  resumed : Bool := false
  deriving DecidableEq, Repr

/-- A DMA read of command data (R291, R293): its PCIe tag once it is sent, the command that it serves, its offset in the
command's data, and its host address and length. -/
structure DmaRead where
  ptag : Nat := 0
  ctag : Nat
  off : Nat
  addr : Nat
  len : Nat
  deriving DecidableEq, Repr

/-- One access gathered from a serial write (R300): a dword of BAR0 or of the doorbell page at its serial address, or
bytes that fall into one word of the cache window. -/
inductive SerAcc where
  | reg (addr value : Nat)
  | window (off : Nat) (data : List Byte)
  deriving DecidableEq, Repr

/-- State of the two host ports that no BAR0 register holds (11_host_ports.md): what configuration writes set, the DMA
reads, and the serial write buffer. -/
structure Pci where
  /-- Interrupt Disable, and Memory Space Enable, of the PCI Command register -/
  intDisable : Bool := false
  memEn : Bool := false
  /-- the addresses that the three 64-bit BARs hold -/
  bars : List Nat := [0, 0, 0]
  /-- Device Control: Max Payload Size, Max Read Request Size, Extended Tag Field Enable -/
  mps : Nat := 128
  mrrs : Nat := 512
  extTag : Bool := false
  /-- DMA reads outstanding, and those still to be sent, in order -/
  reads : List DmaRead := []
  readQ : List DmaRead := []
  /-- serial accesses that wait to be applied (R301) -/
  serBuf : List SerAcc := []
  /-- a serial transaction, and a quad one while QUAD_EN is 1, has been seen since engine release (R308) -/
  spiSeen : Bool := false
  quadSeen : Bool := false
  deriving DecidableEq, Repr

/-- A calibration operation that waits for the slot or works in it (R132). -/
inductive CalOp where
  /-- a run, started by RUN_CTL.GO, or by a native command that holds a tag -/
  | run (tag : Option Nat)
  /-- a restore started by RESTORE_CTL.GO -/
  | restore
  /-- a restore started by a native command, of a supplied blob or of the retained copy -/
  | restoreCmd (tag : Nat) (blob : Option (List Byte))
  /-- the restore of R131 that a boot runs -/
  | restoreBoot
  deriving DecidableEq, Repr

/-- The calibration block's state beside its registers (R117 to R135). -/
structure Cal where
  /-- operations that wait, in the order of their GO -/
  wait : List CalOp := []
  /-- the operation that works -/
  work : Option CalOp := none
  /-- the blob that a working restore took when it started, and whether it was the retained copy -/
  blob : Option (List Byte) := none
  fromKept : Bool := false
  /-- what the working run has found so far: the code of its earliest failure, and the set to be committed -/
  fail : Nat := 0
  tiaMap : List Nat := []
  tiaOfs : List Int := []
  retireFoc : List Nat := []
  retireTrk : List Nat := []
  tdcSel : List Nat := []
  tdcDelay : List Nat := []
  gain780 : Nat := 4096
  gain650 : Nat := 4096
  /-- the 64 TDC cell delays of the active set; none while they are the fuse nominal value -/
  activeDelay : List Nat := []
  /-- CAL.DRIFT may set (R135) -/
  driftArmed : Bool := true
  deriving DecidableEq, Repr

/-- The states of a queue pair that exists (R314, R343). -/
inductive QState where
  | active | draining | halted | aborting
  deriving DecidableEq, Repr

/-- A queue pair (R310 to R317). -/
structure QPair where
  slice : Nat
  qp : Nat
  depth : Nat
  loc : Bool
  atomic : Bool
  sqBase : Nat
  cqBase : Nat
  state : QState := .active
  sqHead : Nat := 0
  sqTail : Nat := 0
  cqHead : Nat := 0
  cqTail : Nat := 0
  phase : Bool := true
  /-- a completion write has failed: no further completion is written (R314) -/
  lostCq : Bool := false
  /-- the 18 bytes of sense data held for REQUEST SENSE, and whether they were read (R357) -/
  sense : Option (List Byte) := none
  /-- a running DELETE or ABORT of QP_CMD, whose GO field ends with it (R45) -/
  byGo : Bool := false
  /-- the pair is deleted when its abort ends (R398) -/
  deleteAfter : Bool := false
  deriving DecidableEq, Repr

/-- An entry accepted and not yet fetched: its queue pair, its index and its place in the acceptance order (R321). -/
structure Accepted where
  slice : Nat
  qp : Nat
  index : Nat
  place : Nat
  at_ : Nat
  /-- ABORT_ALL has met it: it ends ABORTED when it is fetched (R368) -/
  abort : Bool := false
  deriving DecidableEq, Repr

/-- How far a fetched command has come. -/
inductive CmdStage where
  /-- it waits in a hazard chain, for a fence, or under R328 -/
  | fetched
  /-- CMD has taken it and it may run -/
  | dispatched
  /-- it has ended and its completion is to be written -/
  | ended
  deriving DecidableEq, Repr

/-- A command that holds a tag (R323). -/
structure Cmd where
  tag : Nat
  slice : Nat
  qp : Nat
  place : Nat
  at_ : Nat
  loc : Bool
  atomic : Bool
  /-- the 64 bytes of its submission entry (R315) -/
  entry : List Byte
  /-- the SQ head after the entry was consumed -/
  sqHead : Nat
  stage : CmdStage := .fetched
  /-- `elapsed` when it was fetched -/
  fetchedAt : Nat := 0
  /-- data that a DMA read brought in from the host (R293) -/
  dataIn : Option (List Byte) := none
  /-- what DMA reads for it have brought so far: offset and bytes (R291) -/
  dmaGot : List (Nat × List Byte) := []
  /-- a DMA read for it is under way -/
  dmaRead : Bool := false
  /-- its work has begun: what it asked of an engine is not asked twice -/
  started : Bool := false
  /-- a field of it was clamped with a record -/
  clampSeen : Bool := false
  /-- data returned by a remote exporter: offset and bytes (R458) -/
  remote : List (Nat × List Byte) := []
  /-- the exporter's SPECIFIC, RESIDUAL and STATUS, once NS_DONE has come -/
  remoteDone : Option (Nat × Nat × Nat) := none
  /-- blocks of the disc that its ladder gave up, and blocks that met another error, with the status of each -/
  failed : List Nat := []
  errs : List (Nat × Nat) := []
  /-- its result once it has ended -/
  status : Nat := 0
  specific : Nat := 0
  residual : Nat := 0
  /-- the LBA of the first failed block, for sense data (R356) -/
  senseLba : Option Nat := none
  /-- ASC and ASCQ where the status alone does not fix them -/
  asc : Option (Nat × Nat) := none
  /-- blocks delivered or, in the library, read for it so far: local NSID and block -/
  got : List (Nat × Nat) := []
  /-- library blocks whose read failed (R408, R412): local NSID and block -/
  lost : List (Nat × Nat) := []
  deriving DecidableEq, Repr

/-- A request at a shared engine: whose it is, the credits of each of its units, how many units are left, and since when
its first unit has waited; none once that unit was served (R392, R395). -/
structure EngReq where
  slice : Nat
  tag : Nat
  credits : Nat
  units : Nat
  bytes : Nat
  since : Option Nat
  deriving DecidableEq, Repr

/-- One slice at one shared engine (R393, R396). -/
structure EngSlice where
  slice : Nat
  deficit : Nat := 0
  /-- credits served in the present 100 ms window, and in the last one -/
  served : Nat := 0
  lastServed : Nat := 0
  /-- ready throughout the present window so far -/
  allReady : Bool := false
  /-- its SHARE_LOW leaf has set and it has not been restored -/
  low : Bool := false
  deriving DecidableEq, Repr

/-- A shared engine (R392, R393). -/
structure Engine where
  reqs : List EngReq := []
  newList : List Nat := []
  oldList : List Nat := []
  cur : Option Nat := none
  sl : List EngSlice := []
  /-- credits of the present and of the last window -/
  total : Nat := 0
  lastTotal : Nat := 0
  deriving DecidableEq, Repr

/-- One slice's buckets and marks (R381, R385, R388, R391). Levels are in 1,024ths. -/
structure SliceSt where
  slice : Nat
  cmdLevel : Nat
  byteLevel : Int
  cmdHeld : Bool := false
  byteHeld : Bool := false
  /-- spoofs in the present second of TIME.NOW, and whether SPOOF_RATE set for it -/
  spoofs : Nat := 0
  spoofSec : Nat := 0
  rateSet : Bool := false
  /-- the present run of tag-cap holds has been reported -/
  capRun : Bool := false
  /-- the slice reset runs; the abort of its queue pairs runs -/
  resetting : Bool := false
  aborting : Bool := false
  /-- the slice reset was started by SLICE_CMD.RESET, whose GO field ends with it -/
  resetGo : Bool := false
  /-- a rebinding waits for the end of its reset (R376): 1 unbind, 2 bind anew -/
  rebind : Nat := 0
  /-- its unit attention reports a bind or reset (1) or a medium change (2); 0 none (R358) -/
  ua : Nat := 0
  /-- pending events by class: operational change, power, external request, media, busy (R361) -/
  events : List (Nat × Nat) := []
  /-- PER and the read retry count of mode page 0x01; none while it is the default (R362) -/
  per : Bool := false
  retry : Option Nat := none
  deriving DecidableEq, Repr

/-- The queue engine, CMD and the slices, beside their registers. -/
structure Queues where
  pairs : List QPair := []
  accepted : List Accepted := []
  cmds : List Cmd := []
  nextPlace : Nat := 0
  /-- NOTICE of each slice's doorbell page, and the NOTICE_EN values that are not 0xFF, by slice (R318) -/
  notices : List (Nat × Nat) := []
  noticeEn : List (Nat × Nat) := []
  slices : List SliceSt := []
  /-- tags whose completions wait on full CQs, in the order they came (R324) -/
  cqWaiting : List Nat := []
  dec : Engine := {}
  nand : Engine := {}
  ryl : Engine := {}
  dma : Engine := {}
  /-- whether some slice from 1 to 63 has had work since IDLE_ALL last set (R399) -/
  hadWork : Bool := false
  /-- the block after the last disc read that missed, from which read-ahead goes on (R337) -/
  ahead : Option Nat := none
  /-- the disc profile last reported (R360) -/
  profile : Nat := 0
  deriving DecidableEq, Repr

/-- An entry of MEM's correctable or uncorrectable table (R269, R270). -/
structure TabEnt where
  entry : Nat
  word : Nat
  synd : Nat
  count : Nat
  bit : Nat
  cleared : Bool := false
  deriving DecidableEq, Repr

/-- Who holds a page of the engine pool. -/
inductive PageUse where
  /-- cached sectors (R336) -/
  | cache
  /-- the Barchan accumulator (R245) -/
  | accum
  /-- the roster copy (R453) -/
  | roster
  /-- the audio FIFO (R477) -/
  | audio
  deriving DecidableEq, Repr

/-- A request that waits for pages (R275). -/
structure PageReq where
  use : PageUse
  pages : Nat
  deriving DecidableEq, Repr

/-- A sector held in the engine pool (R336): its namespace, its block, where it lies and how long it is; `raw` sectors
carry their subcode and C2 pointers behind their 2,352 bytes. -/
structure Cached where
  ns : Nat
  block : Nat
  off : Nat
  len : Nat
  raw : Bool
  /-- the statuses of class 1 that its source gave it, as bits of INFO (R351), and its ladder level -/
  info : Nat
  level : Nat
  /-- ordinal of its last use -/
  used : Nat
  deriving DecidableEq, Repr

/-- The sector cache beside its registers and its array (R259 to R283). -/
structure MemSt where
  ceTab : List TabEnt := []
  ueTab : List TabEnt := []
  /-- correctable events in the present second of TIME.NOW -/
  ceSec : Nat := 0
  ceCount : Nat := 0
  /-- pages granted, by rising number -/
  owners : List (Nat × PageUse) := []
  wait : List PageReq := []
  sectors : List Cached := []
  useCount : Nat := 0
  /-- the size that a HOST_PAGES write asked for and the SOURCE of its clamp records (R276) -/
  hostPend : Option (Nat × Nat) := none
  /-- SCRUB_LATE has set in this pass -/
  scrubLate : Bool := false
  /-- bank accesses of the present command whose address parity will fail (R262) -/
  parityFaults : Nat := 0
  deriving DecidableEq, Repr

/-- Mirage's state beside its registers (R515 to R528). -/
structure Mir where
  /-- the instant of the first value of the KEY sequence, while one has begun -/
  keyAt : Option Nat := none
  /-- the instant of the last unlock, hook write or slot write, from which AUTO_LOCK_S counts -/
  touched : Nat := 0
  /-- events passed untouched by each slot since it was armed -/
  skipped : List Nat := [0, 0, 0, 0, 0, 0, 0, 0]
  /-- each slot's LFSR -/
  lfsr : List Nat := [1, 1, 1, 1, 1, 1, 1, 1]
  /-- pages whose hook has acted since it became non-zero: their leaf has set -/
  acted : List Nat := []
  /-- the PATTERN bit that each hooked page's next window takes -/
  window : List (Nat × Nat) := []
  /-- pages whose present BACKPRESS or GRANT window withholds -/
  withheld : List Nat := []
  /-- operations that took a result event and still run -/
  running : Nat := 0
  deriving DecidableEq, Repr

/-- One segment of the Erg map (R240). -/
structure Seg where
  slot : Nat
  layer : Nat
  kind : Nat
  aLo : Nat
  aHi : Nat
  hits : Nat := 0
  tStart : Nat
  tEnd : Nat
  long : Bool := false
  crack : Bool := false
  shadow : Bool := false
  falseRun : Nat := 0
  deriving DecidableEq, Repr

/-- The Erg map's state beside its registers (R240 to R244). -/
structure Erg where
  segs : List Seg := []
  /-- zones whose ZONE_DENSE leaf has set for this disc -/
  dense : List Nat := []
  /-- θ of the first covered bit of each dropout that CHN declared since the last predicted hold began -/
  drops : List Nat := []
  /-- fill leaves that have set: the most slots filled at once since the map was empty -/
  most : Nat := 0
  deriving DecidableEq, Repr

/-- A focus or tracking loop beside its registers (R142 to R161). -/
structure LoopSt where
  /-- latched off until the request is written off and on again (R146) -/
  latched : Bool := false
  /-- lost; it starts again only with AUTO_REACQ, or when the request is written anew -/
  lost : Bool := false
  /-- the two biquads: x[n−1], x[n−2], y[n−1], y[n−2] of each, with 22 fraction bits -/
  bq1 : List Int := [0, 0, 0, 0]
  bq2 : List Int := [0, 0, 0, 0]
  /-- the integrator, with 8 fraction bits -/
  integ : Int := 0
  /-- the last drive -/
  u : Int := 0
  /-- the last error; none after a reset -/
  e : Option Int := none
  /-- runs of samples: below the loss threshold or above it, within LOCK_THR, at the drive limit, good in a hold -/
  lossRun : Nat := 0
  lockRun : Nat := 0
  satRun : Nat := 0
  goodRun : Nat := 0
  /-- the present run at the drive limit has been reported -/
  satSeen : Bool := false
  /-- the upward sweeps that have begun, and whether the drive is still on its way down to the first -/
  sweeps : Nat := 0
  down : Bool := false
  /-- the ramp of a release or a sweep in thousandths of a code -/
  ramp : Int := 0
  /-- θ at the entry of the present hold, and whether SUM fell below the drop threshold in it -/
  holdAt : Nat := 0
  holdLow : Bool := false
  /-- samples that the present hold has lasted -/
  holdRun : Nat := 0
  /-- mean total drive of each bin over the previous revolution (R158) -/
  lastRev : List (Nat × Int) := []
  /-- the bins of the present revolution: bin, sum of feedback drive, sum of total drive, samples, clean -/
  bins : List (Nat × Int × Int × Nat × Bool) := []
  /-- the bins of the revolution that has just ended, until FF_LEARN_WRAP takes them -/
  ended : Option (List (Nat × Int × Int × Nat × Bool)) := none
  /-- wraps in a row with RESID below DONE_THR, and above DRIFT_THR -/
  doneRun : Nat := 0
  driftRun : Nat := 0
  deriving DecidableEq, Repr

/-- The steps of a layer jump (R152). -/
inductive JumpStep where
  | waiting | kick | coast | brake | settle
  deriving DecidableEq, Repr

/-- The optics beside their registers (06_optical_loops.md). -/
structure Optics where
  foc : LoopSt := {}
  trk : LoopSt := {}
  jump : Option JumpStep := none
  /-- samples at or above the drop threshold since a jump closed -/
  jumpRun : Nat := 0
  /-- whether the coast has met its crossing -/
  jumpCross : Bool := false
  /-- the last SUM values, at most 4,096 and the seed among them, that SUM_AVG is the mean of -/
  sums : List Nat := []
  /-- a host jump waits for the end of a seek (R193) -/
  jumpWait : Bool := false
  /-- the direction of a jump that SLD asked for -/
  jumpBySeek : Bool := false
  /-- the laser is latched off until WAVE is written 0 and on again (R146) -/
  laserLatched : Bool := false
  /-- target_now and the integrator of R163, each with 8 fraction bits -/
  target : Int := 0
  integ : Int := 0
  /-- runs of samples: within tolerance, at the drive limit with low MON, above and below tolerance -/
  okRun : Nat := 0
  limRun : Nat := 0
  overRun : Nat := 0
  underRun : Nat := 0
  /-- I_REF is to be captured at the next LOCKED sample, by wavelength: 780 nm, 650 nm -/
  cap780 : Bool := true
  cap650 : Bool := true
  /-- the degrade leaf has set since the capture -/
  deg780 : Bool := false
  deg650 : Bool := false
  /-- drives of the last second lit, by wavelength -/
  drv780 : List Nat := []
  drv650 : List Nat := []
  /-- samples lit since the last counted second, by wavelength -/
  lit780 : Nat := 0
  lit650 : Nat := 0
  /-- the wavelength lit before the present one, for LPC_SWITCHED -/
  switched : Bool := false
  deriving DecidableEq, Repr

/-- A unit on the recovery ladder or in decode (R228, R233). -/
structure EUnit where
  addr : Nat
  layer : Nat
  /-- the ladder level it is at, by its code -/
  level : Nat := 0
  /-- the most re-reads that its commands allow, beside REREAD_N (R362) -/
  tries : Nat := 255
  /-- sectors of the unit that are still needed, as bits -/
  need : Nat
  /-- the highest level that its commands allow: 7 sets no limit (R234) -/
  most : Nat := 7
  /-- read for the direct CD-DA path (R237) -/
  direct : Bool := false
  /-- it holds the mechanism (R235), and its re-read attempts so far -/
  holding : Bool := false
  attempts : Nat := 0
  /-- Mirage makes its decodes fail below this level (R524) -/
  forced : Nat := 0
  /-- peers asked for it so far, the one that is asked now among them (R249) -/
  asked : List Nat := []
  /-- its failed sectors as the last decode left them -/
  bad : List SectorDec := []
  deriving DecidableEq, Repr

/-- A CD-DA sector decoded for the direct path (R237): its address, data, subcode and C2 pointers. -/
structure ReadySec where
  addr : Nat
  data : List Byte
  sub : List Byte
  c2 : List Byte
  deriving DecidableEq, Repr

/-- The decoder's state beside its registers. -/
structure Ecd where
  units : List EUnit := []
  /-- units that failed level 0 in the present second of TIME.NOW, and whether FAIL_RATE has set for it (R253) -/
  failSec : Nat := 0
  fails : Nat := 0
  failSet : Bool := false
  /-- sectors of the direct path that wait for the audio FIFO (R237) -/
  ready : List ReadySec := []
  deriving DecidableEq, Repr

/-- The Barchan averager beside its registers (R245 to R248). -/
structure Avg where
  /-- the accumulator's words that hold a sample: grid bit, SUM and N, by rising grid bit -/
  acc : List (Nat × Int × Nat) := []
  /-- passes taken since the pass count last started -/
  taken : Nat := 0
  /-- combines in a row without gain -/
  flat : Nat := 0
  /-- erased samples of the best single pass and of the last combine -/
  best : Option Nat := none
  last : Option Nat := none
  deriving DecidableEq, Repr

/-- A request for the seek slot (R184): by SEEK_CMD.GO, or by the commands that hold tags. -/
structure SeekReq where
  byGo : Bool
  addr : Nat
  layer : Nat
  deriving DecidableEq, Repr

/-- The mechanism beside its registers (07_spindle_sled_loader.md). -/
structure Drive where
  /-- disc work wants the spindle to turn (R178) -/
  demand : Bool := false
  /-- ACTIVE, but no disc work has restarted the mechanism after a NAP or STANDBY exit (R105, R146) -/
  parked : Bool := false
  /-- the spindle drive is latched off until HOLD_STOP toggles 1 then 0 (R183), and whether the 1 has been written -/
  latched : Bool := false
  toggled : Bool := false
  /-- SPN_FLT_N, SLD_FLT_N and LDR_FLT_N are low -/
  flt : Nat := 0
  /-- commutation events modulo 6 × POLE_PAIRS, and the offset that BEMF alignment adopted (R181) -/
  comm : Nat := 0
  angleOfs : Nat := 0
  /-- samples for BEMF alignment: an alignment awaits the end of this revolution -/
  alignDue : Bool := false
  /-- `elapsed` when the present spin-up began -/
  spinAt : Nat := 0
  /-- the state before ZONING was a spin-up: LOCKED then sets SPN_UP -/
  spinUp : Bool := false
  /-- SPN's P + I integrator, with 8 fraction bits -/
  integ : Int := 0
  /-- quarter steps taken off for unbalance (R183), and revolutions in a row above UNBAL_THR -/
  unbal : Nat := 0
  ripples : Nat := 0
  /-- SPN_SPINUP_SLOW has set in this spin-up -/
  slowSet : Bool := false
  /-- the speed reference in 1/1,125 rpm (R178) -/
  ref : Int := 0
  /-- spindle samples in a row: within 1 % of target, 10 % behind the reference, 2 % off in RATE mode -/
  lockRun : Nat := 0
  slowRun : Nat := 0
  rateRun : Nat := 0
  /-- the drive is off until the rpm falls below RPM_MAX -/
  overspeed : Bool := false
  /-- sled samples in a row: the integrator above CREEP_THR, PWM at its limit -/
  creepRun : Nat := 0
  pwmRun : Nat := 0
  /-- the target rpm of the last zone evaluation -/
  target : Nat := 0
  /-- the layer 1 addresses of the disc run backward (R173) -/
  otp : Bool := false
  /-- requests that wait for the seek slot, and the one that holds it -/
  seeks : List SeekReq := []
  seek : Option SeekReq := none
  /-- the address that the running seek started from, and the tracks it estimated -/
  seekFrom : Nat := 0
  seekTracks : Int := 0
  /-- an abort waits for the step boundary -/
  seekAbort : Bool := false
  /-- the last two verified addresses with POSITION_UM at each, for the learned sector area -/
  learned : List (Nat × Nat) := []
  /-- a slip awaits its address (R185), and the sector that the read still needs -/
  slip : Option Nat := none
  /-- a correcting fine seek runs -/
  fixing : Bool := false
  /-- inputs of the loader: LDR_LIM_A and LDR_LIM_B high, LDR_SLOT asserted, LDR_EJECT_N low -/
  limA : Bool := true
  limB : Bool := true
  slot : Bool := false
  button : Bool := false
  /-- the direction of the loader's motion while it moves: false inward, true outward -/
  outward : Bool := false
  /-- the drive that a power failure interrupted (R193) -/
  moveHeld : Bool := false
  /-- an accepted eject waits for SPN to stop (R190) -/
  ejecting : Bool := false
  /-- the step of R191 that detection does next -/
  detect : Nat := 0
  /-- the disc's identity (R460), none before it is formed, and the last disc's -/
  discId : Option (List Byte) := none
  lastId : Option (List Byte) := none
  /-- the table of contents or control data of the disc in the drive -/
  toc : DiscInfo := {}
  /-- layers that detection found -/
  layers : Nat := 0
  deriving DecidableEq, Repr

/-- What Oasis keeps on NAND beside the library's own pages, by disc identity: Erg maps (R243). -/
structure SavedMap where
  ident : List Byte
  segs : List Seg
  /-- it still passes its check -/
  ok : Bool := true
  deriving DecidableEq, Repr

/-- The newest committed copy of a library block: its namespace 0 to 15, its write sequence number, its data, and the
die that holds it (R407, R420). -/
structure LibBlock where
  ns : Nat
  block : Nat
  seq : Nat
  die : Nat
  data : List Byte
  deriving DecidableEq, Repr

/-- A library write or trim that has taken a sequence number and has not committed whole (R420 to R422). -/
structure LibWrite where
  tag : Nat
  atomic : Bool
  trim : Bool
  ns : Nat
  block : Nat
  count : Nat
  seq : Nat
  data : List Byte
  /-- sectors programmed so far, and the die of the last program -/
  programmed : Nat := 0
  die : Nat := 0
  /-- the command that holds it still runs -/
  live : Bool := true
  /-- the status, the specific result and the residual that the command ends with -/
  status : Nat := 0
  specific : Nat := 0
  residual : Nat := 0
  deriving DecidableEq, Repr

/-- A recovered sector in the shadow store, or queued for it (R428). -/
structure ShadowSec where
  ident : List Byte
  layer : Nat
  addr : Nat
  dvd : Bool
  data : List Byte
  deriving DecidableEq, Repr

/-- The NAND parts and what they hold; no reset and no power loss clears it. Pointers and erase counts are by die and
block. -/
structure Nand where
  /-- what discovery found last: none with no usable part -/
  part : Option NandPart := none
  /-- the dies in use, by their index (R81) -/
  dies : List Nat := []
  /-- a valid superblock, its LIB_ID, its geometry (dies, blocks per die, pages per block) and the namespace sizes -/
  formatted : Bool := false
  libId : Nat := 0
  geom : Nat × Nat × Nat := (0, 0, 0)
  sizes : List (Nat × Nat) := []
  /-- committed blocks, oldest commit first -/
  lib : List LibBlock := []
  /-- writes since the last checkpoint that have no commit record -/
  writes : List LibWrite := []
  /-- the last sequence number taken, and the last one committed -/
  seq : Nat := 0
  committed : Nat := 0
  /-- the journal's last entry: 0 a record, 1 an unmount record, 2 a flush marker (R425) -/
  mark : Nat := 0
  /-- the shadow store, oldest written first -/
  shadow : List ShadowSec := []
  /-- write pointers that are not 0, and erase counts that are not 0 -/
  ptrs : List ((Nat × Nat) × Nat) := []
  erases : List ((Nat × Nat) × Nat) := []
  /-- bad blocks, and the spares used of each die -/
  bad : List (Nat × Nat) := []
  sparesUsed : List (Nat × Nat) := []
  deriving DecidableEq, Repr

/-- The library's volatile state beside its registers. -/
structure Lib where
  /-- blocks whose pointer is known while the library is not mounted (R419) -/
  known : List (Nat × Nat) := []
  /-- recovered sectors that wait to be written to the shadow store (R239) -/
  shadowQ : List ShadowSec := []
  /-- dies that are not addressed until the next mount, and the run of failed operations of each die (R412) -/
  dead : List Nat := []
  failRun : List (Nat × Nat) := []
  /-- the raw operation that runs: OP, die, block, page and buffer page (R418) -/
  raw : Option (Nat × Nat × Nat × Nat × Nat) := none
  /-- SHADOW_FULL has set for this filling; GC_BEHIND has set while blocks are short -/
  shadowFull : Bool := false
  gcBehind : Bool := false
  deriving DecidableEq, Repr


/-- The channel and the demodulator beside their registers (08_event_channel.md). -/
structure Chan where
  /-- the recovered bit period in 1/65,536 fs, and the phase of the grid in the same unit (R204) -/
  period : Int := 0
  phase : Int := 0
  /-- phase errors of the last crossings, newest first, at most 256, in 1/4,096 of a bit period -/
  errs : List Int := []
  /-- RATE_KBPS at the last RATE_CHANGE or at the entry into LOCKED (R206) -/
  rateRef : Nat := 0
  /-- θ of the first covered bit of the present dropout, with the address and layer in use then (R211) -/
  dropTheta : Nat := 0
  dropAddr : Nat := 0
  dropLayer : Nat := 0
  /-- CHN.TDC_DRIFT may set (R202) -/
  driftArmed : Bool := true
  /-- `elapsed` when SNR fell below SNR_THR in LOCKED, and whether SNR_LOW has set since (R225) -/
  snrSince : Option Nat := none
  snrSet : Bool := false
  /-- the last stored Q; its second and third dwords are what SUBQ_READ copies (R218, R220) -/
  q : List Byte := []
  /-- syncs at exact frame spacing in SEARCH (R214) -/
  syncs : Nat := 0
  /-- CHN has been LOCKED throughout since the previous found sync (R214) -/
  through : Bool := false
  /-- subcode blocks in a row without S0 and S1 in their frames (R218) -/
  missed : Nat := 0
  /-- entries handed to ECD and not yet taken into a decode, oldest first (R216) -/
  entries : List Nat := []
  deriving DecidableEq, Repr


/-- A caravan in an output queue, in a replay buffer or held for sending again (R445, R446): the port it arrived on, none
when it is this node's own, and `elapsed` when its last symbol arrived. -/
structure QCar where
  c : Caravan
  came : Option Nat := none
  since : Nat := 0
  deriving DecidableEq, Repr

/-- One Ryrram port beside PORT_STAT. -/
structure RPort where
  /-- HELLO sent and received since training began -/
  sentHello : Bool := false
  gotHello : Bool := false
  /-- the next LSEQ to send and the next one expected -/
  txSeq : Nat := 0
  rxNext : Nat := 0
  /-- sent and not acknowledged, oldest first, and how often the oldest was replayed -/
  unacked : List QCar := []
  replays : Nat := 0
  /-- the output queue, and whether the last caravan sent was a forwarded one -/
  queue : List QCar := []
  lastFwd : Bool := false
  deriving DecidableEq, Repr

/-- BEST (R447): a key, its hop count and the port that taught it. -/
structure Best where
  priority : Nat
  unique : Nat
  hops : Nat
  port : Nat
  deriving DecidableEq, Repr

/-- A caravan transaction that this node has open: its tag and epoch, its peer, and the command or the unit it serves. -/
structure RylOpen where
  ctag : Nat
  epoch : Nat
  node : Nat
  cmd : Option Nat := none
  unit : Option (Nat × Nat) := none
  deriving DecidableEq, Repr

/-- An NS_REQ that this node serves (R457): its requester, its key in the acceptance queue, and its entry. -/
structure Serve where
  src : Nat
  tag : Nat
  epoch : Nat
  key : Nat
  entry : List Byte
  deriving DecidableEq, Repr

/-- A BORROW_REQ that this node serves from its disc (R461): the sectors still to come, and whether any was sent. -/
structure BServe where
  src : Nat
  tag : Nat
  epoch : Nat
  layer : Nat
  addr : Nat
  need : Nat
  missing : Nat := 0
  sent : Bool := false
  deriving DecidableEq, Repr

/-- The Ryrram node beside its registers (16_ryrram_link.md). -/
structure Ryl where
  ports : List RPort := [{}, {}, {}]
  /-- none while BEST is the node's own key -/
  best : Option Best := none
  /-- a lost elder's key, and until when it is ignored (R448) -/
  ignore : Option (Nat × Nat × Nat) := none
  /-- the roster must be taken whole from the elder (R452) -/
  needSync : Bool := false
  /-- no ROSTER of the present elder has been received yet -/
  awaitElder : Bool := true
  roster : List RosterEnt := []
  /-- what the nodes reported by NEIGH, at the elder -/
  reports : List RosterEnt := []
  /-- reserved IDs, oldest first: UNIQUE and ID (R449) -/
  reserved : List (Nat × Nat) := []
  /-- the ID last held -/
  lastId : Option Nat := none
  /-- this node's entry as last reported -/
  reported : Option RosterEnt := none
  /-- the route table: node, port and hops (R453) -/
  routes : List (Nat × Nat × Nat) := []
  rebuilding : Bool := false
  /-- a removing generation has been applied and its recovery is not complete (R464) -/
  lossPending : Bool := false
  /-- entries of a ROSTER_FULL whose last caravan has not come -/
  full : List RosterEnt := []
  /-- forwarded caravans held for the next route (R446) -/
  held : List QCar := []
  opens : List RylOpen := []
  serves : List Serve := []
  nextServe : Nat := 0
  bserves : List BServe := []
  deriving DecidableEq, Repr


/-- A sector in the audio FIFO (R477): its LBA, its 2,352 bytes, its C2 pointers, its Q where that passed its CRC, and
whether it belongs to the present play rather than to the one that a skip ended (R484). -/
structure AudSec where
  lba : Nat
  data : List Byte
  c2 : List Byte
  q : Option (List Byte)
  fresh : Bool := true
  deriving DecidableEq, Repr

/-- How a play's range ends (R483): at its last sector, before a data track, or before the lead-out. -/
inductive PlayEnd where
  | range | data | leadOut
  deriving DecidableEq, Repr

/-- The AUDIO_PLAY that runs (R476, R483, R484). -/
structure Play where
  tag : Nat
  /-- the sector that enters the FIFO next, and the sector after the last one -/
  next : Nat
  stop : Nat
  how : PlayEnd
  /-- a burst of reading is under way -/
  reading : Bool := true
  /-- the LBA of the last sector whose final frame left the outputs -/
  lastOut : Option Nat := none
  /-- a sample has been interpolated or muted -/
  concealed : Bool := false
  /-- a skip whose first sample has not been output; SEEK_GAP has set for it -/
  skip : Bool := false
  gap : Bool := false
  /-- the status with which the play ends once its ramp is done -/
  ending : Option Nat := none
  deriving DecidableEq, Repr

/-- A run of flagged samples of one channel that is being output (R478): muted, or interpolated between two good samples. -/
structure AudRun where
  muted : Bool
  before : Int := 0
  after : Int := 0
  n : Nat := 0
  k : Nat := 0
  deriving DecidableEq, Repr

/-- Direct audio out beside its registers (17_audio_out.md). A ramp's level runs from 0, silence, upward; none is full. -/
structure Aud where
  fifo : List AudSec := []
  /-- the frame of the first sector that is output next -/
  pos : Nat := 0
  play : Option Play := none
  /-- the tags of AUDIO_STOP commands that wait for the ramp -/
  stops : List Nat := []
  /-- frames of zeros still to come after a change of format -/
  zeros : Nat := 0
  pauseLvl : Option Nat := none
  muteLvl : Option Nat := none
  stopLvl : Option Nat := none
  upLvl : Option Nat := none
  runL : Option AudRun := none
  runR : Option AudRun := none
  /-- the last good sample of each channel -/
  goodL : Option Int := none
  goodR : Option Int := none
  /-- the last frame was one of a mute of R478; of a run of empty frames; of the host path -/
  inMute : Bool := false
  inGap : Bool := false
  hostOn : Bool := false
  /-- sectors in a row without a valid Q -/
  noQ : Nat := 0
  /-- MCLK_IN counts of the last windows, newest first, at most 1,000 -/
  windows : List Nat := []
  deriving DecidableEq, Repr



/-- The test access port (R547, R548): its instruction by its code, and the latch of the boundary register, cell 0 first. -/
structure Tap where
  /-- it has left Test-Logic-Reset -/
  active : Bool := false
  instr : Nat := 2
  latch : List Bool := List.replicate 83 false
  deriving DecidableEq, Repr


/-- The whole machine. Every register field that is stored lies in `regs` under its key, a field that holds its reset
value is not listed (the canonical form), and no field of a function type occurs. -/
structure State where
  /-- commands that wait, first in, first out -/
  pending : List Instr := []
  /-- stored register fields, by rising key, none at its reset value -/
  regs : List (Nat × Nat) := []
  /-- shadow values of SHD fields that have not transferred yet (R44, R46) -/
  shadow : List (Nat × Nat) := []
  /-- keys of GO fields behind whose running operation one more waits (R45) -/
  goWait : List Nat := []
  /-- TIME.NOW in µs (R561) -/
  now : Nat := 0
  /-- the model's own count of ticks, in µs, which no reset touches -/
  elapsed : Nat := 0
  /-- the model's own count of free values drawn so far -/
  fresh : Nat := 0
  /-- the model's own record of what left the part: bus messages, caravans, pin traffic -/
  sent : List OutMsg := []
  pow : Power := {}
  openTags : List OpenTag := []
  quarantine : List Quarantined := []
  recd : Recorder := {}
  /-- the recorder pages in the two blocks that Oasis reserves, oldest first; no reset clears them -/
  recStore : List RecPage := []
  trc : Trace := {}
  pci : Pci := {}
  /-- each loop's core result for its next update, by `Loop`: focus, tracking, laser power, sled, spindle (R20) -/
  loopResult : List Int := [0, 0, 0, 0, 0]
  /-- each loop's actuator output latch (R20, R22) -/
  loopOut : List Int := [0, 0, 0, 0, 0]
  cal : Cal := {}
  /-- the retained copy of the last blob, in the wake domain (R83, R131) -/
  calKept : Option (List Byte) := none
  que : Queues := {}
  mem : MemSt := {}
  /-- the bytes of the sector cache array that are not 0, by rising cache offset (R259, R263) -/
  cells : List Host.Cell := []
  /-- words whose stored check bits are not those of their data: the XOR of the two, by rising word index (R260, R261) -/
  ecc : List (Nat × Nat) := []
  mir : Mir := {}
  erg : Erg := {}
  opt : Optics := {}
  drv : Drive := {}
  /-- saved Erg maps on NAND (R243) -/
  maps : List SavedMap := []
  nand : Nand := {}
  lib : Lib := {}
  ecd : Ecd := {}
  avg : Avg := {}
  chn : Chan := {}
  ryl : Ryl := {}
  aud : Aud := {}
  tap : Tap := {}
  deriving DecidableEq, Repr

/-- Who raises a fault: no meaning of this model stops with one, because the spec gives every command an effect (safe). -/
inductive Fault where
  /-- never raised: the spec names no command that stops the block (safe) -/
  | none
  deriving DecidableEq, Repr

/-- Why a command has no meaning. -/
inductive Refusal where
  /-- raised by `exec` for a command whose meaning has not been written (safe) -/
  | notModelled (mnemonic : String)
  deriving DecidableEq, Repr

/-- The machine right after a power-on reset (R85, R89): the wake domain has left reset, PWR_EN is high, every register
field reads its reset value, and the core waits for the main rails. Log: 1 (DESIGN CHOICE). -/
def State.reset : State := {}

end Sys2Proof.Machine
end

