-- ==== Sys2Proof/Machine/Leaves.lean ====
section
/-! DEFINITION. The 640 leaves of R81 (03_attention_tree.md): which page bit and which group bit each one is. -/

namespace Sys2Proof.Machine

/-- The rows of the leaf table of R81, in the order of group index and group bit. -/
def leafRows : List LeafRow :=
  [{ group := 0, gbit := 0, page := 0x00, pbit := 0, n := 20 },
   { group := 1, gbit := 0, page := 0x00, pbit := 20, n := 12 },
   { group := 1, gbit := 12, page := 0x02, pbit := 9, n := 20 },
   { group := 2, gbit := 0, page := 0x03, pbit := 0, n := 32 },
   { group := 3, gbit := 0, page := 0x02, pbit := 8, n := 1 },
   { group := 3, gbit := 1, page := 0x04, pbit := 0, n := 12 },
   { group := 3, gbit := 13, page := 0x05, pbit := 0, n := 11 },
   { group := 3, gbit := 24, page := 0x08, pbit := 0, n := 8 },
   { group := 4, gbit := 0, page := 0x07, pbit := 0, n := 18 },
   { group := 4, gbit := 18, page := 0x06, pbit := 0, n := 14 },
   { group := 5, gbit := 0, page := 0x1A, pbit := 0, n := 32 },
   { group := 6, gbit := 0, page := 0x09, pbit := 0, n := 20 },
   { group := 6, gbit := 20, page := 0x0A, pbit := 0, n := 12 },
   { group := 7, gbit := 0, page := 0x0B, pbit := 0, n := 32 },
   { group := 8, gbit := 0, page := 0x0C, pbit := 0, n := 32 },
   { group := 9, gbit := 0, page := 0x0D, pbit := 0, n := 32 },
   { group := 10, gbit := 0, page := 0x0E, pbit := 0, n := 32 },
   { group := 11, gbit := 0, page := 0x0F, pbit := 0, n := 32 },
   { group := 12, gbit := 0, page := 0x10, pbit := 0, n := 32 },
   { group := 13, gbit := 0, page := 0x11, pbit := 0, n := 32 },
   { group := 14, gbit := 0, page := 0x12, pbit := 0, n := 14 },
   { group := 15, gbit := 0, page := 0x12, pbit := 14, n := 18 },
   { group := 16, gbit := 0, page := 0x13, pbit := 0, n := 14 },
   { group := 17, gbit := 0, page := 0x13, pbit := 14, n := 18 },
   { group := 18, gbit := 0, page := 0x14, pbit := 0, n := 32 },
   { group := 19, gbit := 0, page := 0x15, pbit := 0, n := 28 },
   { group := 20, gbit := 0, page := 0x16, pbit := 0, n := 24 },
   { group := 21, gbit := 0, page := 0x17, pbit := 0, n := 16 },
   { group := 22, gbit := 0, page := 0x18, pbit := 0, n := 32 },
   { group := 23, gbit := 0, page := 0x02, pbit := 0, n := 8 }]

/-! The leaves by group and name; a family X_0…X_n is named by its first member, and `Leaf.plus` reaches the others. -/

namespace Lf.SYS
def CNT_SAT : Leaf := { page := 0x00, bit := 0 }
def BOOT_DONE : Leaf := { page := 0x00, bit := 1 }
def CHIP_RESET_DONE : Leaf := { page := 0x00, bit := 2 }
def FLR_DONE : Leaf := { page := 0x00, bit := 3 }
def QUIESCE_DONE : Leaf := { page := 0x00, bit := 4 }
def BLOCK_RESET_DONE : Leaf := { page := 0x00, bit := 5 }
def EPOCH_DISCARD : Leaf := { page := 0x00, bit := 6 }
def RECOVERY_DONE : Leaf := { page := 0x00, bit := 7 }
def RESET_KEY_ABORT : Leaf := { page := 0x00, bit := 8 }
def FUSE_ERR : Leaf := { page := 0x00, bit := 9 }
def LIFE_RESTORE_FAIL : Leaf := { page := 0x00, bit := 10 }
def JTAG_ACTIVE : Leaf := { page := 0x00, bit := 11 }
def SW_0 : Leaf := { page := 0x00, bit := 12 }
end Lf.SYS

namespace Lf.PWR
def POWER_FAIL : Leaf := { page := 0x00, bit := 20 }
def POWER_RESTORED : Leaf := { page := 0x00, bit := 21 }
def VCORE_LOW : Leaf := { page := 0x00, bit := 22 }
def VANA_LOW : Leaf := { page := 0x00, bit := 23 }
def VIO_LOW : Leaf := { page := 0x00, bit := 24 }
def VPCIE_LOW : Leaf := { page := 0x00, bit := 25 }
def VNAND_LOW : Leaf := { page := 0x00, bit := 26 }
def VSTBY_LOW : Leaf := { page := 0x00, bit := 27 }
def BROWNOUT : Leaf := { page := 0x00, bit := 28 }
def FLUSH_DONE : Leaf := { page := 0x00, bit := 29 }
def FLUSH_SHORT : Leaf := { page := 0x00, bit := 30 }
def GATE_FAULT : Leaf := { page := 0x00, bit := 31 }
end Lf.PWR

namespace Lf.PWR
def IDLE_DOZE : Leaf := { page := 0x02, bit := 9 }
def IDLE_NAP : Leaf := { page := 0x02, bit := 10 }
def IDLE_STBY : Leaf := { page := 0x02, bit := 11 }
def ENTER_DOZE : Leaf := { page := 0x02, bit := 12 }
def ENTER_NAP : Leaf := { page := 0x02, bit := 13 }
def ENTER_STBY : Leaf := { page := 0x02, bit := 14 }
def LEAVE_DOZE : Leaf := { page := 0x02, bit := 15 }
def LEAVE_NAP : Leaf := { page := 0x02, bit := 16 }
def LEAVE_STBY : Leaf := { page := 0x02, bit := 17 }
def DOORBELL_WAKE : Leaf := { page := 0x02, bit := 18 }
def HOST_WAKE : Leaf := { page := 0x02, bit := 19 }
def RYL_WAKE : Leaf := { page := 0x02, bit := 20 }
def LDR_WAKE : Leaf := { page := 0x02, bit := 21 }
def WAKE_0 : Leaf := { page := 0x02, bit := 22 }
def WAKE_LATE : Leaf := { page := 0x02, bit := 26 }
def DOWN_BLOCKED : Leaf := { page := 0x02, bit := 27 }
def TIMER_RESTART : Leaf := { page := 0x02, bit := 28 }
end Lf.PWR

namespace Lf.CAL
def CNT_SAT : Leaf := { page := 0x03, bit := 0 }
def RUN_DONE : Leaf := { page := 0x03, bit := 1 }
def RUN_FAIL : Leaf := { page := 0x03, bit := 2 }
def RUN_ABORTED : Leaf := { page := 0x03, bit := 3 }
def STEP_DONE : Leaf := { page := 0x03, bit := 4 }
def RESTORE_DONE : Leaf := { page := 0x03, bit := 5 }
def RESTORE_FAIL : Leaf := { page := 0x03, bit := 6 }
def BLOB_CRC : Leaf := { page := 0x03, bit := 7 }
def BLOB_VERSION : Leaf := { page := 0x03, bit := 8 }
def SAVE_DONE : Leaf := { page := 0x03, bit := 9 }
def VALID_LOST : Leaf := { page := 0x03, bit := 10 }
def DRIFT : Leaf := { page := 0x03, bit := 11 }
def TIA_SPARE_LOW : Leaf := { page := 0x03, bit := 12 }
def DAC_SPARE_LOW : Leaf := { page := 0x03, bit := 13 }
def TDC_SPARE_LOW : Leaf := { page := 0x03, bit := 14 }
def TDC_LINEAR_FAIL : Leaf := { page := 0x03, bit := 15 }
def DAC_SEG_FOC : Leaf := { page := 0x03, bit := 16 }
def DAC_SEG_TRK : Leaf := { page := 0x03, bit := 17 }
def GAIN_780 : Leaf := { page := 0x03, bit := 18 }
def GAIN_650 : Leaf := { page := 0x03, bit := 19 }
def TIA_FAIL_0 : Leaf := { page := 0x03, bit := 20 }
end Lf.CAL

namespace Lf.SRV
def UPDATE_LATE : Leaf := { page := 0x02, bit := 8 }
end Lf.SRV

namespace Lf.SRV
def FOC_CNT_SAT : Leaf := { page := 0x04, bit := 0 }
def FOC_LOST : Leaf := { page := 0x04, bit := 1 }
def FOC_ACQ : Leaf := { page := 0x04, bit := 2 }
def FOC_ACQ_FAIL : Leaf := { page := 0x04, bit := 3 }
def FOC_SAT : Leaf := { page := 0x04, bit := 4 }
def FOC_FF_LEARNED : Leaf := { page := 0x04, bit := 5 }
def FOC_FF_DRIFT : Leaf := { page := 0x04, bit := 6 }
def FOC_DUNE : Leaf := { page := 0x04, bit := 7 }
def FOC_DUNE_LONG : Leaf := { page := 0x04, bit := 8 }
def FOC_DAC_FAULT : Leaf := { page := 0x04, bit := 9 }
def LAYER_DONE : Leaf := { page := 0x04, bit := 10 }
def LAYER_FAIL : Leaf := { page := 0x04, bit := 11 }
end Lf.SRV

namespace Lf.SRV
def TRK_CNT_SAT : Leaf := { page := 0x05, bit := 0 }
def TRK_LOST : Leaf := { page := 0x05, bit := 1 }
def TRK_LOCK : Leaf := { page := 0x05, bit := 2 }
def TRK_PULLIN_FAIL : Leaf := { page := 0x05, bit := 3 }
def TRK_SAT : Leaf := { page := 0x05, bit := 4 }
def TRK_FF_LEARNED : Leaf := { page := 0x05, bit := 5 }
def TRK_FF_DRIFT : Leaf := { page := 0x05, bit := 6 }
def TRK_DUNE : Leaf := { page := 0x05, bit := 7 }
def TRK_DUNE_LONG : Leaf := { page := 0x05, bit := 8 }
def TRK_DAC_FAULT : Leaf := { page := 0x05, bit := 9 }
def TRK_SLIP : Leaf := { page := 0x05, bit := 10 }
end Lf.SRV

namespace Lf.SRV
def LPC_CNT_SAT : Leaf := { page := 0x08, bit := 0 }
def LPC_OVER : Leaf := { page := 0x08, bit := 1 }
def LPC_UNDER : Leaf := { page := 0x08, bit := 2 }
def LPC_TRIP : Leaf := { page := 0x08, bit := 3 }
def LPC_DEGRADE_780 : Leaf := { page := 0x08, bit := 4 }
def LPC_DEGRADE_650 : Leaf := { page := 0x08, bit := 5 }
def LPC_MON_FAIL : Leaf := { page := 0x08, bit := 6 }
def LPC_SWITCHED : Leaf := { page := 0x08, bit := 7 }
end Lf.SRV

namespace Lf.MOT
def SPN_CNT_SAT : Leaf := { page := 0x07, bit := 0 }
def SPN_UP : Leaf := { page := 0x07, bit := 1 }
def SPN_STOPPED : Leaf := { page := 0x07, bit := 2 }
def SPN_STALL : Leaf := { page := 0x07, bit := 3 }
def SPN_OVERSPEED : Leaf := { page := 0x07, bit := 4 }
def SPN_ZONE : Leaf := { page := 0x07, bit := 5 }
def SPN_LOCK_LOST : Leaf := { page := 0x07, bit := 6 }
def SPN_HALL_FAULT : Leaf := { page := 0x07, bit := 7 }
def SPN_BEMF_FAULT : Leaf := { page := 0x07, bit := 8 }
def SPN_OVERCURRENT : Leaf := { page := 0x07, bit := 9 }
def SPN_BRAKE_DONE : Leaf := { page := 0x07, bit := 10 }
def SPN_UNBALANCE : Leaf := { page := 0x07, bit := 11 }
def SPN_SPINUP_SLOW : Leaf := { page := 0x07, bit := 12 }
def SPN_QUIET_CAP : Leaf := { page := 0x07, bit := 13 }
def SPN_SHOCK : Leaf := { page := 0x07, bit := 14 }
def SPN_PHASE_0 : Leaf := { page := 0x07, bit := 15 }
end Lf.MOT

namespace Lf.MOT
def SLD_CNT_SAT : Leaf := { page := 0x06, bit := 0 }
def SLD_SEEK_DONE : Leaf := { page := 0x06, bit := 1 }
def SLD_SEEK_FAIL : Leaf := { page := 0x06, bit := 2 }
def SLD_SEEK_RETRY : Leaf := { page := 0x06, bit := 3 }
def SLD_HOME : Leaf := { page := 0x06, bit := 4 }
def SLD_OUTER : Leaf := { page := 0x06, bit := 5 }
def SLD_STALL : Leaf := { page := 0x06, bit := 6 }
def SLD_OVERCURRENT : Leaf := { page := 0x06, bit := 7 }
def SLD_PWM_SAT : Leaf := { page := 0x06, bit := 8 }
def SLD_COUNT_ERR : Leaf := { page := 0x06, bit := 9 }
def SLD_OVERSHOOT : Leaf := { page := 0x06, bit := 10 }
def SLD_ABORTED : Leaf := { page := 0x06, bit := 11 }
def SLD_SHOCK : Leaf := { page := 0x06, bit := 12 }
def SLD_CREEP : Leaf := { page := 0x06, bit := 13 }
end Lf.MOT

namespace Lf.LDR
def CNT_SAT : Leaf := { page := 0x1A, bit := 0 }
def TRAY_OPEN : Leaf := { page := 0x1A, bit := 1 }
def TRAY_CLOSED : Leaf := { page := 0x1A, bit := 2 }
def TRAY_JAM : Leaf := { page := 0x1A, bit := 3 }
def TRAY_PUSHED : Leaf := { page := 0x1A, bit := 4 }
def TRAY_CLOSE_REQ : Leaf := { page := 0x1A, bit := 5 }
def SLOT_INSERT : Leaf := { page := 0x1A, bit := 6 }
def SLOT_EJECTED : Leaf := { page := 0x1A, bit := 7 }
def SLOT_JAM : Leaf := { page := 0x1A, bit := 8 }
def EJECT_REQ : Leaf := { page := 0x1A, bit := 9 }
def EJECT_LOCKED : Leaf := { page := 0x1A, bit := 10 }
def MANUAL_EJECT : Leaf := { page := 0x1A, bit := 11 }
def LIMIT_A_FAULT : Leaf := { page := 0x1A, bit := 12 }
def LIMIT_B_FAULT : Leaf := { page := 0x1A, bit := 13 }
def HB_OVERCURRENT : Leaf := { page := 0x1A, bit := 14 }
def HB_THERMAL : Leaf := { page := 0x1A, bit := 15 }
def LOAD_TIMEOUT : Leaf := { page := 0x1A, bit := 16 }
def CHUCK_FAIL : Leaf := { page := 0x1A, bit := 17 }
def STATE_ERR : Leaf := { page := 0x1A, bit := 18 }
def DISC_PRESENT : Leaf := { page := 0x1A, bit := 19 }
def DISC_ABSENT : Leaf := { page := 0x1A, bit := 20 }
def DISC_CD : Leaf := { page := 0x1A, bit := 21 }
def DISC_DVD_SL : Leaf := { page := 0x1A, bit := 22 }
def DISC_DVD_DL : Leaf := { page := 0x1A, bit := 23 }
def DISC_RECORDABLE : Leaf := { page := 0x1A, bit := 24 }
def DISC_BLANK : Leaf := { page := 0x1A, bit := 25 }
def DISC_UPSIDE : Leaf := { page := 0x1A, bit := 26 }
def DISC_UNKNOWN : Leaf := { page := 0x1A, bit := 27 }
def DISC_ID_READY : Leaf := { page := 0x1A, bit := 28 }
def DISC_ID_CHANGED : Leaf := { page := 0x1A, bit := 29 }
def TOC_READY : Leaf := { page := 0x1A, bit := 30 }
def MEDIA_CHANGE : Leaf := { page := 0x1A, bit := 31 }
end Lf.LDR

namespace Lf.CHN
def CNT_SAT : Leaf := { page := 0x09, bit := 0 }
def RF_LOST : Leaf := { page := 0x09, bit := 1 }
def RF_BACK : Leaf := { page := 0x09, bit := 2 }
def BLANK : Leaf := { page := 0x09, bit := 3 }
def TIMING_LOCK : Leaf := { page := 0x09, bit := 4 }
def TIMING_SLIP : Leaf := { page := 0x09, bit := 5 }
def TIMING_LOST : Leaf := { page := 0x09, bit := 6 }
def RATE_CHANGE : Leaf := { page := 0x09, bit := 7 }
def LEVEL_ADAPT : Leaf := { page := 0x09, bit := 8 }
def LEVEL_LIMIT : Leaf := { page := 0x09, bit := 9 }
def TDC_FAULT : Leaf := { page := 0x09, bit := 10 }
def TDC_DRIFT : Leaf := { page := 0x09, bit := 11 }
def EQ_ADAPT : Leaf := { page := 0x09, bit := 12 }
def EQ_LIMIT : Leaf := { page := 0x09, bit := 13 }
def SNR_LOW : Leaf := { page := 0x09, bit := 14 }
def ASYM : Leaf := { page := 0x09, bit := 15 }
def SOFT_CLIP : Leaf := { page := 0x09, bit := 16 }
def OVERRATE : Leaf := { page := 0x09, bit := 17 }
def DROPOUT : Leaf := { page := 0x09, bit := 18 }
def DROPOUT_END : Leaf := { page := 0x09, bit := 19 }
end Lf.CHN

namespace Lf.CHN
def DEM_CNT_SAT : Leaf := { page := 0x0A, bit := 0 }
def SYNC_LOCK : Leaf := { page := 0x0A, bit := 1 }
def SYNC_LOST : Leaf := { page := 0x0A, bit := 2 }
def SYNC_INSERT : Leaf := { page := 0x0A, bit := 3 }
def ILLEGAL_CODE : Leaf := { page := 0x0A, bit := 4 }
def SUBQ_READY : Leaf := { page := 0x0A, bit := 5 }
def SUBQ_CRC : Leaf := { page := 0x0A, bit := 6 }
def SUBCODE_LOST : Leaf := { page := 0x0A, bit := 7 }
def ADDR_JUMP : Leaf := { page := 0x0A, bit := 8 }
def ADDR_ERR : Leaf := { page := 0x0A, bit := 9 }
def LAYER_ID : Leaf := { page := 0x0A, bit := 10 }
def ID_ERR : Leaf := { page := 0x0A, bit := 11 }
end Lf.CHN

namespace Lf.ECC
def CNT_SAT : Leaf := { page := 0x0B, bit := 0 }
def C1_OVER : Leaf := { page := 0x0B, bit := 1 }
def C2_OVER : Leaf := { page := 0x0B, bit := 2 }
def CIRC_FAIL : Leaf := { page := 0x0B, bit := 3 }
def CD_EDC_FAIL : Leaf := { page := 0x0B, bit := 4 }
def CD_L2_FAIL : Leaf := { page := 0x0B, bit := 5 }
def FORM2_EDC : Leaf := { page := 0x0B, bit := 6 }
def PI_OVER : Leaf := { page := 0x0B, bit := 7 }
def PO_OVER : Leaf := { page := 0x0B, bit := 8 }
def RSPC_FAIL : Leaf := { page := 0x0B, bit := 9 }
def DVD_EDC_FAIL : Leaf := { page := 0x0B, bit := 10 }
def MISCORRECT : Leaf := { page := 0x0B, bit := 11 }
def ERASURE_USED : Leaf := { page := 0x0B, bit := 12 }
def ERASURE_OVER : Leaf := { page := 0x0B, bit := 13 }
def ERASURE_MISS : Leaf := { page := 0x0B, bit := 14 }
def LOW_MARGIN : Leaf := { page := 0x0B, bit := 15 }
def LADDER_ERASURE : Leaf := { page := 0x0B, bit := 16 }
def LADDER_REREAD : Leaf := { page := 0x0B, bit := 17 }
def LADDER_AVERAGE : Leaf := { page := 0x0B, bit := 18 }
def LADDER_BORROW : Leaf := { page := 0x0B, bit := 19 }
def LADDER_CONCEAL : Leaf := { page := 0x0B, bit := 20 }
def LADDER_FAIL : Leaf := { page := 0x0B, bit := 21 }
def LADDER_ABORT : Leaf := { page := 0x0B, bit := 22 }
def RETRY_LIMIT : Leaf := { page := 0x0B, bit := 23 }
def RECOVERED : Leaf := { page := 0x0B, bit := 24 }
def BORROW_MISMATCH : Leaf := { page := 0x0B, bit := 25 }
def SHADOW_QUEUED : Leaf := { page := 0x0B, bit := 26 }
def SHADOW_SKIP : Leaf := { page := 0x0B, bit := 27 }
def CONCEAL_RUN : Leaf := { page := 0x0B, bit := 28 }
def CONCEAL_END : Leaf := { page := 0x0B, bit := 29 }
def MUTE : Leaf := { page := 0x0B, bit := 30 }
def FAIL_RATE : Leaf := { page := 0x0B, bit := 31 }
end Lf.ECC

namespace Lf.ERG
def CNT_SAT : Leaf := { page := 0x0C, bit := 0 }
def LEARN_DONE : Leaf := { page := 0x0C, bit := 1 }
def MAP_NEAR_FULL : Leaf := { page := 0x0C, bit := 2 }
def MAP_FULL : Leaf := { page := 0x0C, bit := 3 }
def SEG_NEW : Leaf := { page := 0x0C, bit := 4 }
def SEG_MERGED : Leaf := { page := 0x0C, bit := 5 }
def SEG_GROWN : Leaf := { page := 0x0C, bit := 6 }
def MAP_CLEARED : Leaf := { page := 0x0C, bit := 7 }
def MAP_SAVED : Leaf := { page := 0x0C, bit := 8 }
def MAP_RESTORED : Leaf := { page := 0x0C, bit := 9 }
def MAP_RESTORE_FAIL : Leaf := { page := 0x0C, bit := 10 }
def PREDICT_MISS : Leaf := { page := 0x0C, bit := 11 }
def PREDICT_FALSE : Leaf := { page := 0x0C, bit := 12 }
def LONG_DEFECT : Leaf := { page := 0x0C, bit := 13 }
def CRACK : Leaf := { page := 0x0C, bit := 14 }
def DISC_GRADE : Leaf := { page := 0x0C, bit := 15 }
def ZONE_DENSE_0 : Leaf := { page := 0x0C, bit := 16 }
end Lf.ERG

namespace Lf.AVG
def CNT_SAT : Leaf := { page := 0x0D, bit := 0 }
def PASS_DONE : Leaf := { page := 0x0D, bit := 1 }
def COMBINE_DONE : Leaf := { page := 0x0D, bit := 2 }
def ALIGN_FAIL : Leaf := { page := 0x0D, bit := 3 }
def ALIGN_SLIP : Leaf := { page := 0x0D, bit := 4 }
def ALIGN_SYNC_LOST : Leaf := { page := 0x0D, bit := 5 }
def REV_SKIP : Leaf := { page := 0x0D, bit := 6 }
def DISC_SLIP : Leaf := { page := 0x0D, bit := 7 }
def PASS_LIMIT : Leaf := { page := 0x0D, bit := 8 }
def BUF_FULL : Leaf := { page := 0x0D, bit := 9 }
def MEM_WAIT : Leaf := { page := 0x0D, bit := 10 }
def IMPROVED : Leaf := { page := 0x0D, bit := 11 }
def NO_GAIN : Leaf := { page := 0x0D, bit := 12 }
def ABORTED : Leaf := { page := 0x0D, bit := 13 }
def RESTART : Leaf := { page := 0x0D, bit := 14 }
def SOFT_CLIP : Leaf := { page := 0x0D, bit := 15 }
def CONF_LOW : Leaf := { page := 0x0D, bit := 16 }
def DECODED_2 : Leaf := { page := 0x0D, bit := 17 }
end Lf.AVG

namespace Lf.MEM
def CNT_SAT : Leaf := { page := 0x0E, bit := 0 }
def FILL_DONE : Leaf := { page := 0x0E, bit := 1 }
def FILL_FAIL : Leaf := { page := 0x0E, bit := 2 }
def CE_READ : Leaf := { page := 0x0E, bit := 3 }
def CE_MERGE : Leaf := { page := 0x0E, bit := 4 }
def UE_READ : Leaf := { page := 0x0E, bit := 5 }
def UE_MERGE : Leaf := { page := 0x0E, bit := 6 }
def UE_DMA : Leaf := { page := 0x0E, bit := 7 }
def UE_WINDOW : Leaf := { page := 0x0E, bit := 8 }
def UE_INTERNAL : Leaf := { page := 0x0E, bit := 9 }
def UE_FIRST : Leaf := { page := 0x0E, bit := 10 }
def CE_TABLE_FULL : Leaf := { page := 0x0E, bit := 11 }
def CE_RATE : Leaf := { page := 0x0E, bit := 12 }
def HOT_WORD : Leaf := { page := 0x0E, bit := 13 }
def SCRUB_DONE : Leaf := { page := 0x0E, bit := 14 }
def SCRUB_FIXED : Leaf := { page := 0x0E, bit := 15 }
def SCRUB_UE : Leaf := { page := 0x0E, bit := 16 }
def SCRUB_LATE : Leaf := { page := 0x0E, bit := 17 }
def POISON_CLEARED : Leaf := { page := 0x0E, bit := 18 }
def ADDR_PARITY : Leaf := { page := 0x0E, bit := 19 }
def BANK_UE_0 : Leaf := { page := 0x0E, bit := 20 }
end Lf.MEM

namespace Lf.QUE
def CNT_SAT : Leaf := { page := 0x0F, bit := 0 }
def CQ_NOTICE : Leaf := { page := 0x0F, bit := 1 }
def OVERLOAD : Leaf := { page := 0x0F, bit := 2 }
def OVERLOAD_CLEAR : Leaf := { page := 0x0F, bit := 3 }
def TAG_LOW : Leaf := { page := 0x0F, bit := 4 }
def TAG_EMPTY : Leaf := { page := 0x0F, bit := 5 }
def XACT_LOW : Leaf := { page := 0x0F, bit := 6 }
def XACT_EMPTY : Leaf := { page := 0x0F, bit := 7 }
def HAZARD_LONG : Leaf := { page := 0x0F, bit := 8 }
def FENCE_DONE : Leaf := { page := 0x0F, bit := 9 }
def FENCE_LONG : Leaf := { page := 0x0F, bit := 10 }
def CQ_FULL : Leaf := { page := 0x0F, bit := 11 }
def CQ_RESUMED : Leaf := { page := 0x0F, bit := 12 }
def SQ_CREATED : Leaf := { page := 0x0F, bit := 13 }
def SQ_DELETED : Leaf := { page := 0x0F, bit := 14 }
def CQ_CREATED : Leaf := { page := 0x0F, bit := 15 }
def CQ_DELETED : Leaf := { page := 0x0F, bit := 16 }
def SQ_DRAINED : Leaf := { page := 0x0F, bit := 17 }
def ABORT_DONE : Leaf := { page := 0x0F, bit := 18 }
def WAKE_WAIT : Leaf := { page := 0x0F, bit := 19 }
def FETCH_ERR : Leaf := { page := 0x0F, bit := 20 }
def CQ_WRITE_ERR : Leaf := { page := 0x0F, bit := 21 }
def DMA_ERR : Leaf := { page := 0x0F, bit := 22 }
def LATENCY_HIGH : Leaf := { page := 0x0F, bit := 23 }
def BLOCK_RESET_SEEN : Leaf := { page := 0x0F, bit := 24 }
def IDLE : Leaf := { page := 0x0F, bit := 25 }
def BACKLOG_DEC : Leaf := { page := 0x0F, bit := 26 }
def BACKLOG_NAND : Leaf := { page := 0x0F, bit := 27 }
def BACKLOG_RYL : Leaf := { page := 0x0F, bit := 28 }
def BACKLOG_DMA : Leaf := { page := 0x0F, bit := 29 }
def ORDER_WAIT : Leaf := { page := 0x0F, bit := 30 }
def TAG_RECOVERED : Leaf := { page := 0x0F, bit := 31 }
end Lf.QUE

namespace Lf.SLC
def CNT_SAT : Leaf := { page := 0x10, bit := 0 }
def SPOOF_ENTRY : Leaf := { page := 0x10, bit := 1 }
def SPOOF_DB : Leaf := { page := 0x10, bit := 2 }
def SPOOF_RATE : Leaf := { page := 0x10, bit := 3 }
def BIND_DONE : Leaf := { page := 0x10, bit := 4 }
def UNBIND_DONE : Leaf := { page := 0x10, bit := 5 }
def SLICE_RESET : Leaf := { page := 0x10, bit := 6 }
def SLICE_QUIESCED : Leaf := { page := 0x10, bit := 7 }
def SLICE_DRAINED : Leaf := { page := 0x10, bit := 8 }
def SLICE_ABORTED : Leaf := { page := 0x10, bit := 9 }
def NS_GRANT : Leaf := { page := 0x10, bit := 10 }
def NS_REVOKE : Leaf := { page := 0x10, bit := 11 }
def NS_SHARED : Leaf := { page := 0x10, bit := 12 }
def TAG_CAP_HIT : Leaf := { page := 0x10, bit := 13 }
def DEPTH_CAP_HIT : Leaf := { page := 0x10, bit := 14 }
def WADI_CMD_EMPTY : Leaf := { page := 0x10, bit := 15 }
def WADI_BYTE_EMPTY : Leaf := { page := 0x10, bit := 16 }
def WADI_CMD_FULL : Leaf := { page := 0x10, bit := 17 }
def WADI_BYTE_FULL : Leaf := { page := 0x10, bit := 18 }
def WADI_CHANGE : Leaf := { page := 0x10, bit := 19 }
def WEIGHT_CHANGE : Leaf := { page := 0x10, bit := 20 }
def SHARE_LOW_DEC : Leaf := { page := 0x10, bit := 21 }
def SHARE_LOW_NAND : Leaf := { page := 0x10, bit := 22 }
def SHARE_LOW_RYL : Leaf := { page := 0x10, bit := 23 }
def SHARE_LOW_DMA : Leaf := { page := 0x10, bit := 24 }
def UNIT_WAIT_DEC : Leaf := { page := 0x10, bit := 25 }
def UNIT_WAIT_NAND : Leaf := { page := 0x10, bit := 26 }
def UNIT_WAIT_RYL : Leaf := { page := 0x10, bit := 27 }
def UNIT_WAIT_DMA : Leaf := { page := 0x10, bit := 28 }
def TABLE_COMMIT : Leaf := { page := 0x10, bit := 29 }
def IDLE_ALL : Leaf := { page := 0x10, bit := 30 }
def SHARE_RESTORED : Leaf := { page := 0x10, bit := 31 }
end Lf.SLC

namespace Lf.CMD
def CNT_SAT : Leaf := { page := 0x11, bit := 0 }
def UNIT_ATTENTION : Leaf := { page := 0x11, bit := 1 }
def MEDIA_EVENT : Leaf := { page := 0x11, bit := 2 }
def OPER_EVENT : Leaf := { page := 0x11, bit := 3 }
def POWER_EVENT : Leaf := { page := 0x11, bit := 4 }
def EXT_REQ_EVENT : Leaf := { page := 0x11, bit := 5 }
def BUSY_EVENT : Leaf := { page := 0x11, bit := 6 }
def SENSE_LOST : Leaf := { page := 0x11, bit := 7 }
def MODE_CHANGED : Leaf := { page := 0x11, bit := 8 }
def SPEED_CHANGED : Leaf := { page := 0x11, bit := 9 }
def CONFIG_CHANGED : Leaf := { page := 0x11, bit := 10 }
def PREVENT_ON : Leaf := { page := 0x11, bit := 11 }
def PREVENT_OFF : Leaf := { page := 0x11, bit := 12 }
def RIP_DONE : Leaf := { page := 0x11, bit := 13 }
def RIP_FAIL : Leaf := { page := 0x11, bit := 14 }
def VERIFY_DONE : Leaf := { page := 0x11, bit := 15 }
def VERIFY_MISMATCH : Leaf := { page := 0x11, bit := 16 }
def FORMAT_DONE : Leaf := { page := 0x11, bit := 17 }
def SHADOW_PURGE_DONE : Leaf := { page := 0x11, bit := 18 }
def CAL_DONE : Leaf := { page := 0x11, bit := 19 }
def TRACE_DONE : Leaf := { page := 0x11, bit := 20 }
def REC_DUMP_DONE : Leaf := { page := 0x11, bit := 21 }
def SERVO_TEST_DONE : Leaf := { page := 0x11, bit := 22 }
def MOUNT_DONE : Leaf := { page := 0x11, bit := 23 }
def UNMOUNT_DONE : Leaf := { page := 0x11, bit := 24 }
def ABORT_ALL_DONE : Leaf := { page := 0x11, bit := 25 }
def AUDIO_PLAY_DONE : Leaf := { page := 0x11, bit := 26 }
def LIBRARY_ID_CHANGED : Leaf := { page := 0x11, bit := 27 }
def MEDIUM_CLASS : Leaf := { page := 0x11, bit := 28 }
def DEVICE_CLASS : Leaf := { page := 0x11, bit := 29 }
def FABRIC_CLASS : Leaf := { page := 0x11, bit := 30 }
def CMD_STALL : Leaf := { page := 0x11, bit := 31 }
end Lf.CMD

namespace Lf.OAS
def CNT_SAT : Leaf := { page := 0x12, bit := 0 }
def MOUNT_DONE : Leaf := { page := 0x12, bit := 1 }
def MOUNT_FAIL : Leaf := { page := 0x12, bit := 2 }
def REPLAY_DONE : Leaf := { page := 0x12, bit := 3 }
def TORN_DISCARDED : Leaf := { page := 0x12, bit := 4 }
def SPACE_LOW : Leaf := { page := 0x12, bit := 5 }
def SPACE_FULL : Leaf := { page := 0x12, bit := 6 }
def SHADOW_FULL : Leaf := { page := 0x12, bit := 7 }
def SHADOW_EVICT : Leaf := { page := 0x12, bit := 8 }
def GC_BEHIND : Leaf := { page := 0x12, bit := 9 }
def WEAR_HIGH : Leaf := { page := 0x12, bit := 10 }
def SPARE_LOW : Leaf := { page := 0x12, bit := 11 }
def GEOMETRY_CHANGE : Leaf := { page := 0x12, bit := 12 }
def FORMAT_NEEDED : Leaf := { page := 0x12, bit := 13 }
end Lf.OAS

namespace Lf.NAND
def DIE_FAIL_0 : Leaf := { page := 0x12, bit := 14 }
def PROG_FAIL : Leaf := { page := 0x12, bit := 22 }
def ERASE_FAIL : Leaf := { page := 0x12, bit := 23 }
def BCH_HIGH : Leaf := { page := 0x12, bit := 24 }
def BCH_FAIL : Leaf := { page := 0x12, bit := 25 }
def READ_RETRY : Leaf := { page := 0x12, bit := 26 }
def BAD_BLOCK_NEW : Leaf := { page := 0x12, bit := 27 }
def BUSY_LONG : Leaf := { page := 0x12, bit := 28 }
def PARAM_CRC : Leaf := { page := 0x12, bit := 29 }
def WP_ACTIVE : Leaf := { page := 0x12, bit := 30 }
def TIMING_FALLBACK : Leaf := { page := 0x12, bit := 31 }
end Lf.NAND

namespace Lf.RYL
def CNT_SAT : Leaf := { page := 0x13, bit := 0 }
def ELDER_ELECTED : Leaf := { page := 0x13, bit := 1 }
def ELDER_LOST : Leaf := { page := 0x13, bit := 2 }
def SELF_ELDER : Leaf := { page := 0x13, bit := 3 }
def NODE_ID_ASSIGNED : Leaf := { page := 0x13, bit := 4 }
def ID_CONFLICT : Leaf := { page := 0x13, bit := 5 }
def ROSTER_CHANGED : Leaf := { page := 0x13, bit := 6 }
def GEN_AMBIGUOUS : Leaf := { page := 0x13, bit := 7 }
def NODE_JOINED : Leaf := { page := 0x13, bit := 8 }
def NODE_LEFT : Leaf := { page := 0x13, bit := 9 }
def NODE_GONE_INFLIGHT : Leaf := { page := 0x13, bit := 10 }
def BORROW_SERVED : Leaf := { page := 0x13, bit := 11 }
def BORROW_MISS : Leaf := { page := 0x13, bit := 12 }
def REMOTE_NS_CHANGE : Leaf := { page := 0x13, bit := 13 }
end Lf.RYL

namespace Lf.RYP
def LINK_UP_A : Leaf := { page := 0x13, bit := 14 }
def LINK_DOWN_A : Leaf := { page := 0x13, bit := 17 }
def SYMBOL_ERR_A : Leaf := { page := 0x13, bit := 20 }
def CRC_ERR_A : Leaf := { page := 0x13, bit := 23 }
def LOOP_A : Leaf := { page := 0x13, bit := 26 }
def CREDIT_STALL_A : Leaf := { page := 0x13, bit := 29 }
end Lf.RYP

namespace Lf.AUD
def CNT_SAT : Leaf := { page := 0x14, bit := 0 }
def MCLK_LOST : Leaf := { page := 0x14, bit := 1 }
def MCLK_BACK : Leaf := { page := 0x14, bit := 2 }
def MCLK_WRONG : Leaf := { page := 0x14, bit := 3 }
def PLAY_START : Leaf := { page := 0x14, bit := 4 }
def PLAY_PAUSE : Leaf := { page := 0x14, bit := 5 }
def PLAY_RESUME : Leaf := { page := 0x14, bit := 6 }
def PLAY_STOP : Leaf := { page := 0x14, bit := 7 }
def TRACK_CHANGE : Leaf := { page := 0x14, bit := 8 }
def INDEX_CHANGE : Leaf := { page := 0x14, bit := 9 }
def END_OF_DISC : Leaf := { page := 0x14, bit := 10 }
def SKIP_DONE : Leaf := { page := 0x14, bit := 11 }
def SEEK_GAP : Leaf := { page := 0x14, bit := 12 }
def PREGAP : Leaf := { page := 0x14, bit := 13 }
def DATA_TRACK : Leaf := { page := 0x14, bit := 14 }
def UNDERRUN : Leaf := { page := 0x14, bit := 15 }
def CONCEAL : Leaf := { page := 0x14, bit := 16 }
def MUTE_ON : Leaf := { page := 0x14, bit := 17 }
def MUTE_OFF : Leaf := { page := 0x14, bit := 18 }
def EMPH_ON : Leaf := { page := 0x14, bit := 19 }
def EMPH_OFF : Leaf := { page := 0x14, bit := 20 }
def COPY_CHANGE : Leaf := { page := 0x14, bit := 21 }
def ISRC_READY : Leaf := { page := 0x14, bit := 22 }
def SUBCODE_GAP : Leaf := { page := 0x14, bit := 23 }
def SPDIF_ON : Leaf := { page := 0x14, bit := 24 }
def SPDIF_OFF : Leaf := { page := 0x14, bit := 25 }
def FORMAT_CHANGE : Leaf := { page := 0x14, bit := 26 }
def FIFO_LOW : Leaf := { page := 0x14, bit := 27 }
def FIFO_HIGH : Leaf := { page := 0x14, bit := 28 }
def RATE_SLIP : Leaf := { page := 0x14, bit := 29 }
def HOST_PATH : Leaf := { page := 0x14, bit := 30 }
def DIRECT_PATH : Leaf := { page := 0x14, bit := 31 }
end Lf.AUD

namespace Lf.REC
def CNT_SAT : Leaf := { page := 0x15, bit := 0 }
def STAGE_HALF : Leaf := { page := 0x15, bit := 1 }
def STAGE_FULL : Leaf := { page := 0x15, bit := 2 }
def RECORD_LOST : Leaf := { page := 0x15, bit := 3 }
def REPEAT_SAT : Leaf := { page := 0x15, bit := 4 }
def FLUSH_DONE : Leaf := { page := 0x15, bit := 5 }
def FLUSH_FAIL : Leaf := { page := 0x15, bit := 6 }
def POWER_FAIL_FLUSH : Leaf := { page := 0x15, bit := 7 }
def STORE_75 : Leaf := { page := 0x15, bit := 8 }
def STORE_WRAP : Leaf := { page := 0x15, bit := 9 }
def STORE_CRC : Leaf := { page := 0x15, bit := 10 }
def NO_NAND : Leaf := { page := 0x15, bit := 11 }
def LIFE_SAVED : Leaf := { page := 0x15, bit := 12 }
def READ_DONE : Leaf := { page := 0x15, bit := 13 }
def ERASE_DONE : Leaf := { page := 0x15, bit := 14 }
def STAGE_RESTORED : Leaf := { page := 0x15, bit := 15 }
def SEV_INFO : Leaf := { page := 0x15, bit := 16 }
def SEV_WARN : Leaf := { page := 0x15, bit := 17 }
def SEV_ERR : Leaf := { page := 0x15, bit := 18 }
def SEV_FATAL : Leaf := { page := 0x15, bit := 19 }
def WATCH_0 : Leaf := { page := 0x15, bit := 20 }
end Lf.REC

namespace Lf.TRC
def CNT_SAT : Leaf := { page := 0x16, bit := 0 }
def STARTED : Leaf := { page := 0x16, bit := 1 }
def STOPPED : Leaf := { page := 0x16, bit := 2 }
def TRIGGER_HIT : Leaf := { page := 0x16, bit := 3 }
def BUF_HALF : Leaf := { page := 0x16, bit := 4 }
def BUF_FULL : Leaf := { page := 0x16, bit := 5 }
def WRAPPED : Leaf := { page := 0x16, bit := 6 }
def RECORDS_LOST : Leaf := { page := 0x16, bit := 7 }
def SEQ_WRAP : Leaf := { page := 0x16, bit := 8 }
def SLEEP_MARK : Leaf := { page := 0x16, bit := 9 }
def WAKE_MARK : Leaf := { page := 0x16, bit := 10 }
def WAKE_LOST : Leaf := { page := 0x16, bit := 11 }
def STREAM_STALL : Leaf := { page := 0x16, bit := 12 }
def STREAM_RESUMED : Leaf := { page := 0x16, bit := 13 }
def DEST_ERR : Leaf := { page := 0x16, bit := 14 }
def FILTER_CHANGE : Leaf := { page := 0x16, bit := 15 }
def SRC_OVF_0 : Leaf := { page := 0x16, bit := 16 }
end Lf.TRC

namespace Lf.MIR
def CNT_SAT : Leaf := { page := 0x17, bit := 0 }
def UNLOCKED : Leaf := { page := 0x17, bit := 1 }
def LOCKED : Leaf := { page := 0x17, bit := 2 }
def KEY_RESTART : Leaf := { page := 0x17, bit := 3 }
def AUTO_LOCK : Leaf := { page := 0x17, bit := 4 }
def HOOK_ACTIVE : Leaf := { page := 0x17, bit := 5 }
def STAGE_ADD : Leaf := { page := 0x17, bit := 6 }
def BACKPRESS : Leaf := { page := 0x17, bit := 7 }
def GRANT_WITHHELD : Leaf := { page := 0x17, bit := 8 }
def ECC_INJECT : Leaf := { page := 0x17, bit := 9 }
def NAND_INJECT : Leaf := { page := 0x17, bit := 10 }
def LINK_INJECT : Leaf := { page := 0x17, bit := 11 }
def SENSOR_INJECT : Leaf := { page := 0x17, bit := 12 }
def RESULT_HOOK : Leaf := { page := 0x17, bit := 13 }
def INJECT_DONE : Leaf := { page := 0x17, bit := 14 }
def COUNT_DONE : Leaf := { page := 0x17, bit := 15 }
end Lf.MIR

namespace Lf.HPT
def CNT_SAT : Leaf := { page := 0x18, bit := 0 }
def LINK_UP : Leaf := { page := 0x18, bit := 1 }
def LINK_DOWN : Leaf := { page := 0x18, bit := 2 }
def RETRAIN : Leaf := { page := 0x18, bit := 3 }
def GEN1_ONLY : Leaf := { page := 0x18, bit := 4 }
def PERST : Leaf := { page := 0x18, bit := 5 }
def FLR : Leaf := { page := 0x18, bit := 6 }
def D3HOT : Leaf := { page := 0x18, bit := 7 }
def D0 : Leaf := { page := 0x18, bit := 8 }
def BME_OFF : Leaf := { page := 0x18, bit := 9 }
def CFG_CHANGED : Leaf := { page := 0x18, bit := 10 }
def UR_RECEIVED : Leaf := { page := 0x18, bit := 11 }
def CA_SENT : Leaf := { page := 0x18, bit := 12 }
def POISON_SENT : Leaf := { page := 0x18, bit := 13 }
def POISON_RECEIVED : Leaf := { page := 0x18, bit := 14 }
def CPL_TIMEOUT : Leaf := { page := 0x18, bit := 15 }
def CPL_UNEXPECTED : Leaf := { page := 0x18, bit := 16 }
def MALFORMED : Leaf := { page := 0x18, bit := 17 }
def RECEIVER_ERR : Leaf := { page := 0x18, bit := 18 }
def BAD_TLP : Leaf := { page := 0x18, bit := 19 }
def BAD_DLLP : Leaf := { page := 0x18, bit := 20 }
def REPLAY_ROLLOVER : Leaf := { page := 0x18, bit := 21 }
def REPLAY_TIMEOUT : Leaf := { page := 0x18, bit := 22 }
def ERR_MSG_SENT : Leaf := { page := 0x18, bit := 23 }
def TLP_DROPPED : Leaf := { page := 0x18, bit := 24 }
def SPI_ACTIVE : Leaf := { page := 0x18, bit := 25 }
def SPI_QUAD_ON : Leaf := { page := 0x18, bit := 26 }
def SPI_CMD_ERR : Leaf := { page := 0x18, bit := 27 }
def SPI_ERR_BYTE : Leaf := { page := 0x18, bit := 28 }
def SPI_ABORT : Leaf := { page := 0x18, bit := 29 }
def SPI_OVERRUN : Leaf := { page := 0x18, bit := 30 }
def SPI_WAIT_LONG : Leaf := { page := 0x18, bit := 31 }
end Lf.HPT

namespace Lf.TMP
def TIME_CNT_SAT : Leaf := { page := 0x02, bit := 0 }
def STAGE_LIMIT : Leaf := { page := 0x02, bit := 1 }
def REF_LOST : Leaf := { page := 0x02, bit := 2 }
def REF_BACK : Leaf := { page := 0x02, bit := 3 }
def DLL_UNLOCK : Leaf := { page := 0x02, bit := 4 }
def STAGE_FAST : Leaf := { page := 0x02, bit := 5 }
def RING_STOP : Leaf := { page := 0x02, bit := 6 }
def WINDOW_LOST : Leaf := { page := 0x02, bit := 7 }
end Lf.TMP

end Sys2Proof.Machine
end

