-- ==== Sys2Proof/Machine/RegTable1.lean ====
section
/-! DEFINITION. Register fields of the pages SYS to LPC: place, width, Kind, reset value and legal values (R33, R44, R48). -/

namespace Sys2Proof.Machine

/-! Page SYS (0x00): the fields of its block registers, by the page's register table in R60 (02_register_pages.md). -/
namespace SYS
def DEVICE_ID : Fld := { page := 0x00, off := 0x040, lsb := 0, width := 32, kind := .sts, reset := 0x0724C3A1 }
def REV : Fld := { page := 0x00, off := 0x044, lsb := 0, width := 8, kind := .sts, reset := Config.revCode }
def UNIQUE_LO : Fld := { page := 0x00, off := 0x048, lsb := 0, width := 32, kind := .sts, reset := Config.uniqueLo.toNat }
def UNIQUE_HI : Fld := { page := 0x00, off := 0x04C, lsb := 0, width := 32, kind := .sts, reset := Config.uniqueHi.toNat }
def SCRATCH : Fld := { page := 0x00, off := 0x050, lsb := 0, width := 32, kind := .ctl, reset := 0 }
def HOLD_FIRST : Fld := { page := 0x00, off := 0x054, lsb := 0, width := 1, kind := .ctl, reset := 0 }
def CL_VALID : Fld := { page := 0x00, off := 0x058, lsb := 31, width := 1, kind := .w1c, reset := 0 }
def CL_SOURCE : Fld := { page := 0x00, off := 0x058, lsb := 28, width := 3, kind := .sts, reset := 0 }
def CL_SLICE : Fld := { page := 0x00, off := 0x058, lsb := 22, width := 6, kind := .sts, reset := 0 }
def CL_PAGE : Fld := { page := 0x00, off := 0x058, lsb := 17, width := 5, kind := .sts, reset := 0 }
def CL_LSB : Fld := { page := 0x00, off := 0x058, lsb := 12, width := 5, kind := .sts, reset := 0 }
def CL_OFFSET : Fld := { page := 0x00, off := 0x058, lsb := 0, width := 12, kind := .sts, reset := 0 }
def CLAMP_WROTE : Fld := { page := 0x00, off := 0x05C, lsb := 0, width := 32, kind := .sts, reset := 0 }
def CLAMP_KEPT : Fld := { page := 0x00, off := 0x060, lsb := 0, width := 32, kind := .sts, reset := 0 }
def CLAMP_COUNT : Fld := { page := 0x00, off := 0x064, lsb := 0, width := 32, kind := .cnt, reset := 0 }
def OP_SECONDS : Fld := { page := 0x00, off := 0x068, lsb := 0, width := 32, kind := .sts, reset := 0 }
def POWER_CYCLES : Fld := { page := 0x00, off := 0x06C, lsb := 0, width := 24, kind := .sts, reset := 0 }
def CHIP_RESET : Fld := { page := 0x00, off := 0x070, lsb := 0, width := 32, kind := .key, reset := 0 }
def fields : List Fld :=
  [DEVICE_ID, REV, UNIQUE_LO, UNIQUE_HI, SCRATCH, HOLD_FIRST, CL_VALID, CL_SOURCE, CL_SLICE, CL_PAGE, CL_LSB, CL_OFFSET, CLAMP_WROTE, CLAMP_KEPT, CLAMP_COUNT, OP_SECONDS, POWER_CYCLES, CHIP_RESET]
end SYS

/-! Page ATN (0x01): the fields of its block registers, by the page's register table in R82 (03_attention_tree.md). -/
namespace ATN
def SLICE_OCT : Fld := { page := 0x01, off := 0x040, lsb := 24, width := 8, kind := .live, reset := 0 }
def GROUPS : Fld := { page := 0x01, off := 0x040, lsb := 0, width := 24, kind := .live, reset := 0 }
def WAKE_HOLD : Fld := { page := 0x01, off := 0x044, lsb := 10, width := 1, kind := .sts, reset := 0 }
def INTX_STATE : Fld := { page := 0x01, off := 0x044, lsb := 9, width := 1, kind := .sts, reset := 0 }
def PIN_STATE : Fld := { page := 0x01, off := 0x044, lsb := 8, width := 1, kind := .live, reset := 0 }
def WAKE_NOTIFY : Fld := { page := 0x01, off := 0x044, lsb := 2, width := 1, kind := .ctl, reset := 0 }
def INTX_EN : Fld := { page := 0x01, off := 0x044, lsb := 1, width := 1, kind := .ctl, reset := 0 }
def PIN_EN : Fld := { page := 0x01, off := 0x044, lsb := 0, width := 1, kind := .ctl, reset := 1 }
def GROUP_MASK : Fld := { page := 0x01, off := 0x048, lsb := 0, width := 24, kind := .ctl, reset := 0xFFFFFF }
def SLICE_MASK : Fld := { page := 0x01, off := 0x04C, lsb := 0, width := 8, kind := .ctl, reset := 0xFF }
def PEND_LO : Fld := { page := 0x01, off := 0x050, lsb := 0, width := 32, kind := .live, reset := 0 }
def PEND_HI : Fld := { page := 0x01, off := 0x054, lsb := 0, width := 32, kind := .live, reset := 0 }
def FL_VALID : Fld := { page := 0x01, off := 0x058, lsb := 31, width := 1, kind := .w1c, reset := 0 }
def FL_GROUP : Fld := { page := 0x01, off := 0x058, lsb := 24, width := 5, kind := .sts, reset := 0 }
def FL_GBIT : Fld := { page := 0x01, off := 0x058, lsb := 16, width := 5, kind := .sts, reset := 0 }
def FL_PAGE : Fld := { page := 0x01, off := 0x058, lsb := 8, width := 5, kind := .sts, reset := 0 }
def FL_PBIT : Fld := { page := 0x01, off := 0x058, lsb := 0, width := 5, kind := .sts, reset := 0 }
def GRP_PEND : Fld := { page := 0x01, off := 0x060, lsb := 0, width := 32, kind := .live, reset := 0, count := 24, stride := 4 }
def fields : List Fld :=
  [SLICE_OCT, GROUPS, WAKE_HOLD, INTX_STATE, PIN_STATE, WAKE_NOTIFY, INTX_EN, PIN_EN, GROUP_MASK, SLICE_MASK, PEND_LO, PEND_HI, FL_VALID, FL_GROUP, FL_GBIT, FL_PAGE, FL_PBIT, GRP_PEND]
end ATN

/-! Page TIME (0x02): the fields of its block registers, by the page's register table in R30 (01_handshake_time.md) and R116 (04_power_reset_states.md). -/
namespace TIME
def STAGE_PS : Fld := { page := 0x02, off := 0x040, lsb := 0, width := 16, kind := .sts, reset := 0x03D4 }
def STAGE_COUNT : Fld := { page := 0x02, off := 0x044, lsb := 0, width := 22, kind := .sts, reset := 0 }
def MAX_PS : Fld := { page := 0x02, off := 0x048, lsb := 16, width := 16, kind := .sts, reset := 0 }
def MIN_PS : Fld := { page := 0x02, off := 0x048, lsb := 0, width := 16, kind := .sts, reset := 0xFFFF }
def LIMIT_PS : Fld := { page := 0x02, off := 0x04C, lsb := 0, width := 16, kind := .ctl, reset := 0x03D4, legal := .range 310 2000 }
def WATER_CLR : Fld := { page := 0x02, off := 0x050, lsb := 0, width := 1, kind := .go, reset := 0 }
def NOW_LO : Fld := { page := 0x02, off := 0x054, lsb := 0, width := 32, kind := .live, reset := 0 }
def NOW_HI : Fld := { page := 0x02, off := 0x058, lsb := 0, width := 32, kind := .sts, reset := 0 }
def DLL_LOCK : Fld := { page := 0x02, off := 0x05C, lsb := 2, width := 1, kind := .sts, reset := 0 }
def REF_LOST : Fld := { page := 0x02, off := 0x05C, lsb := 1, width := 1, kind := .w1c, reset := 0 }
def REF_OK : Fld := { page := 0x02, off := 0x05C, lsb := 0, width := 1, kind := .sts, reset := 0 }
def SERVO_LATE : Fld := { page := 0x02, off := 0x060, lsb := 0, width := 32, kind := .cnt, reset := 0 }
def UP_SPN : Fld := { page := 0x02, off := 0x064, lsb := 24, width := 8, kind := .sts, reset := 0x73 }
def UP_SLD : Fld := { page := 0x02, off := 0x064, lsb := 16, width := 8, kind := .sts, reset := 0x5E }
def UP_LPC : Fld := { page := 0x02, off := 0x064, lsb := 8, width := 8, kind := .sts, reset := 0x34 }
def UP_FT : Fld := { page := 0x02, off := 0x064, lsb := 0, width := 8, kind := .sts, reset := 0x4D }
def EXIT_DOZE_US : Fld := { page := 0x02, off := 0x068, lsb := 0, width := 32, kind := .sts, reset := 0x00055730 }
def EXIT_NAP_US : Fld := { page := 0x02, off := 0x06C, lsb := 0, width := 32, kind := .sts, reset := 0x00000834 }
def EXIT_STBY_US : Fld := { page := 0x02, off := 0x070, lsb := 0, width := 32, kind := .sts, reset := 0x000012C0 }
def LAST_WAKE : Fld := { page := 0x02, off := 0x080, lsb := 12, width := 4, kind := .sts, reset := 0 }
def FROM : Fld := { page := 0x02, off := 0x080, lsb := 8, width := 2, kind := .sts, reset := 0 }
def MOVING : Fld := { page := 0x02, off := 0x080, lsb := 4, width := 1, kind := .sts, reset := 0 }
def STATE : Fld := { page := 0x02, off := 0x080, lsb := 0, width := 2, kind := .sts, reset := 0 }
def PC_GO : Fld := { page := 0x02, off := 0x084, lsb := 8, width := 1, kind := .go, reset := 0 }
def TARGET : Fld := { page := 0x02, off := 0x084, lsb := 0, width := 2, kind := .ctl, reset := 0 }
def STBY_ELDER : Fld := { page := 0x02, off := 0x088, lsb := 5, width := 1, kind := .ctl, reset := 0 }
def HOLD_ACTIVE : Fld := { page := 0x02, off := 0x088, lsb := 4, width := 1, kind := .ctl, reset := 0 }
def STBY_EN : Fld := { page := 0x02, off := 0x088, lsb := 2, width := 1, kind := .ctl, reset := 0 }
def NAP_EN : Fld := { page := 0x02, off := 0x088, lsb := 1, width := 1, kind := .ctl, reset := 1 }
def DOZE_EN : Fld := { page := 0x02, off := 0x088, lsb := 0, width := 1, kind := .ctl, reset := 1 }
def IDLE_DOZE_US : Fld := { page := 0x02, off := 0x08C, lsb := 0, width := 32, kind := .ctl, reset := 0x01C9C380, legal := .range 1000 0xFFFFFFFF }
def IDLE_NAP_US : Fld := { page := 0x02, off := 0x090, lsb := 0, width := 32, kind := .ctl, reset := 0x00989680, legal := .range 1000 0xFFFFFFFF }
def IDLE_STBY_US : Fld := { page := 0x02, off := 0x094, lsb := 0, width := 32, kind := .ctl, reset := 0x03938700, legal := .range 1000 0xFFFFFFFF }
def LEFT : Fld := { page := 0x02, off := 0x098, lsb := 0, width := 32, kind := .live, reset := 0 }
def WAKE_POL : Fld := { page := 0x02, off := 0x09C, lsb := 12, width := 4, kind := .ctl, reset := 0 }
def WAKE_EN : Fld := { page := 0x02, off := 0x09C, lsb := 8, width := 4, kind := .ctl, reset := 0 }
def RYL_EN : Fld := { page := 0x02, off := 0x09C, lsb := 4, width := 3, kind := .ctl, reset := 0 }
def LDR_EN : Fld := { page := 0x02, off := 0x09C, lsb := 1, width := 1, kind := .ctl, reset := 1 }
def HWAKE_EN : Fld := { page := 0x02, off := 0x09C, lsb := 0, width := 1, kind := .ctl, reset := 1 }
def RC_FLR : Fld := { page := 0x02, off := 0x0A0, lsb := 5, width := 1, kind := .w1c, reset := 0 }
def RC_PERST : Fld := { page := 0x02, off := 0x0A0, lsb := 4, width := 1, kind := .w1c, reset := 0 }
def RC_BROWNOUT : Fld := { page := 0x02, off := 0x0A0, lsb := 3, width := 1, kind := .w1c, reset := 0 }
def RC_CHIP_KEY : Fld := { page := 0x02, off := 0x0A0, lsb := 2, width := 1, kind := .w1c, reset := 0 }
def RC_STBY_EXIT : Fld := { page := 0x02, off := 0x0A0, lsb := 1, width := 1, kind := .w1c, reset := 0 }
def RC_POR : Fld := { page := 0x02, off := 0x0A0, lsb := 0, width := 1, kind := .w1c, reset := 1 }
def PFAIL : Fld := { page := 0x02, off := 0x0A4, lsb := 8, width := 1, kind := .live, reset := 0 }
def LOW : Fld := { page := 0x02, off := 0x0A4, lsb := 0, width := 6, kind := .live, reset := 0 }
def SLEEP_US : Fld := { page := 0x02, off := 0x0A8, lsb := 0, width := 32, kind := .sts, reset := 0 }
def EXIT_US : Fld := { page := 0x02, off := 0x0AC, lsb := 0, width := 32, kind := .sts, reset := 0 }
def fields : List Fld :=
  [STAGE_PS, STAGE_COUNT, MAX_PS, MIN_PS, LIMIT_PS, WATER_CLR, NOW_LO, NOW_HI, DLL_LOCK, REF_LOST, REF_OK, SERVO_LATE, UP_SPN, UP_SLD, UP_LPC, UP_FT, EXIT_DOZE_US, EXIT_NAP_US, EXIT_STBY_US, LAST_WAKE, FROM, MOVING, STATE, PC_GO, TARGET, STBY_ELDER, HOLD_ACTIVE, STBY_EN, NAP_EN, DOZE_EN, IDLE_DOZE_US, IDLE_NAP_US, IDLE_STBY_US, LEFT, WAKE_POL, WAKE_EN, RYL_EN, LDR_EN, HWAKE_EN, RC_FLR] ++
  [RC_PERST, RC_BROWNOUT, RC_CHIP_KEY, RC_STBY_EXIT, RC_POR, PFAIL, LOW, SLEEP_US, EXIT_US]
end TIME

/-! Page CAL (0x03): the fields of its block registers, by the page's register table in 05_calibration.md. -/
namespace CAL
def STEP : Fld := { page := 0x03, off := 0x040, lsb := 24, width := 4, kind := .sts, reset := 0 }
def LAST_RESULT : Fld := { page := 0x03, off := 0x040, lsb := 16, width := 4, kind := .sts, reset := 0 }
def RETAINED : Fld := { page := 0x03, off := 0x040, lsb := 8, width := 1, kind := .live, reset := 0 }
def WAIT_PARK : Fld := { page := 0x03, off := 0x040, lsb := 6, width := 1, kind := .live, reset := 0 }
def RESTORING : Fld := { page := 0x03, off := 0x040, lsb := 5, width := 1, kind := .sts, reset := 0 }
def RUNNING : Fld := { page := 0x03, off := 0x040, lsb := 4, width := 1, kind := .sts, reset := 0 }
def SOURCE : Fld := { page := 0x03, off := 0x040, lsb := 1, width := 2, kind := .sts, reset := 0 }
def VALID : Fld := { page := 0x03, off := 0x040, lsb := 0, width := 1, kind := .sts, reset := 0 }
def ABORT : Fld := { page := 0x03, off := 0x044, lsb := 8, width := 1, kind := .go, reset := 0 }
def RUN_GO : Fld := { page := 0x03, off := 0x044, lsb := 0, width := 1, kind := .go, reset := 0 }
def SRC : Fld := { page := 0x03, off := 0x048, lsb := 4, width := 1, kind := .ctl, reset := 0 }
def RESTORE_GO : Fld := { page := 0x03, off := 0x048, lsb := 0, width := 1, kind := .go, reset := 0 }
def LIMIT_PS : Fld := { page := 0x03, off := 0x04C, lsb := 0, width := 16, kind := .ctl, reset := 0x0078, legal := .range 20 500 }
def STAGE_AT_CAL : Fld := { page := 0x03, off := 0x050, lsb := 0, width := 16, kind := .sts, reset := 0 }
def RESTORES : Fld := { page := 0x03, off := 0x054, lsb := 16, width := 16, kind := .cnt, reset := 0 }
def RUNS : Fld := { page := 0x03, off := 0x054, lsb := 0, width := 16, kind := .cnt, reset := 0 }
def TIA_MAP : Fld := { page := 0x03, off := 0x058, lsb := 0, width := 32, kind := .sts, reset := Config.fuseTiaMap.toNat }
def TIA_FAIL : Fld := { page := 0x03, off := 0x05C, lsb := 0, width := 12, kind := .sts, reset := 0 }
def TIA_OFS_AD : Fld := { page := 0x03, off := 0x060, lsb := 0, width := 32, kind := .sts, reset := 0 }
def TIA_OFS_EH : Fld := { page := 0x03, off := 0x064, lsb := 0, width := 32, kind := .sts, reset := 0 }
def RETIRE_FOC : Fld := { page := 0x03, off := 0x068, lsb := 0, width := 28, kind := .sts, reset := Config.fuseRetireFoc.toNat }
def RETIRE_TRK : Fld := { page := 0x03, off := 0x06C, lsb := 0, width := 28, kind := .sts, reset := Config.fuseRetireTrk.toNat }
def DF_TRK : Fld := { page := 0x03, off := 0x070, lsb := 8, width := 8, kind := .sts, reset := 0 }
def DF_FOC : Fld := { page := 0x03, off := 0x070, lsb := 0, width := 8, kind := .sts, reset := 0 }
def TDC_SEL_0 : Fld := { page := 0x03, off := 0x074, lsb := 0, width := 32, kind := .sts, reset := Config.fuseTdcSel0.toNat }
def TDC_SEL_1 : Fld := { page := 0x03, off := 0x078, lsb := 0, width := 32, kind := .sts, reset := Config.fuseTdcSel1.toNat }
def TDC_SEL_2 : Fld := { page := 0x03, off := 0x07C, lsb := 0, width := 32, kind := .sts, reset := Config.fuseTdcSel2.toNat }
def TDC_GOOD : Fld := { page := 0x03, off := 0x080, lsb := 16, width := 8, kind := .sts, reset := 0 }
def SPAN_PS : Fld := { page := 0x03, off := 0x080, lsb := 0, width := 16, kind := .sts, reset := Config.fuseSpanPs.toNat }
def GAIN_650 : Fld := { page := 0x03, off := 0x084, lsb := 16, width := 16, kind := .sts, reset := 0x1000 }
def GAIN_780 : Fld := { page := 0x03, off := 0x084, lsb := 0, width := 16, kind := .sts, reset := 0x1000 }
def BLOB_IN : Fld := { page := 0x03, off := 0x100, lsb := 0, width := 32, kind := .ctl, reset := 0, count := 64, stride := 4 }
def BLOB_OUT : Fld := { page := 0x03, off := 0x200, lsb := 0, width := 32, kind := .sts, reset := 0, count := 64, stride := 4 }
def fields : List Fld :=
  [STEP, LAST_RESULT, RETAINED, WAIT_PARK, RESTORING, RUNNING, SOURCE, VALID, ABORT, RUN_GO, SRC, RESTORE_GO, LIMIT_PS, STAGE_AT_CAL, RESTORES, RUNS, TIA_MAP, TIA_FAIL, TIA_OFS_AD, TIA_OFS_EH, RETIRE_FOC, RETIRE_TRK, DF_TRK, DF_FOC, TDC_SEL_0, TDC_SEL_1, TDC_SEL_2, TDC_GOOD, SPAN_PS, GAIN_650, GAIN_780, BLOB_IN, BLOB_OUT]
end CAL

/-! Page FOC (0x04): the fields of its block registers, by the page's register table in R169 (06_optical_loops.md). -/
namespace FOC
def LEARN_EN : Fld := { page := 0x04, off := 0x040, lsb := 4, width := 1, kind := .ctl, reset := 1 }
def FF_EN : Fld := { page := 0x04, off := 0x040, lsb := 3, width := 1, kind := .ctl, reset := 1 }
def HOLD_EN : Fld := { page := 0x04, off := 0x040, lsb := 2, width := 1, kind := .ctl, reset := 1 }
def AUTO_REACQ : Fld := { page := 0x04, off := 0x040, lsb := 1, width := 1, kind := .ctl, reset := 1 }
def CLOSE : Fld := { page := 0x04, off := 0x040, lsb := 0, width := 1, kind := .ctl, reset := 0 }
def LAST_LOSS : Fld := { page := 0x04, off := 0x044, lsb := 28, width := 4, kind := .sts, reset := 0 }
def LEARNED : Fld := { page := 0x04, off := 0x044, lsb := 24, width := 1, kind := .sts, reset := 0 }
def HOLD_PRED : Fld := { page := 0x04, off := 0x044, lsb := 21, width := 1, kind := .sts, reset := 0 }
def HOLD_DROP : Fld := { page := 0x04, off := 0x044, lsb := 20, width := 1, kind := .sts, reset := 0 }
def STATE : Fld := { page := 0x04, off := 0x044, lsb := 0, width := 3, kind := .sts, reset := 0 }
def SUM : Fld := { page := 0x04, off := 0x048, lsb := 16, width := 16, kind := .sts, reset := 0 }
def ERR : Fld := { page := 0x04, off := 0x048, lsb := 0, width := 16, kind := .sts, reset := 0 }
def SUM_AVG : Fld := { page := 0x04, off := 0x04C, lsb := 16, width := 16, kind := .sts, reset := 0 }
def DRIVE : Fld := { page := 0x04, off := 0x04C, lsb := 0, width := 14, kind := .sts, reset := 0 }
def TRIES : Fld := { page := 0x04, off := 0x050, lsb := 24, width := 4, kind := .ctl, reset := 0x3, legal := .range 1 15 }
def SPAN : Fld := { page := 0x04, off := 0x050, lsb := 12, width := 12, kind := .ctl, reset := 0x800, legal := .range 0 4095 }
def RATE : Fld := { page := 0x04, off := 0x050, lsb := 0, width := 12, kind := .ctl, reset := 0x040, legal := .range 1 4095 }
def LOSS_N : Fld := { page := 0x04, off := 0x054, lsb := 24, width := 8, kind := .ctl, reset := 0x20, legal := .range 1 255 }
def LOSS_FR : Fld := { page := 0x04, off := 0x054, lsb := 16, width := 8, kind := .ctl, reset := 0x40, legal := .range 1 255 }
def DROP_FR : Fld := { page := 0x04, off := 0x054, lsb := 8, width := 8, kind := .ctl, reset := 0x80, legal := .range 1 255 }
def RECOVER_N : Fld := { page := 0x04, off := 0x054, lsb := 0, width := 8, kind := .ctl, reset := 0x10, legal := .range 1 255 }
def SUM_ACQ : Fld := { page := 0x04, off := 0x058, lsb := 0, width := 16, kind := .ctl, reset := 0x0400, legal := .range 1 16380 }
def MAX_US : Fld := { page := 0x04, off := 0x05C, lsb := 16, width := 16, kind := .ctl, reset := 0x0FA0, legal := .range 10 65535 }
def TRAIL : Fld := { page := 0x04, off := 0x05C, lsb := 8, width := 8, kind := .ctl, reset := 0x04 }
def LEAD : Fld := { page := 0x04, off := 0x05C, lsb := 0, width := 8, kind := .ctl, reset := 0x04 }
def KI : Fld := { page := 0x04, off := 0x060, lsb := 16, width := 16, kind := .shd, reset := 0x2180 }
def GAIN : Fld := { page := 0x04, off := 0x060, lsb := 0, width := 16, kind := .shd, reset := 0x4E20 }
def I_LIM : Fld := { page := 0x04, off := 0x064, lsb := 16, width := 13, kind := .shd, reset := 0x1000, legal := .range 0 8191 }
def DRV_MAX : Fld := { page := 0x04, off := 0x064, lsb := 0, width := 13, kind := .shd, reset := 0x1800, legal := .range 0 8191 }
def OFFSET : Fld := { page := 0x04, off := 0x068, lsb := 0, width := 14, kind := .shd, reset := 0 }
def BQ : Fld := { page := 0x04, off := 0x06C, lsb := 0, width := 24, kind := .shd, reset := 0, count := 10, stride := 4, exc := [(0, 4194304), (5, 4194304)] }
def DRIFT_THR : Fld := { page := 0x04, off := 0x094, lsb := 16, width := 8, kind := .ctl, reset := 0x30, legal := .range 1 255 }
def DONE_THR : Fld := { page := 0x04, off := 0x094, lsb := 8, width := 8, kind := .ctl, reset := 0x0C, legal := .range 1 255 }
def LEARN_SHIFT : Fld := { page := 0x04, off := 0x094, lsb := 0, width := 3, kind := .ctl, reset := 0x2, legal := .range 0 7 }
def FF_CLEAR : Fld := { page := 0x04, off := 0x098, lsb := 0, width := 1, kind := .go, reset := 0 }
def JUMP_GO : Fld := { page := 0x04, off := 0x09C, lsb := 31, width := 1, kind := .go, reset := 0 }
def JUMP_DIR : Fld := { page := 0x04, off := 0x09C, lsb := 30, width := 1, kind := .ctl, reset := 0 }
def KICK : Fld := { page := 0x04, off := 0x09C, lsb := 16, width := 13, kind := .ctl, reset := 0x07D0, legal := .range 0 8191 }
def KICK_US : Fld := { page := 0x04, off := 0x09C, lsb := 8, width := 8, kind := .ctl, reset := 0x28, legal := .range 1 255 }
def BRAKE_US : Fld := { page := 0x04, off := 0x09C, lsb := 0, width := 8, kind := .ctl, reset := 0x1E, legal := .range 1 255 }
def HOLDS : Fld := { page := 0x04, off := 0x0A0, lsb := 16, width := 16, kind := .cnt, reset := 0 }
def LOSSES : Fld := { page := 0x04, off := 0x0A0, lsb := 0, width := 16, kind := .cnt, reset := 0 }
def SATS : Fld := { page := 0x04, off := 0x0A4, lsb := 16, width := 16, kind := .cnt, reset := 0 }
def ACQ_FAILS : Fld := { page := 0x04, off := 0x0A4, lsb := 0, width := 16, kind := .cnt, reset := 0 }
def REVS : Fld := { page := 0x04, off := 0x0B0, lsb := 16, width := 16, kind := .cnt, reset := 0 }
def RESID : Fld := { page := 0x04, off := 0x0B0, lsb := 0, width := 16, kind := .sts, reset := 0 }
def FF : Fld := { page := 0x04, off := 0x400, lsb := 0, width := 16, kind := .sts, reset := 0, count := 256, stride := 4 }
def fields : List Fld :=
  [LEARN_EN, FF_EN, HOLD_EN, AUTO_REACQ, CLOSE, LAST_LOSS, LEARNED, HOLD_PRED, HOLD_DROP, STATE, SUM, ERR, SUM_AVG, DRIVE, TRIES, SPAN, RATE, LOSS_N, LOSS_FR, DROP_FR, RECOVER_N, SUM_ACQ, MAX_US, TRAIL, LEAD, KI, GAIN, I_LIM, DRV_MAX, OFFSET, BQ, DRIFT_THR, DONE_THR, LEARN_SHIFT, FF_CLEAR, JUMP_GO, JUMP_DIR, KICK, KICK_US, BRAKE_US] ++
  [HOLDS, LOSSES, SATS, ACQ_FAILS, REVS, RESID, FF]
end FOC

/-! Page TRK (0x05): the fields of its block registers, by the page's register table in R169 (06_optical_loops.md). -/
namespace TRK
def TE_MODE : Fld := { page := 0x05, off := 0x040, lsb := 8, width := 2, kind := .ctl, reset := 0x3 }
def LEARN_EN : Fld := { page := 0x05, off := 0x040, lsb := 4, width := 1, kind := .ctl, reset := 1 }
def FF_EN : Fld := { page := 0x05, off := 0x040, lsb := 3, width := 1, kind := .ctl, reset := 1 }
def HOLD_EN : Fld := { page := 0x05, off := 0x040, lsb := 2, width := 1, kind := .ctl, reset := 1 }
def AUTO_REACQ : Fld := { page := 0x05, off := 0x040, lsb := 1, width := 1, kind := .ctl, reset := 1 }
def CLOSE : Fld := { page := 0x05, off := 0x040, lsb := 0, width := 1, kind := .ctl, reset := 0 }
def LAST_LOSS : Fld := { page := 0x05, off := 0x044, lsb := 28, width := 4, kind := .sts, reset := 0 }
def LEARNED : Fld := { page := 0x05, off := 0x044, lsb := 24, width := 1, kind := .sts, reset := 0 }
def HOLD_PRED : Fld := { page := 0x05, off := 0x044, lsb := 21, width := 1, kind := .sts, reset := 0 }
def HOLD_DROP : Fld := { page := 0x05, off := 0x044, lsb := 20, width := 1, kind := .sts, reset := 0 }
def LOCKED : Fld := { page := 0x05, off := 0x044, lsb := 8, width := 1, kind := .sts, reset := 0 }
def STATE : Fld := { page := 0x05, off := 0x044, lsb := 0, width := 3, kind := .sts, reset := 0 }
def SUM : Fld := { page := 0x05, off := 0x048, lsb := 16, width := 16, kind := .sts, reset := 0 }
def ERR : Fld := { page := 0x05, off := 0x048, lsb := 0, width := 16, kind := .sts, reset := 0 }
def DRIVE : Fld := { page := 0x05, off := 0x04C, lsb := 0, width := 14, kind := .sts, reset := 0 }
def PULLIN_MS : Fld := { page := 0x05, off := 0x050, lsb := 12, width := 12, kind := .ctl, reset := 0x014, legal := .range 1 4095 }
def PULLIN_US : Fld := { page := 0x05, off := 0x050, lsb := 0, width := 12, kind := .ctl, reset := 0x0C8, legal := .range 1 4095 }
def LOSS_N : Fld := { page := 0x05, off := 0x054, lsb := 24, width := 8, kind := .ctl, reset := 0x20, legal := .range 1 255 }
def LOSS_FR : Fld := { page := 0x05, off := 0x054, lsb := 16, width := 8, kind := .ctl, reset := 0x40, legal := .range 1 255 }
def RECOVER_N : Fld := { page := 0x05, off := 0x054, lsb := 0, width := 8, kind := .ctl, reset := 0x10, legal := .range 1 255 }
def LOCK_THR : Fld := { page := 0x05, off := 0x058, lsb := 0, width := 16, kind := .ctl, reset := 0x0800, legal := .range 1 0x7FFF }
def MAX_US : Fld := { page := 0x05, off := 0x05C, lsb := 16, width := 16, kind := .ctl, reset := 0x0FA0, legal := .range 10 65535 }
def TRAIL : Fld := { page := 0x05, off := 0x05C, lsb := 8, width := 8, kind := .ctl, reset := 0x04 }
def LEAD : Fld := { page := 0x05, off := 0x05C, lsb := 0, width := 8, kind := .ctl, reset := 0x04 }
def KI : Fld := { page := 0x05, off := 0x060, lsb := 16, width := 16, kind := .shd, reset := 0x1800 }
def GAIN : Fld := { page := 0x05, off := 0x060, lsb := 0, width := 16, kind := .shd, reset := 0x3A98 }
def I_LIM : Fld := { page := 0x05, off := 0x064, lsb := 16, width := 13, kind := .shd, reset := 0x1000, legal := .range 0 8191 }
def DRV_MAX : Fld := { page := 0x05, off := 0x064, lsb := 0, width := 13, kind := .shd, reset := 0x1800, legal := .range 0 8191 }
def OFFSET : Fld := { page := 0x05, off := 0x068, lsb := 0, width := 14, kind := .shd, reset := 0 }
def BQ : Fld := { page := 0x05, off := 0x06C, lsb := 0, width := 24, kind := .shd, reset := 0, count := 10, stride := 4, exc := [(0, 4194304), (5, 4194304)] }
def DRIFT_THR : Fld := { page := 0x05, off := 0x094, lsb := 16, width := 8, kind := .ctl, reset := 0x30, legal := .range 1 255 }
def DONE_THR : Fld := { page := 0x05, off := 0x094, lsb := 8, width := 8, kind := .ctl, reset := 0x0C, legal := .range 1 255 }
def LEARN_SHIFT : Fld := { page := 0x05, off := 0x094, lsb := 0, width := 3, kind := .ctl, reset := 0x2, legal := .range 0 7 }
def FF_CLEAR : Fld := { page := 0x05, off := 0x098, lsb := 0, width := 1, kind := .go, reset := 0 }
def HOLDS : Fld := { page := 0x05, off := 0x0A0, lsb := 16, width := 16, kind := .cnt, reset := 0 }
def LOSSES : Fld := { page := 0x05, off := 0x0A0, lsb := 0, width := 16, kind := .cnt, reset := 0 }
def SATS : Fld := { page := 0x05, off := 0x0A4, lsb := 16, width := 16, kind := .cnt, reset := 0 }
def SLIPS : Fld := { page := 0x05, off := 0x0A4, lsb := 0, width := 16, kind := .cnt, reset := 0 }
def POS : Fld := { page := 0x05, off := 0x0A8, lsb := 0, width := 24, kind := .sts, reset := 0 }
def CROSS_CLEAR : Fld := { page := 0x05, off := 0x0AC, lsb := 0, width := 1, kind := .go, reset := 0 }
def REVS : Fld := { page := 0x05, off := 0x0B0, lsb := 16, width := 16, kind := .cnt, reset := 0 }
def RESID : Fld := { page := 0x05, off := 0x0B0, lsb := 0, width := 16, kind := .sts, reset := 0 }
def FF : Fld := { page := 0x05, off := 0x400, lsb := 0, width := 16, kind := .sts, reset := 0, count := 256, stride := 4 }
def fields : List Fld :=
  [TE_MODE, LEARN_EN, FF_EN, HOLD_EN, AUTO_REACQ, CLOSE, LAST_LOSS, LEARNED, HOLD_PRED, HOLD_DROP, LOCKED, STATE, SUM, ERR, DRIVE, PULLIN_MS, PULLIN_US, LOSS_N, LOSS_FR, RECOVER_N, LOCK_THR, MAX_US, TRAIL, LEAD, KI, GAIN, I_LIM, DRV_MAX, OFFSET, BQ, DRIFT_THR, DONE_THR, LEARN_SHIFT, FF_CLEAR, HOLDS, LOSSES, SATS, SLIPS, POS, CROSS_CLEAR] ++
  [REVS, RESID, FF]
end TRK

/-! Page SLD (0x06): the fields of its block registers, by the page's register table in 07_spindle_sled_loader.md. -/
namespace SLD
def SEEK_GO : Fld := { page := 0x06, off := 0x040, lsb := 31, width := 1, kind := .go, reset := 0 }
def LAYER : Fld := { page := 0x06, off := 0x040, lsb := 30, width := 1, kind := .ctl, reset := 0 }
def TARGET : Fld := { page := 0x06, off := 0x040, lsb := 0, width := 24, kind := .ctl, reset := 0 }
def LAST_RESULT : Fld := { page := 0x06, off := 0x044, lsb := 28, width := 4, kind := .sts, reset := 0 }
def TRIES_USED : Fld := { page := 0x06, off := 0x044, lsb := 8, width := 4, kind := .sts, reset := 0 }
def STATE : Fld := { page := 0x06, off := 0x044, lsb := 0, width := 3, kind := .sts, reset := 0 }
def VMAX : Fld := { page := 0x06, off := 0x048, lsb := 24, width := 8, kind := .ctl, reset := 0x28, legal := .range 1 255 }
def ACC : Fld := { page := 0x06, off := 0x048, lsb := 16, width := 8, kind := .ctl, reset := 0x04, legal := .range 1 255 }
def FINE_MAX : Fld := { page := 0x06, off := 0x048, lsb := 8, width := 8, kind := .ctl, reset := 0x40, legal := .range 1 255 }
def TRIES : Fld := { page := 0x06, off := 0x048, lsb := 0, width := 4, kind := .ctl, reset := 0x4, legal := .range 1 15 }
def SEEK_MS : Fld := { page := 0x06, off := 0x04C, lsb := 16, width := 16, kind := .ctl, reset := 0x0190, legal := .range 10 4000 }
def PWM_MAX : Fld := { page := 0x06, off := 0x04C, lsb := 0, width := 10, kind := .ctl, reset := 0x300, legal := .range 0 1023 }
def CREEP_THR : Fld := { page := 0x06, off := 0x050, lsb := 8, width := 8, kind := .ctl, reset := 0x80, legal := .range 1 255 }
def FOLLOW_EN : Fld := { page := 0x06, off := 0x050, lsb := 0, width := 1, kind := .ctl, reset := 1 }
def OUTER_UM : Fld := { page := 0x06, off := 0x054, lsb := 16, width := 16, kind := .ctl, reset := 0x8E94, legal := .range 1000 40000 }
def POSITION_UM : Fld := { page := 0x06, off := 0x054, lsb := 0, width := 16, kind := .sts, reset := 0 }
def ADDR_LAYER : Fld := { page := 0x06, off := 0x058, lsb := 24, width := 1, kind := .sts, reset := 0 }
def ADDR_NOW : Fld := { page := 0x06, off := 0x058, lsb := 0, width := 24, kind := .sts, reset := 0 }
def SEEKS : Fld := { page := 0x06, off := 0x05C, lsb := 16, width := 16, kind := .cnt, reset := 0 }
def FAILS : Fld := { page := 0x06, off := 0x05C, lsb := 0, width := 16, kind := .cnt, reset := 0 }
def RETRIES : Fld := { page := 0x06, off := 0x060, lsb := 16, width := 16, kind := .cnt, reset := 0 }
def SLIPFIX : Fld := { page := 0x06, off := 0x060, lsb := 0, width := 16, kind := .cnt, reset := 0 }
def HOME : Fld := { page := 0x06, off := 0x064, lsb := 0, width := 1, kind := .go, reset := 0 }
def ABORT : Fld := { page := 0x06, off := 0x068, lsb := 0, width := 1, kind := .go, reset := 0 }
def SECTOR_AREA : Fld := { page := 0x06, off := 0x06C, lsb := 0, width := 32, kind := .sts, reset := 0x006C5555 }
def fields : List Fld :=
  [SEEK_GO, LAYER, TARGET, LAST_RESULT, TRIES_USED, STATE, VMAX, ACC, FINE_MAX, TRIES, SEEK_MS, PWM_MAX, CREEP_THR, FOLLOW_EN, OUTER_UM, POSITION_UM, ADDR_LAYER, ADDR_NOW, SEEKS, FAILS, RETRIES, SLIPFIX, HOME, ABORT, SECTOR_AREA]
end SLD

/-! Page SPN (0x07): the fields of its block registers, by the page's register table in 07_spindle_sled_loader.md. -/
namespace SPN
def POLE_PAIRS : Fld := { page := 0x07, off := 0x040, lsb := 8, width := 4, kind := .ctl, reset := 0x6, legal := .range 1 12 }
def SENSE : Fld := { page := 0x07, off := 0x040, lsb := 2, width := 1, kind := .ctl, reset := 0 }
def QUIET : Fld := { page := 0x07, off := 0x040, lsb := 1, width := 1, kind := .ctl, reset := 0 }
def HOLD_STOP : Fld := { page := 0x07, off := 0x040, lsb := 0, width := 1, kind := .ctl, reset := 0 }
def RPM : Fld := { page := 0x07, off := 0x044, lsb := 16, width := 16, kind := .sts, reset := 0 }
def ANGLE_OK : Fld := { page := 0x07, off := 0x044, lsb := 9, width := 1, kind := .sts, reset := 0 }
def RATE_MODE : Fld := { page := 0x07, off := 0x044, lsb := 8, width := 1, kind := .sts, reset := 0 }
def ZONE : Fld := { page := 0x07, off := 0x044, lsb := 4, width := 4, kind := .sts, reset := 0 }
def STATE : Fld := { page := 0x07, off := 0x044, lsb := 0, width := 3, kind := .sts, reset := 0 }
def CAP_DVD : Fld := { page := 0x07, off := 0x048, lsb := 16, width := 8, kind := .ctl, reset := 0x20, legal := .range 4 32 }
def CAP_CD : Fld := { page := 0x07, off := 0x048, lsb := 0, width := 8, kind := .ctl, reset := 0x60, legal := .range 4 96 }
def TARGET : Fld := { page := 0x07, off := 0x04C, lsb := 8, width := 8, kind := .sts, reset := 0 }
def NOW : Fld := { page := 0x07, off := 0x04C, lsb := 0, width := 8, kind := .sts, reset := 0 }
def RPM_MAX : Fld := { page := 0x07, off := 0x050, lsb := 16, width := 16, kind := .ctl, reset := 0x1770, legal := .range 1000 9000 }
def ACCEL : Fld := { page := 0x07, off := 0x050, lsb := 0, width := 8, kind := .ctl, reset := 0x14, legal := .range 1 200 }
def KI : Fld := { page := 0x07, off := 0x054, lsb := 16, width := 16, kind := .shd, reset := 0x0010 }
def KP : Fld := { page := 0x07, off := 0x054, lsb := 0, width := 16, kind := .shd, reset := 0x0200 }
def THETA : Fld := { page := 0x07, off := 0x058, lsb := 0, width := 12, kind := .sts, reset := 0 }
def RIPPLE : Fld := { page := 0x07, off := 0x05C, lsb := 16, width := 16, kind := .sts, reset := 0 }
def UNBAL_THR : Fld := { page := 0x07, off := 0x05C, lsb := 0, width := 16, kind := .ctl, reset := 0x0028, legal := .range 1 65535 }
def STALLS : Fld := { page := 0x07, off := 0x060, lsb := 16, width := 16, kind := .cnt, reset := 0 }
def SPINUPS : Fld := { page := 0x07, off := 0x060, lsb := 0, width := 16, kind := .cnt, reset := 0 }
def REVS : Fld := { page := 0x07, off := 0x064, lsb := 0, width := 32, kind := .cnt, reset := 0 }
def LAST_SPINUP_MS : Fld := { page := 0x07, off := 0x068, lsb := 0, width := 16, kind := .sts, reset := 0 }
def CD_SPEED : Fld := { page := 0x07, off := 0x100, lsb := 24, width := 8, kind := .ctl, reset := 0, legal := .zrange 4 96, count := 16, stride := 4, exc := [(0, 40), (1, 48), (2, 56), (3, 64), (4, 72), (5, 80), (6, 88), (7, 96)] }
def CD_START : Fld := { page := 0x07, off := 0x100, lsb := 0, width := 24, kind := .ctl, reset := 0, legal := .custom, count := 16, stride := 4, exc := [(1, 20000), (2, 50000), (3, 85000), (4, 125000), (5, 170000), (6, 220000), (7, 275000)] }
def DVD_SPEED : Fld := { page := 0x07, off := 0x140, lsb := 24, width := 8, kind := .ctl, reset := 0, legal := .zrange 4 32, count := 16, stride := 4, exc := [(0, 12), (1, 14), (2, 16), (3, 18), (4, 20), (5, 22), (6, 24), (7, 26), (8, 28), (9, 30), (10, 32), (11, 32)] }
def DVD_START : Fld := { page := 0x07, off := 0x140, lsb := 0, width := 24, kind := .ctl, reset := 0, legal := .custom, count := 16, stride := 4, exc := [(1, 262144), (2, 360448), (3, 458752), (4, 589824), (5, 720896), (6, 884736), (7, 1048576), (8, 1245184), (9, 1441792), (10, 1671168), (11, 1900544)] }
def fields : List Fld :=
  [POLE_PAIRS, SENSE, QUIET, HOLD_STOP, RPM, ANGLE_OK, RATE_MODE, ZONE, STATE, CAP_DVD, CAP_CD, TARGET, NOW, RPM_MAX, ACCEL, KI, KP, THETA, RIPPLE, UNBAL_THR, STALLS, SPINUPS, REVS, LAST_SPINUP_MS, CD_SPEED, CD_START, DVD_SPEED, DVD_START]
end SPN

/-! Page LPC (0x08): the fields of its block registers, by the page's register table in 06_optical_loops.md. -/
namespace LPC
def WAVE : Fld := { page := 0x08, off := 0x040, lsb := 0, width := 2, kind := .ctl, reset := 0, legal := .range 0 2 }
def LAST_OFF : Fld := { page := 0x08, off := 0x044, lsb := 28, width := 4, kind := .sts, reset := 0 }
def LIT : Fld := { page := 0x08, off := 0x044, lsb := 16, width := 2, kind := .sts, reset := 0 }
def STATE : Fld := { page := 0x08, off := 0x044, lsb := 0, width := 3, kind := .sts, reset := 0 }
def DRIVE : Fld := { page := 0x08, off := 0x048, lsb := 16, width := 10, kind := .sts, reset := 0 }
def MON : Fld := { page := 0x08, off := 0x048, lsb := 0, width := 12, kind := .sts, reset := 0 }
def TARGET_650 : Fld := { page := 0x08, off := 0x04C, lsb := 16, width := 12, kind := .shd, reset := 0x480, legal := .range 1 4095 }
def TARGET_780 : Fld := { page := 0x08, off := 0x04C, lsb := 0, width := 12, kind := .shd, reset := 0x3C0, legal := .range 1 4095 }
def KI : Fld := { page := 0x08, off := 0x050, lsb := 16, width := 16, kind := .shd, reset := 0x0008 }
def KP : Fld := { page := 0x08, off := 0x050, lsb := 0, width := 16, kind := .shd, reset := 0x0040 }
def DRV_MAX_650 : Fld := { page := 0x08, off := 0x054, lsb := 16, width := 10, kind := .ctl, reset := 0x300, legal := .range 0 1023 }
def DRV_MAX_780 : Fld := { page := 0x08, off := 0x054, lsb := 0, width := 10, kind := .ctl, reset := 0x300, legal := .range 0 1023 }
def TRIP_650 : Fld := { page := 0x08, off := 0x058, lsb := 16, width := 12, kind := .ctl, reset := 0x7FF, legal := .range 1 4095 }
def TRIP_780 : Fld := { page := 0x08, off := 0x058, lsb := 0, width := 12, kind := .ctl, reset := 0x7FF, legal := .range 1 4095 }
def RAMP_US : Fld := { page := 0x08, off := 0x05C, lsb := 16, width := 16, kind := .ctl, reset := 0x00C8, legal := .range 10 65535 }
def TOL : Fld := { page := 0x08, off := 0x05C, lsb := 0, width := 8, kind := .ctl, reset := 0x1A, legal := .range 1 255 }
def I_REF_650 : Fld := { page := 0x08, off := 0x060, lsb := 16, width := 10, kind := .sts, reset := 0 }
def I_REF_780 : Fld := { page := 0x08, off := 0x060, lsb := 0, width := 10, kind := .sts, reset := 0 }
def DRV_AVG_650 : Fld := { page := 0x08, off := 0x064, lsb := 16, width := 10, kind := .sts, reset := 0 }
def DRV_AVG_780 : Fld := { page := 0x08, off := 0x064, lsb := 0, width := 10, kind := .sts, reset := 0 }
def DEG_FR : Fld := { page := 0x08, off := 0x068, lsb := 0, width := 8, kind := .ctl, reset := 0x33, legal := .range 1 255 }
def REF_CAPTURE : Fld := { page := 0x08, off := 0x06C, lsb := 0, width := 1, kind := .go, reset := 0 }
def TRIPS : Fld := { page := 0x08, off := 0x070, lsb := 0, width := 16, kind := .cnt, reset := 0 }
def LIT_780_S : Fld := { page := 0x08, off := 0x074, lsb := 0, width := 32, kind := .cnt, reset := 0 }
def LIT_650_S : Fld := { page := 0x08, off := 0x078, lsb := 0, width := 32, kind := .cnt, reset := 0 }
def fields : List Fld :=
  [WAVE, LAST_OFF, LIT, STATE, DRIVE, MON, TARGET_650, TARGET_780, KI, KP, DRV_MAX_650, DRV_MAX_780, TRIP_650, TRIP_780, RAMP_US, TOL, I_REF_650, I_REF_780, DRV_AVG_650, DRV_AVG_780, DEG_FR, REF_CAPTURE, TRIPS, LIT_780_S, LIT_650_S]
end LPC

end Sys2Proof.Machine
end

