-- ==== Sys2Proof/Machine/RegTable2.lean ====
section
/-! DEFINITION. Register fields of the pages CHN to QUE: place, width, Kind, reset value and legal values (R33, R44, R48). -/

namespace Sys2Proof.Machine

/-! Page CHN (0x09): the fields of its block registers, by the page's register table in 08_event_channel.md. -/
namespace CHN
def ASYM_EN : Fld := { page := 0x09, off := 0x040, lsb := 6, width := 1, kind := .ctl, reset := 1 }
def EQ_AD_EN : Fld := { page := 0x09, off := 0x040, lsb := 5, width := 1, kind := .ctl, reset := 1 }
def LEVEL_AD_EN : Fld := { page := 0x09, off := 0x040, lsb := 4, width := 1, kind := .ctl, reset := 1 }
def FORMAT : Fld := { page := 0x09, off := 0x040, lsb := 0, width := 2, kind := .ctl, reset := 0x2, legal := .range 0 2 }
def FMT : Fld := { page := 0x09, off := 0x044, lsb := 8, width := 2, kind := .sts, reset := 0 }
def RECAPTURE : Fld := { page := 0x09, off := 0x044, lsb := 6, width := 1, kind := .sts, reset := 0 }
def IN_DROP : Fld := { page := 0x09, off := 0x044, lsb := 5, width := 1, kind := .sts, reset := 0 }
def RF_OK : Fld := { page := 0x09, off := 0x044, lsb := 4, width := 1, kind := .sts, reset := 0 }
def STATE : Fld := { page := 0x09, off := 0x044, lsb := 0, width := 3, kind := .sts, reset := 0 }
def RATE_KBPS : Fld := { page := 0x09, off := 0x048, lsb := 0, width := 32, kind := .sts, reset := 0 }
def PERIOD_FS : Fld := { page := 0x09, off := 0x04C, lsb := 0, width := 32, kind := .sts, reset := 0 }
def SET_TOP : Fld := { page := 0x09, off := 0x050, lsb := 16, width := 10, kind := .shd, reset := 0x300, legal := .custom }
def SET_BOT : Fld := { page := 0x09, off := 0x050, lsb := 0, width := 10, kind := .shd, reset := 0x100, legal := .range 0 959 }
def NOW_TOP : Fld := { page := 0x09, off := 0x054, lsb := 16, width := 10, kind := .sts, reset := 0x300 }
def NOW_BOT : Fld := { page := 0x09, off := 0x054, lsb := 0, width := 10, kind := .sts, reset := 0x100 }
def ACQ_KP_SHIFT : Fld := { page := 0x09, off := 0x058, lsb := 24, width := 4, kind := .ctl, reset := 0x4 }
def ACQ_KI_SHIFT : Fld := { page := 0x09, off := 0x058, lsb := 16, width := 4, kind := .ctl, reset := 0x9 }
def KP_SHIFT : Fld := { page := 0x09, off := 0x058, lsb := 8, width := 4, kind := .ctl, reset := 0x6 }
def KI_SHIFT : Fld := { page := 0x09, off := 0x058, lsb := 0, width := 4, kind := .ctl, reset := 0xC }
def FREEWHEEL_US : Fld := { page := 0x09, off := 0x05C, lsb := 16, width := 16, kind := .ctl, reset := 0x0FA0, legal := .range 10 65535 }
def BLANK_US : Fld := { page := 0x09, off := 0x05C, lsb := 0, width := 16, kind := .ctl, reset := 0x1388, legal := .range 100 65535 }
def BLANK_FR : Fld := { page := 0x09, off := 0x060, lsb := 24, width := 8, kind := .ctl, reset := 0x20, legal := .range 1 255 }
def RECOVER_T : Fld := { page := 0x09, off := 0x060, lsb := 16, width := 8, kind := .ctl, reset := 0x40, legal := .range 8 255 }
def DROP_FR : Fld := { page := 0x09, off := 0x060, lsb := 8, width := 8, kind := .ctl, reset := 0x60, legal := .range 1 255 }
def DROP_MIN : Fld := { page := 0x09, off := 0x060, lsb := 0, width := 6, kind := .ctl, reset := 0x10, legal := .range 4 32 }
def CLIP_FR : Fld := { page := 0x09, off := 0x064, lsb := 16, width := 8, kind := .ctl, reset := 0x10, legal := .range 1 255 }
def SOFT_SCALE : Fld := { page := 0x09, off := 0x064, lsb := 0, width := 8, kind := .ctl, reset := 0x10, legal := .range 4 255 }
def SNR_THR : Fld := { page := 0x09, off := 0x068, lsb := 16, width := 16, kind := .ctl, reset := 0x0E00, legal := .range 0x0100 0x3000 }
def SNR : Fld := { page := 0x09, off := 0x068, lsb := 0, width := 16, kind := .sts, reset := 0 }
def ASYM_LIM : Fld := { page := 0x09, off := 0x06C, lsb := 16, width := 16, kind := .ctl, reset := 0x0CCD, legal := .range 1 0x7FFF }
def ASYM : Fld := { page := 0x09, off := 0x06C, lsb := 0, width := 16, kind := .sts, reset := 0 }
def LAP_PS : Fld := { page := 0x09, off := 0x070, lsb := 16, width := 16, kind := .sts, reset := 0 }
def EXPECT_PS : Fld := { page := 0x09, off := 0x070, lsb := 0, width := 16, kind := .sts, reset := 0 }
def TDC_TOL : Fld := { page := 0x09, off := 0x074, lsb := 0, width := 8, kind := .ctl, reset := 0x0D, legal := .range 1 255 }
def EQ_LOAD : Fld := { page := 0x09, off := 0x078, lsb := 0, width := 1, kind := .go, reset := 0 }
def DROPOUTS : Fld := { page := 0x09, off := 0x07C, lsb := 16, width := 16, kind := .cnt, reset := 0 }
def LOCK_LOSSES : Fld := { page := 0x09, off := 0x07C, lsb := 0, width := 16, kind := .cnt, reset := 0 }
def FREEWHEELS : Fld := { page := 0x09, off := 0x080, lsb := 16, width := 16, kind := .cnt, reset := 0 }
def SLIPS : Fld := { page := 0x09, off := 0x080, lsb := 0, width := 16, kind := .cnt, reset := 0 }
def EQ_INIT : Fld := { page := 0x09, off := 0x090, lsb := 0, width := 12, kind := .ctl, reset := 0, count := 7, stride := 4, exc := [(3, 1024)] }
def EQ_NOW : Fld := { page := 0x09, off := 0x0B0, lsb := 0, width := 12, kind := .sts, reset := 0, count := 7, stride := 4, exc := [(3, 1024)] }
def fields : List Fld :=
  [ASYM_EN, EQ_AD_EN, LEVEL_AD_EN, FORMAT, FMT, RECAPTURE, IN_DROP, RF_OK, STATE, RATE_KBPS, PERIOD_FS, SET_TOP, SET_BOT, NOW_TOP, NOW_BOT, ACQ_KP_SHIFT, ACQ_KI_SHIFT, KP_SHIFT, KI_SHIFT, FREEWHEEL_US, BLANK_US, BLANK_FR, RECOVER_T, DROP_FR, DROP_MIN, CLIP_FR, SOFT_SCALE, SNR_THR, SNR, ASYM_LIM, ASYM, LAP_PS, EXPECT_PS, TDC_TOL, EQ_LOAD, DROPOUTS, LOCK_LOSSES, FREEWHEELS, SLIPS, EQ_INIT] ++
  [EQ_NOW]
end CHN

/-! Page DEM (0x0A): the fields of its block registers, by the page's register table in 08_event_channel.md. -/
namespace DEM
def INSERT_MAX : Fld := { page := 0x0A, off := 0x040, lsb := 24, width := 8, kind := .ctl, reset := 0x20, legal := .range 1 255 }
def LOCK_N : Fld := { page := 0x0A, off := 0x040, lsb := 16, width := 4, kind := .ctl, reset := 0x3, legal := .range 1 15 }
def SYNC_WIN : Fld := { page := 0x0A, off := 0x040, lsb := 8, width := 4, kind := .ctl, reset := 0x4 }
def ERASE_THR : Fld := { page := 0x0A, off := 0x040, lsb := 0, width := 8, kind := .ctl, reset := 0x10 }
def LAST_OFS : Fld := { page := 0x0A, off := 0x044, lsb := 24, width := 8, kind := .sts, reset := 0 }
def INSERT_RUN : Fld := { page := 0x0A, off := 0x044, lsb := 16, width := 8, kind := .sts, reset := 0 }
def FRAME : Fld := { page := 0x0A, off := 0x044, lsb := 8, width := 8, kind := .sts, reset := 0 }
def SYNC_ID : Fld := { page := 0x0A, off := 0x044, lsb := 4, width := 3, kind := .sts, reset := 0 }
def STATE : Fld := { page := 0x0A, off := 0x044, lsb := 0, width := 2, kind := .sts, reset := 0x3 }
def ADDR_VALID : Fld := { page := 0x0A, off := 0x048, lsb := 31, width := 1, kind := .sts, reset := 0 }
def PREDICTED : Fld := { page := 0x0A, off := 0x048, lsb := 30, width := 1, kind := .sts, reset := 0 }
def SRC : Fld := { page := 0x0A, off := 0x048, lsb := 28, width := 1, kind := .sts, reset := 0 }
def LAYER : Fld := { page := 0x0A, off := 0x048, lsb := 24, width := 1, kind := .sts, reset := 0 }
def ADDR : Fld := { page := 0x0A, off := 0x048, lsb := 0, width := 24, kind := .sts, reset := 0 }
def SUBQ_0 : Fld := { page := 0x0A, off := 0x04C, lsb := 0, width := 32, kind := .sts, reset := 0 }
def SUBQ_1 : Fld := { page := 0x0A, off := 0x050, lsb := 0, width := 32, kind := .sts, reset := 0 }
def SUBQ_2 : Fld := { page := 0x0A, off := 0x054, lsb := 0, width := 32, kind := .sts, reset := 0 }
def DVD_ID : Fld := { page := 0x0A, off := 0x058, lsb := 0, width := 32, kind := .sts, reset := 0 }
def ILLEGAL : Fld := { page := 0x0A, off := 0x05C, lsb := 16, width := 16, kind := .cnt, reset := 0 }
def INSERTS : Fld := { page := 0x0A, off := 0x05C, lsb := 0, width := 16, kind := .cnt, reset := 0 }
def SUBQ_ERRS : Fld := { page := 0x0A, off := 0x060, lsb := 16, width := 16, kind := .cnt, reset := 0 }
def ID_ERRS : Fld := { page := 0x0A, off := 0x060, lsb := 0, width := 16, kind := .cnt, reset := 0 }
def SYNC_LOSSES : Fld := { page := 0x0A, off := 0x064, lsb := 16, width := 16, kind := .cnt, reset := 0 }
def ADDR_JUMPS : Fld := { page := 0x0A, off := 0x064, lsb := 0, width := 16, kind := .cnt, reset := 0 }
def fields : List Fld :=
  [INSERT_MAX, LOCK_N, SYNC_WIN, ERASE_THR, LAST_OFS, INSERT_RUN, FRAME, SYNC_ID, STATE, ADDR_VALID, PREDICTED, SRC, LAYER, ADDR, SUBQ_0, SUBQ_1, SUBQ_2, DVD_ID, ILLEGAL, INSERTS, SUBQ_ERRS, ID_ERRS, SYNC_LOSSES, ADDR_JUMPS]
end DEM

/-! Page ECD (0x0B): the fields of its block registers, by the page's register table in 09_recovery_ladder.md. -/
namespace ECD
def DIRECT_MAX : Fld := { page := 0x0B, off := 0x040, lsb := 28, width := 4, kind := .ctl, reset := 0x1, legal := .range 0 1 }
def SHADOW_FROM : Fld := { page := 0x0B, off := 0x040, lsb := 8, width := 2, kind := .ctl, reset := 0x1, legal := .range 0 2 }
def CONCEAL_EN : Fld := { page := 0x0B, off := 0x040, lsb := 5, width := 1, kind := .ctl, reset := 1 }
def BORROW_EN : Fld := { page := 0x0B, off := 0x040, lsb := 4, width := 1, kind := .ctl, reset := 0 }
def AVERAGE_EN : Fld := { page := 0x0B, off := 0x040, lsb := 3, width := 1, kind := .ctl, reset := 1 }
def REREAD_EN : Fld := { page := 0x0B, off := 0x040, lsb := 2, width := 1, kind := .ctl, reset := 1 }
def ERASURE_EN : Fld := { page := 0x0B, off := 0x040, lsb := 1, width := 1, kind := .ctl, reset := 1 }
def C1_ERR_MAX : Fld := { page := 0x0B, off := 0x044, lsb := 8, width := 2, kind := .ctl, reset := 0x1, legal := .range 1 2 }
def PI_ERR_MAX : Fld := { page := 0x0B, off := 0x044, lsb := 0, width := 3, kind := .ctl, reset := 0x4, legal := .range 1 5 }
def REREAD_N : Fld := { page := 0x0B, off := 0x048, lsb := 0, width := 4, kind := .ctl, reset := 0x3, legal := .range 1 8 }
def BORROW_MS : Fld := { page := 0x0B, off := 0x04C, lsb := 16, width := 16, kind := .ctl, reset := 0x0032, legal := .range 5 1000 }
def BORROW_PEERS : Fld := { page := 0x0B, off := 0x04C, lsb := 0, width := 2, kind := .ctl, reset := 0x3, legal := .range 1 3 }
def CONCEAL_MAX : Fld := { page := 0x0B, off := 0x050, lsb := 0, width := 8, kind := .ctl, reset := 0x08, legal := .range 1 255 }
def C1_THR : Fld := { page := 0x0B, off := 0x054, lsb := 24, width := 8, kind := .ctl, reset := 0x14, legal := .range 1 255 }
def PI_THR : Fld := { page := 0x0B, off := 0x054, lsb := 16, width := 8, kind := .ctl, reset := 0x08, legal := .range 1 208 }
def FAIL_RATE_THR : Fld := { page := 0x0B, off := 0x054, lsb := 0, width := 16, kind := .ctl, reset := 0x000A, legal := .range 1 65535 }
def ACTIVE : Fld := { page := 0x0B, off := 0x058, lsb := 31, width := 1, kind := .sts, reset := 0 }
def LAYER : Fld := { page := 0x0B, off := 0x058, lsb := 28, width := 1, kind := .sts, reset := 0 }
def LEVEL : Fld := { page := 0x0B, off := 0x058, lsb := 24, width := 3, kind := .sts, reset := 0 }
def ADDR : Fld := { page := 0x0B, off := 0x058, lsb := 0, width := 24, kind := .sts, reset := 0 }
def QUEUED : Fld := { page := 0x0B, off := 0x05C, lsb := 0, width := 10, kind := .live, reset := 0 }
def UNITS : Fld := { page := 0x0B, off := 0x060, lsb := 0, width := 32, kind := .cnt, reset := 0 }
def FAILS_L0 : Fld := { page := 0x0B, off := 0x064, lsb := 0, width := 32, kind := .cnt, reset := 0 }
def BY_ERASURE : Fld := { page := 0x0B, off := 0x068, lsb := 16, width := 16, kind := .cnt, reset := 0 }
def BY_REREAD : Fld := { page := 0x0B, off := 0x068, lsb := 0, width := 16, kind := .cnt, reset := 0 }
def BY_AVERAGE : Fld := { page := 0x0B, off := 0x06C, lsb := 16, width := 16, kind := .cnt, reset := 0 }
def BY_BORROW : Fld := { page := 0x0B, off := 0x06C, lsb := 0, width := 16, kind := .cnt, reset := 0 }
def CONCEALED : Fld := { page := 0x0B, off := 0x070, lsb := 16, width := 16, kind := .cnt, reset := 0 }
def UNRECOVERED : Fld := { page := 0x0B, off := 0x070, lsb := 0, width := 16, kind := .cnt, reset := 0 }
def CORRECTED : Fld := { page := 0x0B, off := 0x074, lsb := 0, width := 32, kind := .cnt, reset := 0 }
def MISCORRECTS : Fld := { page := 0x0B, off := 0x078, lsb := 16, width := 16, kind := .cnt, reset := 0 }
def MISMATCHES : Fld := { page := 0x0B, off := 0x078, lsb := 0, width := 16, kind := .cnt, reset := 0 }
def SHADOW_QUEUED : Fld := { page := 0x0B, off := 0x07C, lsb := 16, width := 16, kind := .cnt, reset := 0 }
def SHADOW_SKIPPED : Fld := { page := 0x0B, off := 0x07C, lsb := 0, width := 16, kind := .cnt, reset := 0 }
def LF_VALID : Fld := { page := 0x0B, off := 0x080, lsb := 31, width := 1, kind := .w1c, reset := 0 }
def LF_LAYER : Fld := { page := 0x0B, off := 0x080, lsb := 28, width := 1, kind := .sts, reset := 0 }
def LF_ADDR : Fld := { page := 0x0B, off := 0x080, lsb := 0, width := 24, kind := .sts, reset := 0 }
def fields : List Fld :=
  [DIRECT_MAX, SHADOW_FROM, CONCEAL_EN, BORROW_EN, AVERAGE_EN, REREAD_EN, ERASURE_EN, C1_ERR_MAX, PI_ERR_MAX, REREAD_N, BORROW_MS, BORROW_PEERS, CONCEAL_MAX, C1_THR, PI_THR, FAIL_RATE_THR, ACTIVE, LAYER, LEVEL, ADDR, QUEUED, UNITS, FAILS_L0, BY_ERASURE, BY_REREAD, BY_AVERAGE, BY_BORROW, CONCEALED, UNRECOVERED, CORRECTED, MISCORRECTS, MISMATCHES, SHADOW_QUEUED, SHADOW_SKIPPED, LF_VALID, LF_LAYER, LF_ADDR]
end ECD

/-! Page ERG (0x0C): the fields of its block registers, by the page's register table in 09_recovery_ladder.md. -/
namespace ERG
def RESTORE_EN : Fld := { page := 0x0C, off := 0x040, lsb := 5, width := 1, kind := .ctl, reset := 1 }
def SAVE_EN : Fld := { page := 0x0C, off := 0x040, lsb := 4, width := 1, kind := .ctl, reset := 1 }
def PREDICT_EN : Fld := { page := 0x0C, off := 0x040, lsb := 3, width := 1, kind := .ctl, reset := 1 }
def LEARN_EN : Fld := { page := 0x0C, off := 0x040, lsb := 2, width := 1, kind := .ctl, reset := 1 }
def SCAN : Fld := { page := 0x0C, off := 0x044, lsb := 2, width := 1, kind := .go, reset := 0 }
def SAVE : Fld := { page := 0x0C, off := 0x044, lsb := 1, width := 1, kind := .go, reset := 0 }
def CLEAR : Fld := { page := 0x0C, off := 0x044, lsb := 0, width := 1, kind := .go, reset := 0 }
def IN_USE : Fld := { page := 0x0C, off := 0x048, lsb := 16, width := 13, kind := .live, reset := 0 }
def GRADE : Fld := { page := 0x0C, off := 0x048, lsb := 8, width := 2, kind := .sts, reset := 0 }
def LEARNED : Fld := { page := 0x0C, off := 0x048, lsb := 4, width := 1, kind := .sts, reset := 0 }
def SCANNING : Fld := { page := 0x0C, off := 0x048, lsb := 3, width := 1, kind := .sts, reset := 0 }
def MERGE_ADDR : Fld := { page := 0x0C, off := 0x04C, lsb := 16, width := 16, kind := .ctl, reset := 0x0040 }
def MERGE_THETA : Fld := { page := 0x0C, off := 0x04C, lsb := 0, width := 12, kind := .ctl, reset := 0x008, legal := .range 0 2047 }
def LONG_THETA : Fld := { page := 0x0C, off := 0x050, lsb := 16, width := 12, kind := .ctl, reset := 0x200, legal := .range 16 2048 }
def CRACK_THETA : Fld := { page := 0x0C, off := 0x050, lsb := 0, width := 12, kind := .ctl, reset := 0x020, legal := .range 1 256 }
def CRACK_ADDR : Fld := { page := 0x0C, off := 0x054, lsb := 0, width := 24, kind := .ctl, reset := 0x004000, legal := .range 1 0xFFFFFF }
def DENSE_N : Fld := { page := 0x0C, off := 0x058, lsb := 16, width := 13, kind := .ctl, reset := 0x0080, legal := .range 1 4096 }
def FALSE_N : Fld := { page := 0x0C, off := 0x058, lsb := 0, width := 4, kind := .ctl, reset := 0x4, legal := .range 1 15 }
def SEG_INDEX : Fld := { page := 0x0C, off := 0x05C, lsb := 0, width := 12, kind := .ctl, reset := 0 }
def SEG_DATA : Fld := { page := 0x0C, off := 0x060, lsb := 0, width := 32, kind := .sts, reset := 0, count := 4, stride := 4 }
def REPORTS : Fld := { page := 0x0C, off := 0x070, lsb := 16, width := 16, kind := .cnt, reset := 0 }
def DROPPED : Fld := { page := 0x0C, off := 0x070, lsb := 0, width := 16, kind := .cnt, reset := 0 }
def PREDICTIONS : Fld := { page := 0x0C, off := 0x074, lsb := 16, width := 16, kind := .cnt, reset := 0 }
def FALSES : Fld := { page := 0x0C, off := 0x074, lsb := 0, width := 16, kind := .cnt, reset := 0 }
def MISSES : Fld := { page := 0x0C, off := 0x078, lsb := 0, width := 16, kind := .cnt, reset := 0 }
def fields : List Fld :=
  [RESTORE_EN, SAVE_EN, PREDICT_EN, LEARN_EN, SCAN, SAVE, CLEAR, IN_USE, GRADE, LEARNED, SCANNING, MERGE_ADDR, MERGE_THETA, LONG_THETA, CRACK_THETA, CRACK_ADDR, DENSE_N, FALSE_N, SEG_INDEX, SEG_DATA, REPORTS, DROPPED, PREDICTIONS, FALSES, MISSES]
end ERG

/-! Page AVG (0x0D): the fields of its block registers, by the page's register table in 09_recovery_ladder.md. -/
namespace AVG
def AVG_MAX : Fld := { page := 0x0D, off := 0x040, lsb := 28, width := 4, kind := .ctl, reset := 0x8, legal := .custom }
def AVG_MIN : Fld := { page := 0x0D, off := 0x040, lsb := 24, width := 4, kind := .ctl, reset := 0x2, legal := .custom }
def ALIGN_WIN : Fld := { page := 0x0D, off := 0x040, lsb := 16, width := 4, kind := .ctl, reset := 0x4 }
def RESTART_EN : Fld := { page := 0x0D, off := 0x040, lsb := 8, width := 1, kind := .ctl, reset := 1 }
def EARLY_STOP : Fld := { page := 0x0D, off := 0x040, lsb := 0, width := 1, kind := .ctl, reset := 1 }
def CLIP_FR : Fld := { page := 0x0D, off := 0x044, lsb := 16, width := 8, kind := .ctl, reset := 0x20, legal := .range 1 255 }
def ALIGN_THR : Fld := { page := 0x0D, off := 0x044, lsb := 8, width := 8, kind := .ctl, reset := 0x60, legal := .range 1 255 }
def CONF_THR : Fld := { page := 0x0D, off := 0x044, lsb := 0, width := 5, kind := .ctl, reset := 0x08, legal := .range 1 31 }
def BUSY : Fld := { page := 0x0D, off := 0x048, lsb := 31, width := 1, kind := .sts, reset := 0 }
def PASSES : Fld := { page := 0x0D, off := 0x048, lsb := 16, width := 5, kind := .sts, reset := 0 }
def DECODED_AT : Fld := { page := 0x0D, off := 0x048, lsb := 8, width := 5, kind := .sts, reset := 0 }
def RESTARTED : Fld := { page := 0x0D, off := 0x048, lsb := 4, width := 1, kind := .sts, reset := 0 }
def STATE : Fld := { page := 0x0D, off := 0x048, lsb := 0, width := 3, kind := .sts, reset := 0 }
def LAYER : Fld := { page := 0x0D, off := 0x04C, lsb := 28, width := 1, kind := .sts, reset := 0 }
def ADDR : Fld := { page := 0x0D, off := 0x04C, lsb := 0, width := 24, kind := .sts, reset := 0 }
def BEST_SINGLE : Fld := { page := 0x0D, off := 0x050, lsb := 16, width := 16, kind := .sts, reset := 0 }
def COMBINED : Fld := { page := 0x0D, off := 0x050, lsb := 0, width := 16, kind := .sts, reset := 0 }
def ACC_KIB : Fld := { page := 0x0D, off := 0x054, lsb := 16, width := 16, kind := .sts, reset := 0 }
def HELD : Fld := { page := 0x0D, off := 0x054, lsb := 0, width := 1, kind := .sts, reset := 0 }
def PASS_COUNT : Fld := { page := 0x0D, off := 0x058, lsb := 16, width := 16, kind := .cnt, reset := 0 }
def COMBINES : Fld := { page := 0x0D, off := 0x058, lsb := 0, width := 16, kind := .cnt, reset := 0 }
def ALIGN_FAILS : Fld := { page := 0x0D, off := 0x05C, lsb := 16, width := 16, kind := .cnt, reset := 0 }
def SKIPS : Fld := { page := 0x0D, off := 0x05C, lsb := 0, width := 16, kind := .cnt, reset := 0 }
def ABORT : Fld := { page := 0x0D, off := 0x060, lsb := 0, width := 1, kind := .go, reset := 0 }
def fields : List Fld :=
  [AVG_MAX, AVG_MIN, ALIGN_WIN, RESTART_EN, EARLY_STOP, CLIP_FR, ALIGN_THR, CONF_THR, BUSY, PASSES, DECODED_AT, RESTARTED, STATE, LAYER, ADDR, BEST_SINGLE, COMBINED, ACC_KIB, HELD, PASS_COUNT, COMBINES, ALIGN_FAILS, SKIPS, ABORT]
end AVG

/-! Page MEM (0x0E): the fields of its block registers, by the page's register table in 10_sector_cache.md. -/
namespace MEM
def WIN_WR_ANY : Fld := { page := 0x0E, off := 0x040, lsb := 1, width := 1, kind := .ctl, reset := 0 }
def SCRUB_EN : Fld := { page := 0x0E, off := 0x040, lsb := 0, width := 1, kind := .ctl, reset := 1 }
def SCRUB_S : Fld := { page := 0x0E, off := 0x044, lsb := 0, width := 16, kind := .ctl, reset := 0x003C, legal := .range 1 3600 }
def SCRUBBING : Fld := { page := 0x0E, off := 0x048, lsb := 31, width := 1, kind := .live, reset := 0 }
def HOST_NOW : Fld := { page := 0x0E, off := 0x048, lsb := 20, width := 10, kind := .sts, reset := 0 }
def SCRUB_POS : Fld := { page := 0x0E, off := 0x048, lsb := 0, width := 20, kind := .sts, reset := 0 }
def HOST_PEND : Fld := { page := 0x0E, off := 0x04C, lsb := 31, width := 1, kind := .sts, reset := 0 }
def RSV_PAGES : Fld := { page := 0x0E, off := 0x04C, lsb := 16, width := 10, kind := .ctl, reset := 0x040, legal := .range 0 512 }
def HOST_PAGES : Fld := { page := 0x0E, off := 0x04C, lsb := 0, width := 10, kind := .ctl, reset := 0, legal := .range 0 512 }
def FREE_PAGES : Fld := { page := 0x0E, off := 0x050, lsb := 16, width := 11, kind := .live, reset := 0 }
def BANKS_OK : Fld := { page := 0x0E, off := 0x050, lsb := 0, width := 12, kind := .sts, reset := 0 }
def HOT_THR : Fld := { page := 0x0E, off := 0x054, lsb := 16, width := 8, kind := .ctl, reset := 0x10, legal := .range 1 255 }
def CE_RATE_THR : Fld := { page := 0x0E, off := 0x054, lsb := 0, width := 16, kind := .ctl, reset := 0x0064, legal := .range 1 65535 }
def CE_READS : Fld := { page := 0x0E, off := 0x058, lsb := 0, width := 32, kind := .cnt, reset := 0 }
def CE_MERGES : Fld := { page := 0x0E, off := 0x05C, lsb := 16, width := 16, kind := .cnt, reset := 0 }
def SCRUB_FIXES : Fld := { page := 0x0E, off := 0x05C, lsb := 0, width := 16, kind := .cnt, reset := 0 }
def UE_READS : Fld := { page := 0x0E, off := 0x060, lsb := 16, width := 16, kind := .cnt, reset := 0 }
def UE_MERGES : Fld := { page := 0x0E, off := 0x060, lsb := 0, width := 16, kind := .cnt, reset := 0 }
def MERGES : Fld := { page := 0x0E, off := 0x064, lsb := 0, width := 32, kind := .cnt, reset := 0 }
def SCRUB_PASSES : Fld := { page := 0x0E, off := 0x068, lsb := 16, width := 16, kind := .cnt, reset := 0 }
def SCRUB_UES : Fld := { page := 0x0E, off := 0x068, lsb := 0, width := 16, kind := .cnt, reset := 0 }
def UL_VALID : Fld := { page := 0x0E, off := 0x06C, lsb := 31, width := 1, kind := .w1c, reset := 0 }
def UL_REQ : Fld := { page := 0x0E, off := 0x06C, lsb := 28, width := 3, kind := .sts, reset := 0 }
def UL_SYND : Fld := { page := 0x0E, off := 0x06C, lsb := 20, width := 8, kind := .sts, reset := 0 }
def UL_WORD : Fld := { page := 0x0E, off := 0x06C, lsb := 0, width := 20, kind := .sts, reset := 0 }
def TABLE : Fld := { page := 0x0E, off := 0x070, lsb := 4, width := 1, kind := .ctl, reset := 0 }
def ENTRY : Fld := { page := 0x0E, off := 0x070, lsb := 0, width := 4, kind := .ctl, reset := 0 }
def TD_VALID : Fld := { page := 0x0E, off := 0x074, lsb := 31, width := 1, kind := .live, reset := 0 }
def TD_CLEARED : Fld := { page := 0x0E, off := 0x074, lsb := 30, width := 1, kind := .live, reset := 0 }
def TD_SYND : Fld := { page := 0x0E, off := 0x074, lsb := 20, width := 8, kind := .live, reset := 0 }
def TD_WORD : Fld := { page := 0x0E, off := 0x074, lsb := 0, width := 20, kind := .live, reset := 0 }
def TD_COUNT : Fld := { page := 0x0E, off := 0x078, lsb := 16, width := 16, kind := .sts, reset := 0 }
def TD_BIT : Fld := { page := 0x0E, off := 0x078, lsb := 0, width := 8, kind := .sts, reset := 0 }
def CLEAR_UE : Fld := { page := 0x0E, off := 0x07C, lsb := 1, width := 1, kind := .go, reset := 0 }
def CLEAR_CE : Fld := { page := 0x0E, off := 0x07C, lsb := 0, width := 1, kind := .go, reset := 0 }
def fields : List Fld :=
  [WIN_WR_ANY, SCRUB_EN, SCRUB_S, SCRUBBING, HOST_NOW, SCRUB_POS, HOST_PEND, RSV_PAGES, HOST_PAGES, FREE_PAGES, BANKS_OK, HOT_THR, CE_RATE_THR, CE_READS, CE_MERGES, SCRUB_FIXES, UE_READS, UE_MERGES, MERGES, SCRUB_PASSES, SCRUB_UES, UL_VALID, UL_REQ, UL_SYND, UL_WORD, TABLE, ENTRY, TD_VALID, TD_CLEARED, TD_SYND, TD_WORD, TD_COUNT, TD_BIT, CLEAR_UE, CLEAR_CE]
end MEM

/-! Page QUE (0x0F): the fields of its block registers, by the page's register table in 12_queues_ordering.md. -/
namespace QUE
def SEL_SLICE : Fld := { page := 0x0F, off := 0x040, lsb := 8, width := 6, kind := .ctl, reset := 0 }
def SEL_QP : Fld := { page := 0x0F, off := 0x040, lsb := 0, width := 3, kind := .ctl, reset := 0 }
def CFG_LOC : Fld := { page := 0x0F, off := 0x044, lsb := 17, width := 1, kind := .ctl, reset := 0 }
def CFG_ATOMIC : Fld := { page := 0x0F, off := 0x044, lsb := 16, width := 1, kind := .ctl, reset := 0 }
def CFG_DEPTH : Fld := { page := 0x0F, off := 0x044, lsb := 0, width := 11, kind := .ctl, reset := 0x040, legal := .pow2 2 1024 }
def SQ_BASE_LO : Fld := { page := 0x0F, off := 0x048, lsb := 6, width := 26, kind := .ctl, reset := 0 }
def SQ_BASE_HI : Fld := { page := 0x0F, off := 0x04C, lsb := 0, width := 32, kind := .ctl, reset := 0 }
def CQ_BASE_LO : Fld := { page := 0x0F, off := 0x050, lsb := 4, width := 28, kind := .ctl, reset := 0 }
def CQ_BASE_HI : Fld := { page := 0x0F, off := 0x054, lsb := 0, width := 32, kind := .ctl, reset := 0 }
def QP_ABORT : Fld := { page := 0x0F, off := 0x058, lsb := 2, width := 1, kind := .go, reset := 0 }
def QP_DELETE : Fld := { page := 0x0F, off := 0x058, lsb := 1, width := 1, kind := .go, reset := 0 }
def QP_CREATE : Fld := { page := 0x0F, off := 0x058, lsb := 0, width := 1, kind := .go, reset := 0 }
def LAST_RESULT : Fld := { page := 0x0F, off := 0x05C, lsb := 28, width := 4, kind := .sts, reset := 0 }
def ST_STATE : Fld := { page := 0x0F, off := 0x05C, lsb := 24, width := 3, kind := .live, reset := 0 }
def ST_LOC : Fld := { page := 0x0F, off := 0x05C, lsb := 17, width := 1, kind := .live, reset := 0 }
def ST_ATOMIC : Fld := { page := 0x0F, off := 0x05C, lsb := 16, width := 1, kind := .live, reset := 0 }
def ST_DEPTH : Fld := { page := 0x0F, off := 0x05C, lsb := 0, width := 11, kind := .live, reset := 0 }
def SQ_HEAD : Fld := { page := 0x0F, off := 0x060, lsb := 16, width := 10, kind := .live, reset := 0 }
def SQ_TAIL : Fld := { page := 0x0F, off := 0x060, lsb := 0, width := 10, kind := .live, reset := 0 }
def PHASE : Fld := { page := 0x0F, off := 0x064, lsb := 31, width := 1, kind := .live, reset := 1 }
def CQ_HEAD : Fld := { page := 0x0F, off := 0x064, lsb := 16, width := 10, kind := .live, reset := 0 }
def CQ_TAIL : Fld := { page := 0x0F, off := 0x064, lsb := 0, width := 10, kind := .live, reset := 0 }
def INFLIGHT : Fld := { page := 0x0F, off := 0x068, lsb := 0, width := 10, kind := .live, reset := 0 }
def XACT_FREE : Fld := { page := 0x0F, off := 0x06C, lsb := 16, width := 12, kind := .live, reset := 0x800 }
def TAG_FREE : Fld := { page := 0x0F, off := 0x06C, lsb := 0, width := 10, kind := .live, reset := 0x200 }
def XACT_LOW_THR : Fld := { page := 0x0F, off := 0x070, lsb := 16, width := 11, kind := .ctl, reset := 0x100, legal := .range 0 2047 }
def TAG_LOW_THR : Fld := { page := 0x0F, off := 0x070, lsb := 0, width := 9, kind := .ctl, reset := 0x040, legal := .range 0 511 }
def LAT_THR_US : Fld := { page := 0x0F, off := 0x074, lsb := 0, width := 32, kind := .ctl, reset := 0x000F4240, legal := .range 1 0xFFFFFFFF }
def HAZARD_MS : Fld := { page := 0x0F, off := 0x078, lsb := 16, width := 16, kind := .ctl, reset := 0x03E8, legal := .range 1 65535 }
def FENCE_MS : Fld := { page := 0x0F, off := 0x078, lsb := 0, width := 16, kind := .ctl, reset := 0x03E8, legal := .range 1 65535 }
def THR_DEC : Fld := { page := 0x0F, off := 0x07C, lsb := 24, width := 8, kind := .ctl, reset := 0x40, legal := .range 1 255 }
def THR_NAND : Fld := { page := 0x0F, off := 0x07C, lsb := 16, width := 8, kind := .ctl, reset := 0x40, legal := .range 1 255 }
def THR_RYL : Fld := { page := 0x0F, off := 0x07C, lsb := 8, width := 8, kind := .ctl, reset := 0x40, legal := .range 1 255 }
def THR_DMA : Fld := { page := 0x0F, off := 0x07C, lsb := 0, width := 8, kind := .ctl, reset := 0x40, legal := .range 1 255 }
def ACCEPTED : Fld := { page := 0x0F, off := 0x080, lsb := 0, width := 32, kind := .cnt, reset := 0 }
def COMPLETED : Fld := { page := 0x0F, off := 0x084, lsb := 0, width := 32, kind := .cnt, reset := 0 }
def ABORTS : Fld := { page := 0x0F, off := 0x088, lsb := 16, width := 16, kind := .cnt, reset := 0 }
def FETCH_ERRS : Fld := { page := 0x0F, off := 0x088, lsb := 0, width := 16, kind := .cnt, reset := 0 }
def LAT_MAX_US : Fld := { page := 0x0F, off := 0x08C, lsb := 0, width := 32, kind := .sts, reset := 0 }
def LAT_CLR : Fld := { page := 0x0F, off := 0x090, lsb := 0, width := 1, kind := .go, reset := 0 }
def OVL_MAP_LO : Fld := { page := 0x0F, off := 0x094, lsb := 0, width := 32, kind := .sts, reset := 0 }
def OVL_MAP_HI : Fld := { page := 0x0F, off := 0x098, lsb := 0, width := 32, kind := .sts, reset := 0 }
def DC_VALID : Fld := { page := 0x0F, off := 0x09C, lsb := 31, width := 1, kind := .w1c, reset := 0 }
def DC_SLICE : Fld := { page := 0x0F, off := 0x09C, lsb := 16, width := 6, kind := .sts, reset := 0 }
def DC_CQ : Fld := { page := 0x0F, off := 0x09C, lsb := 15, width := 1, kind := .sts, reset := 0 }
def DC_QP : Fld := { page := 0x0F, off := 0x09C, lsb := 12, width := 3, kind := .sts, reset := 0 }
def DB_DROPS : Fld := { page := 0x0F, off := 0x0A0, lsb := 0, width := 16, kind := .cnt, reset := 0 }
def READAHEAD : Fld := { page := 0x0F, off := 0x0A4, lsb := 16, width := 9, kind := .ctl, reset := 0x020, legal := .range 0 256 }
def DISC_CACHE_EN : Fld := { page := 0x0F, off := 0x0A4, lsb := 0, width := 1, kind := .ctl, reset := 1 }
def HITS : Fld := { page := 0x0F, off := 0x0A8, lsb := 0, width := 32, kind := .cnt, reset := 0 }
def MISSES : Fld := { page := 0x0F, off := 0x0AC, lsb := 0, width := 32, kind := .cnt, reset := 0 }
def CACHED_PAGES : Fld := { page := 0x0F, off := 0x0B0, lsb := 0, width := 11, kind := .live, reset := 0 }
def BACKLOG : Fld := { page := 0x0F, off := 0x100, lsb := 16, width := 14, kind := .live, reset := 0, count := 64, stride := 4 }
def BACKLOG_THR : Fld := { page := 0x0F, off := 0x100, lsb := 0, width := 14, kind := .ctl, reset := 0x0100, legal := .range 0 8184, count := 64, stride := 4 }
def fields : List Fld :=
  [SEL_SLICE, SEL_QP, CFG_LOC, CFG_ATOMIC, CFG_DEPTH, SQ_BASE_LO, SQ_BASE_HI, CQ_BASE_LO, CQ_BASE_HI, QP_ABORT, QP_DELETE, QP_CREATE, LAST_RESULT, ST_STATE, ST_LOC, ST_ATOMIC, ST_DEPTH, SQ_HEAD, SQ_TAIL, PHASE, CQ_HEAD, CQ_TAIL, INFLIGHT, XACT_FREE, TAG_FREE, XACT_LOW_THR, TAG_LOW_THR, LAT_THR_US, HAZARD_MS, FENCE_MS, THR_DEC, THR_NAND, THR_RYL, THR_DMA, ACCEPTED, COMPLETED, ABORTS, FETCH_ERRS, LAT_MAX_US, LAT_CLR] ++
  [OVL_MAP_LO, OVL_MAP_HI, DC_VALID, DC_SLICE, DC_CQ, DC_QP, DB_DROPS, READAHEAD, DISC_CACHE_EN, HITS, MISSES, CACHED_PAGES, BACKLOG, BACKLOG_THR]
end QUE

end Sys2Proof.Machine
end

