-- ==== Sys2Proof/Machine/RegTable3.lean ====
section
/-! DEFINITION. Register fields of the pages SLC to LDR: place, width, Kind, reset value and legal values (R33, R44, R48). -/

namespace Sys2Proof.Machine

/-! Page SLC (0x10): the fields of its block registers, by the page's register table in 14_slices.md. -/
namespace SLC
def QUIESCE_LO : Fld := { page := 0x10, off := 0x040, lsb := 0, width := 32, kind := .ctl, reset := 0 }
def QUIESCE_HI : Fld := { page := 0x10, off := 0x044, lsb := 0, width := 32, kind := .ctl, reset := 0 }
def DRAIN_LO : Fld := { page := 0x10, off := 0x048, lsb := 0, width := 32, kind := .ctl, reset := 0 }
def DRAIN_HI : Fld := { page := 0x10, off := 0x04C, lsb := 0, width := 32, kind := .ctl, reset := 0 }
def CMD_SLICE : Fld := { page := 0x10, off := 0x050, lsb := 8, width := 6, kind := .ctl, reset := 0 }
def SL_RESET : Fld := { page := 0x10, off := 0x050, lsb := 1, width := 1, kind := .go, reset := 0 }
def SL_ABORT : Fld := { page := 0x10, off := 0x050, lsb := 0, width := 1, kind := .go, reset := 0 }
def RESETTING : Fld := { page := 0x10, off := 0x054, lsb := 1, width := 1, kind := .live, reset := 0 }
def ABORTING : Fld := { page := 0x10, off := 0x054, lsb := 0, width := 1, kind := .live, reset := 0 }
def SPOOF_RATE_THR : Fld := { page := 0x10, off := 0x058, lsb := 0, width := 16, kind := .ctl, reset := 0x0010, legal := .range 1 65535 }
def WAIT_THR_US : Fld := { page := 0x10, off := 0x05C, lsb := 0, width := 16, kind := .ctl, reset := 0x0064, legal := .range 1 65535 }
def SP_VALID : Fld := { page := 0x10, off := 0x060, lsb := 31, width := 1, kind := .w1c, reset := 0 }
def SP_KIND : Fld := { page := 0x10, off := 0x060, lsb := 30, width := 1, kind := .sts, reset := 0 }
def SP_PREFIX : Fld := { page := 0x10, off := 0x060, lsb := 29, width := 1, kind := .sts, reset := 0 }
def SP_REASON : Fld := { page := 0x10, off := 0x060, lsb := 24, width := 4, kind := .sts, reset := 0 }
def SP_SLICE : Fld := { page := 0x10, off := 0x060, lsb := 16, width := 6, kind := .sts, reset := 0 }
def SP_QP : Fld := { page := 0x10, off := 0x060, lsb := 12, width := 3, kind := .sts, reset := 0 }
def SPOOF_PASID : Fld := { page := 0x10, off := 0x064, lsb := 0, width := 20, kind := .sts, reset := 0 }
def SPOOF_REQ : Fld := { page := 0x10, off := 0x068, lsb := 0, width := 16, kind := .sts, reset := 0 }
def BOUND_LO : Fld := { page := 0x10, off := 0x06C, lsb := 0, width := 32, kind := .live, reset := 1 }
def BOUND_HI : Fld := { page := 0x10, off := 0x070, lsb := 0, width := 32, kind := .live, reset := 0 }
def SPOOFS : Fld := { page := 0x10, off := 0x074, lsb := 0, width := 32, kind := .cnt, reset := 0 }
def READY_DEC : Fld := { page := 0x10, off := 0x078, lsb := 24, width := 7, kind := .live, reset := 0 }
def READY_NAND : Fld := { page := 0x10, off := 0x078, lsb := 16, width := 7, kind := .live, reset := 0 }
def READY_RYL : Fld := { page := 0x10, off := 0x078, lsb := 8, width := 7, kind := .live, reset := 0 }
def READY_DMA : Fld := { page := 0x10, off := 0x078, lsb := 0, width := 7, kind := .live, reset := 0 }
def SH_SLICE : Fld := { page := 0x10, off := 0x07C, lsb := 8, width := 6, kind := .ctl, reset := 0 }
def SH_ENGINE : Fld := { page := 0x10, off := 0x07C, lsb := 0, width := 2, kind := .ctl, reset := 0 }
def GUAR : Fld := { page := 0x10, off := 0x080, lsb := 16, width := 16, kind := .live, reset := 0 }
def MEAS : Fld := { page := 0x10, off := 0x080, lsb := 0, width := 16, kind := .live, reset := 0 }
def G_NSID : Fld := { page := 0x10, off := 0x200, lsb := 0, width := 32, kind := .shd, reset := 0, count := 48, stride := 32, exc := [(0, 1)] }
/-- Bit 0 is reserved and reads zero (R10, R382). -/
def G_ACCESS_LO : Fld := { page := 0x10, off := 0x204, lsb := 0, width := 32, kind := .shd, reset := 0, count := 48, stride := 32, exc := [(0, 4294967294)] }
def G_ACCESS_HI : Fld := { page := 0x10, off := 0x208, lsb := 0, width := 32, kind := .shd, reset := 0, count := 48, stride := 32, exc := [(0, 4294967295)] }
def G_MODIFY_LO : Fld := { page := 0x10, off := 0x20C, lsb := 0, width := 32, kind := .shd, reset := 0, count := 48, stride := 32 }
def G_MODIFY_HI : Fld := { page := 0x10, off := 0x210, lsb := 0, width := 32, kind := .shd, reset := 0, count := 48, stride := 32 }
def VALID : Fld := { page := 0x10, off := 0x800, lsb := 31, width := 1, kind := .shd, reset := 0, legal := .custom, count := 64, stride := 32, exc := [(0, 1)] }
def REQ_CHK : Fld := { page := 0x10, off := 0x800, lsb := 30, width := 1, kind := .shd, reset := 1, count := 64, stride := 32, exc := [(0, 0)] }
def PASID : Fld := { page := 0x10, off := 0x800, lsb := 0, width := 20, kind := .shd, reset := 0, legal := .custom, count := 64, stride := 32 }
def REQ_ID : Fld := { page := 0x10, off := 0x804, lsb := 0, width := 16, kind := .shd, reset := 0, count := 64, stride := 32 }
def DEPTH_LOG2 : Fld := { page := 0x10, off := 0x808, lsb := 26, width := 4, kind := .shd, reset := 0xA, legal := .range 1 10, count := 64, stride := 32 }
def TAG_RSV : Fld := { page := 0x10, off := 0x808, lsb := 16, width := 10, kind := .shd, reset := 0, legal := .custom, count := 64, stride := 32, exc := [(0, 32)] }
def TAG_CAP : Fld := { page := 0x10, off := 0x808, lsb := 0, width := 10, kind := .shd, reset := 512, legal := .range 1 512, count := 64, stride := 32 }
def W_DEC : Fld := { page := 0x10, off := 0x80C, lsb := 24, width := 8, kind := .shd, reset := 0x10, legal := .range 1 255, count := 64, stride := 32 }
def W_NAND : Fld := { page := 0x10, off := 0x80C, lsb := 16, width := 8, kind := .shd, reset := 0x10, legal := .range 1 255, count := 64, stride := 32 }
def W_RYL : Fld := { page := 0x10, off := 0x80C, lsb := 8, width := 8, kind := .shd, reset := 0x10, legal := .range 1 255, count := 64, stride := 32 }
def W_DMA : Fld := { page := 0x10, off := 0x80C, lsb := 0, width := 8, kind := .shd, reset := 0x10, legal := .range 1 255, count := 64, stride := 32 }
def CMD_RATE : Fld := { page := 0x10, off := 0x810, lsb := 16, width := 16, kind := .shd, reset := 0, count := 64, stride := 32 }
def CMD_BURST : Fld := { page := 0x10, off := 0x810, lsb := 0, width := 16, kind := .shd, reset := 0x0100, legal := .range 1 65535, count := 64, stride := 32 }
def BYTE_RATE : Fld := { page := 0x10, off := 0x814, lsb := 16, width := 16, kind := .shd, reset := 0, count := 64, stride := 32 }
def BYTE_BURST : Fld := { page := 0x10, off := 0x814, lsb := 0, width := 16, kind := .shd, reset := 0x1000, legal := .range 1 65535, count := 64, stride := 32 }
def CMD_LEVEL : Fld := { page := 0x10, off := 0x818, lsb := 16, width := 16, kind := .live, reset := 0x100, count := 64, stride := 32 }
def BYTE_LEVEL : Fld := { page := 0x10, off := 0x818, lsb := 0, width := 16, kind := .live, reset := 0x1000, count := 64, stride := 32 }
def TAGS_HELD : Fld := { page := 0x10, off := 0x81C, lsb := 16, width := 10, kind := .live, reset := 0, count := 64, stride := 32 }
def SPOOF_CNT : Fld := { page := 0x10, off := 0x81C, lsb := 0, width := 16, kind := .cnt, reset := 0, count := 64, stride := 32 }
def fields : List Fld :=
  [QUIESCE_LO, QUIESCE_HI, DRAIN_LO, DRAIN_HI, CMD_SLICE, SL_RESET, SL_ABORT, RESETTING, ABORTING, SPOOF_RATE_THR, WAIT_THR_US, SP_VALID, SP_KIND, SP_PREFIX, SP_REASON, SP_SLICE, SP_QP, SPOOF_PASID, SPOOF_REQ, BOUND_LO, BOUND_HI, SPOOFS, READY_DEC, READY_NAND, READY_RYL, READY_DMA, SH_SLICE, SH_ENGINE, GUAR, MEAS, G_NSID, G_ACCESS_LO, G_ACCESS_HI, G_MODIFY_LO, G_MODIFY_HI, VALID, REQ_CHK, PASID, REQ_ID, DEPTH_LOG2] ++
  [TAG_RSV, TAG_CAP, W_DEC, W_NAND, W_RYL, W_DMA, CMD_RATE, CMD_BURST, BYTE_RATE, BYTE_BURST, CMD_LEVEL, BYTE_LEVEL, TAGS_HELD, SPOOF_CNT]
end SLC

/-! Page CMD (0x11): the fields of its block registers, by the page's register table in 13_command_set.md. -/
namespace CMD
def SPEED_OK : Fld := { page := 0x11, off := 0x040, lsb := 1, width := 1, kind := .ctl, reset := 0 }
def EJECT_OK : Fld := { page := 0x11, off := 0x040, lsb := 0, width := 1, kind := .ctl, reset := 1 }
def STALL_MS : Fld := { page := 0x11, off := 0x044, lsb := 0, width := 16, kind := .ctl, reset := 0x1388, legal := .range 1 65535 }
def MAX_XFER : Fld := { page := 0x11, off := 0x048, lsb := 0, width := 32, kind := .sts, reset := 0x00010000 }
def PREVENT_MAP_LO : Fld := { page := 0x11, off := 0x04C, lsb := 0, width := 32, kind := .sts, reset := 0 }
def PREVENT_MAP_HI : Fld := { page := 0x11, off := 0x050, lsb := 0, width := 32, kind := .sts, reset := 0 }
def UA_MAP_LO : Fld := { page := 0x11, off := 0x054, lsb := 0, width := 32, kind := .sts, reset := 0 }
def UA_MAP_HI : Fld := { page := 0x11, off := 0x058, lsb := 0, width := 32, kind := .sts, reset := 0 }
def LS_STATUS : Fld := { page := 0x11, off := 0x05C, lsb := 16, width := 16, kind := .sts, reset := 0 }
def LS_SLICE : Fld := { page := 0x11, off := 0x05C, lsb := 8, width := 6, kind := .sts, reset := 0 }
def LS_OPCODE : Fld := { page := 0x11, off := 0x05C, lsb := 0, width := 8, kind := .sts, reset := 0 }
def MMC_CMDS : Fld := { page := 0x11, off := 0x060, lsb := 0, width := 32, kind := .cnt, reset := 0 }
def NATIVE_CMDS : Fld := { page := 0x11, off := 0x064, lsb := 0, width := 32, kind := .cnt, reset := 0 }
def CHECKS : Fld := { page := 0x11, off := 0x068, lsb := 16, width := 16, kind := .cnt, reset := 0 }
def CLAMPED : Fld := { page := 0x11, off := 0x068, lsb := 0, width := 16, kind := .cnt, reset := 0 }
def SENSE_LOST : Fld := { page := 0x11, off := 0x06C, lsb := 16, width := 16, kind := .cnt, reset := 0 }
def UA_REPORTED : Fld := { page := 0x11, off := 0x06C, lsb := 0, width := 16, kind := .cnt, reset := 0 }
def fields : List Fld :=
  [SPEED_OK, EJECT_OK, STALL_MS, MAX_XFER, PREVENT_MAP_LO, PREVENT_MAP_HI, UA_MAP_LO, UA_MAP_HI, LS_STATUS, LS_SLICE, LS_OPCODE, MMC_CMDS, NATIVE_CMDS, CHECKS, CLAMPED, SENSE_LOST, UA_REPORTED]
end CMD

/-! Page OAS (0x12): the fields of its block registers, by the page's register table in 15_oasis_library.md. -/
namespace OAS
def IFACE : Fld := { page := 0x12, off := 0x040, lsb := 12, width := 1, kind := .ctl, reset := 1 }
def TIMING_MAX : Fld := { page := 0x12, off := 0x040, lsb := 8, width := 4, kind := .ctl, reset := 0x5, legal := .range 0 5 }
def WP_FORCE : Fld := { page := 0x12, off := 0x040, lsb := 2, width := 1, kind := .ctl, reset := 0 }
def SHADOW_EVICT : Fld := { page := 0x12, off := 0x040, lsb := 1, width := 1, kind := .ctl, reset := 1 }
def MOUNT_AUTO : Fld := { page := 0x12, off := 0x040, lsb := 0, width := 1, kind := .ctl, reset := 1 }
def DIES : Fld := { page := 0x12, off := 0x044, lsb := 16, width := 4, kind := .sts, reset := 0 }
def DDR : Fld := { page := 0x12, off := 0x044, lsb := 12, width := 1, kind := .sts, reset := 0 }
def MODE : Fld := { page := 0x12, off := 0x044, lsb := 8, width := 4, kind := .sts, reset := 0 }
def STATE : Fld := { page := 0x12, off := 0x044, lsb := 0, width := 3, kind := .sts, reset := 0 }
def BLOCKS_PER_DIE : Fld := { page := 0x12, off := 0x048, lsb := 16, width := 16, kind := .sts, reset := 0 }
def PAGES_PER_BLOCK : Fld := { page := 0x12, off := 0x048, lsb := 0, width := 16, kind := .sts, reset := 0 }
def TR_US : Fld := { page := 0x12, off := 0x04C, lsb := 16, width := 16, kind := .sts, reset := 0 }
def TPROG_US : Fld := { page := 0x12, off := 0x04C, lsb := 0, width := 16, kind := .sts, reset := 0 }
def SPARE_BYTES : Fld := { page := 0x12, off := 0x050, lsb := 16, width := 16, kind := .sts, reset := 0 }
def TBERS_MS : Fld := { page := 0x12, off := 0x050, lsb := 0, width := 16, kind := .sts, reset := 0 }
def USABLE_SECTORS : Fld := { page := 0x12, off := 0x054, lsb := 0, width := 32, kind := .sts, reset := 0 }
def FREE_SECTORS : Fld := { page := 0x12, off := 0x058, lsb := 0, width := 32, kind := .sts, reset := 0 }
def FREE_BLOCKS : Fld := { page := 0x12, off := 0x05C, lsb := 16, width := 16, kind := .sts, reset := 0 }
def SPARE_BLOCKS : Fld := { page := 0x12, off := 0x05C, lsb := 0, width := 16, kind := .sts, reset := 0 }
def BCH_HIGH_THR : Fld := { page := 0x12, off := 0x060, lsb := 24, width := 8, kind := .ctl, reset := 0x30, legal := .range 1 72 }
def SPARE_LOW_THR : Fld := { page := 0x12, off := 0x060, lsb := 16, width := 8, kind := .ctl, reset := 0x04 }
def WEAR_PCT : Fld := { page := 0x12, off := 0x060, lsb := 8, width := 8, kind := .ctl, reset := 0x50, legal := .range 1 100 }
def SPACE_LOW_PCT : Fld := { page := 0x12, off := 0x060, lsb := 0, width := 8, kind := .ctl, reset := 0x05, legal := .range 0 100 }
def SHADOW_MIB : Fld := { page := 0x12, off := 0x064, lsb := 16, width := 16, kind := .ctl, reset := 0x0100 }
def OP_PCT : Fld := { page := 0x12, off := 0x064, lsb := 0, width := 8, kind := .ctl, reset := 0x07, legal := .range 7 50 }
def LIB_ID : Fld := { page := 0x12, off := 0x068, lsb := 0, width := 32, kind := .sts, reset := 0 }
def SEQ_LO : Fld := { page := 0x12, off := 0x06C, lsb := 0, width := 32, kind := .sts, reset := 0 }
def SEQ_HI : Fld := { page := 0x12, off := 0x070, lsb := 0, width := 32, kind := .sts, reset := 0 }
def SHADOW_SECTORS : Fld := { page := 0x12, off := 0x074, lsb := 0, width := 32, kind := .live, reset := 0 }
def PROG_FAILS : Fld := { page := 0x12, off := 0x078, lsb := 16, width := 16, kind := .cnt, reset := 0 }
def ERASE_FAILS : Fld := { page := 0x12, off := 0x078, lsb := 0, width := 16, kind := .cnt, reset := 0 }
def BCH_FAILS : Fld := { page := 0x12, off := 0x07C, lsb := 16, width := 16, kind := .cnt, reset := 0 }
def READ_RETRIES : Fld := { page := 0x12, off := 0x07C, lsb := 0, width := 16, kind := .cnt, reset := 0 }
def TORN : Fld := { page := 0x12, off := 0x080, lsb := 16, width := 16, kind := .cnt, reset := 0 }
def GROWN_BAD : Fld := { page := 0x12, off := 0x080, lsb := 0, width := 16, kind := .cnt, reset := 0 }
def PNE_INTERNAL : Fld := { page := 0x12, off := 0x084, lsb := 16, width := 16, kind := .cnt, reset := 0 }
def SHADOW_EVICTS : Fld := { page := 0x12, off := 0x084, lsb := 0, width := 16, kind := .cnt, reset := 0 }
def ERASE_MAX : Fld := { page := 0x12, off := 0x088, lsb := 16, width := 16, kind := .sts, reset := 0 }
def ERASE_AVG : Fld := { page := 0x12, off := 0x088, lsb := 0, width := 16, kind := .sts, reset := 0 }
def NS_SECTORS : Fld := { page := 0x12, off := 0x090, lsb := 0, width := 30, kind := .ctl, reset := 0, legal := .range 0 0x20000000, count := 16, stride := 4 }
def NS_SIZE : Fld := { page := 0x12, off := 0x0D0, lsb := 0, width := 30, kind := .sts, reset := 0, count := 16, stride := 4 }
def RAW_DIE : Fld := { page := 0x12, off := 0x110, lsb := 26, width := 3, kind := .ctl, reset := 0, legal := .custom }
def RAW_BLOCK : Fld := { page := 0x12, off := 0x110, lsb := 10, width := 16, kind := .ctl, reset := 0, legal := .custom }
def RAW_PAGE : Fld := { page := 0x12, off := 0x110, lsb := 0, width := 10, kind := .ctl, reset := 0, legal := .custom }
def RAW_BUF : Fld := { page := 0x12, off := 0x114, lsb := 0, width := 9, kind := .ctl, reset := 0, legal := .custom }
def RAW_GO : Fld := { page := 0x12, off := 0x118, lsb := 31, width := 1, kind := .go, reset := 0 }
def RAW_OP : Fld := { page := 0x12, off := 0x118, lsb := 0, width := 2, kind := .ctl, reset := 0 }
def RAW_STATUS : Fld := { page := 0x12, off := 0x11C, lsb := 16, width := 16, kind := .sts, reset := 0 }
def ERASED : Fld := { page := 0x12, off := 0x11C, lsb := 8, width := 1, kind := .sts, reset := 0 }
def BITS : Fld := { page := 0x12, off := 0x11C, lsb := 0, width := 8, kind := .sts, reset := 0 }
def KNOWN : Fld := { page := 0x12, off := 0x120, lsb := 15, width := 1, kind := .live, reset := 0 }
def RAW_WPTR : Fld := { page := 0x12, off := 0x120, lsb := 0, width := 11, kind := .live, reset := 0 }
def COMMITS : Fld := { page := 0x12, off := 0x124, lsb := 0, width := 32, kind := .cnt, reset := 0 }
def PAGES_READ : Fld := { page := 0x12, off := 0x128, lsb := 0, width := 32, kind := .cnt, reset := 0 }
def PAGES_PROGRAMMED : Fld := { page := 0x12, off := 0x12C, lsb := 0, width := 32, kind := .cnt, reset := 0 }
def FLUSH_BOUND_US : Fld := { page := 0x12, off := 0x130, lsb := 0, width := 16, kind := .sts, reset := 0 }
def fields : List Fld :=
  [IFACE, TIMING_MAX, WP_FORCE, SHADOW_EVICT, MOUNT_AUTO, DIES, DDR, MODE, STATE, BLOCKS_PER_DIE, PAGES_PER_BLOCK, TR_US, TPROG_US, SPARE_BYTES, TBERS_MS, USABLE_SECTORS, FREE_SECTORS, FREE_BLOCKS, SPARE_BLOCKS, BCH_HIGH_THR, SPARE_LOW_THR, WEAR_PCT, SPACE_LOW_PCT, SHADOW_MIB, OP_PCT, LIB_ID, SEQ_LO, SEQ_HI, SHADOW_SECTORS, PROG_FAILS, ERASE_FAILS, BCH_FAILS, READ_RETRIES, TORN, GROWN_BAD, PNE_INTERNAL, SHADOW_EVICTS, ERASE_MAX, ERASE_AVG, NS_SECTORS] ++
  [NS_SIZE, RAW_DIE, RAW_BLOCK, RAW_PAGE, RAW_BUF, RAW_GO, RAW_OP, RAW_STATUS, ERASED, BITS, KNOWN, RAW_WPTR, COMMITS, PAGES_READ, PAGES_PROGRAMMED, FLUSH_BOUND_US]
end OAS

/-! Page RYL (0x13): the fields of its block registers, by the page's register table in 16_ryrram_link.md. -/
namespace RYL
def PRIORITY : Fld := { page := 0x13, off := 0x040, lsb := 24, width := 8, kind := .ctl, reset := 0x80 }
def JOIN_EN : Fld := { page := 0x13, off := 0x040, lsb := 8, width := 1, kind := .ctl, reset := 1 }
def EXPORT_DISC : Fld := { page := 0x13, off := 0x040, lsb := 5, width := 1, kind := .ctl, reset := 0 }
def BORROW_SERVE : Fld := { page := 0x13, off := 0x040, lsb := 4, width := 1, kind := .ctl, reset := 1 }
def PORT_EN : Fld := { page := 0x13, off := 0x040, lsb := 0, width := 3, kind := .ctl, reset := 0x7 }
def EXPORT_LIB : Fld := { page := 0x13, off := 0x044, lsb := 0, width := 16, kind := .ctl, reset := 0 }
def PREF_EN : Fld := { page := 0x13, off := 0x048, lsb := 16, width := 1, kind := .ctl, reset := 0 }
def PREF_ID : Fld := { page := 0x13, off := 0x048, lsb := 0, width := 16, kind := .ctl, reset := 0 }
def ID_VALID : Fld := { page := 0x13, off := 0x04C, lsb := 31, width := 1, kind := .sts, reset := 0 }
def ELDER : Fld := { page := 0x13, off := 0x04C, lsb := 30, width := 1, kind := .sts, reset := 0 }
def JOIN_STATE : Fld := { page := 0x13, off := 0x04C, lsb := 28, width := 2, kind := .sts, reset := 0 }
def NODE_ID : Fld := { page := 0x13, off := 0x04C, lsb := 0, width := 16, kind := .sts, reset := 0 }
def ELDER_PORT : Fld := { page := 0x13, off := 0x050, lsb := 24, width := 2, kind := .sts, reset := 0 }
def HOPS : Fld := { page := 0x13, off := 0x050, lsb := 16, width := 8, kind := .sts, reset := 0 }
def ELDER_ID : Fld := { page := 0x13, off := 0x050, lsb := 0, width := 16, kind := .sts, reset := 0 }
def GEN : Fld := { page := 0x13, off := 0x054, lsb := 0, width := 32, kind := .sts, reset := 0 }
def MEMBERS : Fld := { page := 0x13, off := 0x058, lsb := 0, width := 17, kind := .live, reset := 0 }
def ROSTER_HELD : Fld := { page := 0x13, off := 0x05C, lsb := 0, width := 17, kind := .sts, reset := 0 }
def ELECT_QUIET_MS : Fld := { page := 0x13, off := 0x060, lsb := 24, width := 8, kind := .ctl, reset := 0x0A, legal := .range 1 255 }
def LOST_N : Fld := { page := 0x13, off := 0x060, lsb := 16, width := 4, kind := .ctl, reset := 0x3, legal := .range 2 15 }
def HEARTBEAT_MS : Fld := { page := 0x13, off := 0x060, lsb := 0, width := 16, kind := .ctl, reset := 0x0064, legal := .range 10 10000 }
def PROGRESS_MS : Fld := { page := 0x13, off := 0x064, lsb := 16, width := 16, kind := .ctl, reset := 0x01F4, legal := .range 50 10000 }
def ID_HOLD_S : Fld := { page := 0x13, off := 0x064, lsb := 0, width := 16, kind := .ctl, reset := 0x0258 }
def BORROW_LEVEL : Fld := { page := 0x13, off := 0x068, lsb := 8, width := 3, kind := .ctl, reset := 0x1, legal := .range 0 3 }
def SERVE_SLICE : Fld := { page := 0x13, off := 0x068, lsb := 0, width := 6, kind := .ctl, reset := 0 }
def UP : Fld := { page := 0x13, off := 0x06C, lsb := 31, width := 1, kind := .sts, reset := 0, count := 3, stride := 4 }
def LOOP : Fld := { page := 0x13, off := 0x06C, lsb := 30, width := 1, kind := .sts, reset := 0, count := 3, stride := 4 }
def NEIGH_VALID : Fld := { page := 0x13, off := 0x06C, lsb := 29, width := 1, kind := .sts, reset := 0, count := 3, stride := 4 }
def NEIGH_ID : Fld := { page := 0x13, off := 0x06C, lsb := 8, width := 16, kind := .sts, reset := 0, count := 3, stride := 4 }
def CREDITS : Fld := { page := 0x13, off := 0x06C, lsb := 0, width := 6, kind := .sts, reset := 0, count := 3, stride := 4 }
def RETRAIN_A : Fld := { page := 0x13, off := 0x078, lsb := 4, width := 1, kind := .go, reset := 0 }
def RETRAIN_B : Fld := { page := 0x13, off := 0x078, lsb := 5, width := 1, kind := .go, reset := 0 }
def RETRAIN_C : Fld := { page := 0x13, off := 0x078, lsb := 6, width := 1, kind := .go, reset := 0 }
def WAKE_A : Fld := { page := 0x13, off := 0x078, lsb := 0, width := 1, kind := .go, reset := 0 }
def WAKE_B : Fld := { page := 0x13, off := 0x078, lsb := 1, width := 1, kind := .go, reset := 0 }
def WAKE_C : Fld := { page := 0x13, off := 0x078, lsb := 2, width := 1, kind := .go, reset := 0 }
def IDENT : Fld := { page := 0x13, off := 0x07C, lsb := 0, width := 32, kind := .sts, reset := 0, count := 4, stride := 4 }
def PARTIAL : Fld := { page := 0x13, off := 0x08C, lsb := 1, width := 1, kind := .sts, reset := 0 }
def ID_OK : Fld := { page := 0x13, off := 0x08C, lsb := 0, width := 1, kind := .sts, reset := 0 }
def CARAVANS_TX : Fld := { page := 0x13, off := 0x090, lsb := 0, width := 32, kind := .cnt, reset := 0 }
def CARAVANS_RX : Fld := { page := 0x13, off := 0x094, lsb := 0, width := 32, kind := .cnt, reset := 0 }
def FORWARDED : Fld := { page := 0x13, off := 0x098, lsb := 0, width := 32, kind := .cnt, reset := 0 }
def SYMBOL_ERRS : Fld := { page := 0x13, off := 0x09C, lsb := 16, width := 16, kind := .cnt, reset := 0 }
def CRC_ERRS : Fld := { page := 0x13, off := 0x09C, lsb := 0, width := 16, kind := .cnt, reset := 0 }
def REPLAYS : Fld := { page := 0x13, off := 0x0A0, lsb := 16, width := 16, kind := .cnt, reset := 0 }
def FWD_DROPS : Fld := { page := 0x13, off := 0x0A0, lsb := 0, width := 16, kind := .cnt, reset := 0 }
def BORROWS_SERVED : Fld := { page := 0x13, off := 0x0A4, lsb := 16, width := 16, kind := .cnt, reset := 0 }
def BORROW_MISSES : Fld := { page := 0x13, off := 0x0A4, lsb := 0, width := 16, kind := .cnt, reset := 0 }
def GONE_ENDED : Fld := { page := 0x13, off := 0x0A8, lsb := 16, width := 16, kind := .cnt, reset := 0 }
def ID_CONFLICTS : Fld := { page := 0x13, off := 0x0A8, lsb := 0, width := 16, kind := .cnt, reset := 0 }
def QUERY_ID : Fld := { page := 0x13, off := 0x0B0, lsb := 0, width := 16, kind := .ctl, reset := 0 }
def Q_REACHABLE : Fld := { page := 0x13, off := 0x0B4, lsb := 31, width := 1, kind := .live, reset := 0 }
def Q_PORT : Fld := { page := 0x13, off := 0x0B4, lsb := 24, width := 2, kind := .live, reset := 0 }
def Q_HOPS : Fld := { page := 0x13, off := 0x0B4, lsb := 16, width := 8, kind := .live, reset := 0 }
def ELECTIONS : Fld := { page := 0x13, off := 0x0B8, lsb := 0, width := 16, kind := .cnt, reset := 0 }
def fields : List Fld :=
  [PRIORITY, JOIN_EN, EXPORT_DISC, BORROW_SERVE, PORT_EN, EXPORT_LIB, PREF_EN, PREF_ID, ID_VALID, ELDER, JOIN_STATE, NODE_ID, ELDER_PORT, HOPS, ELDER_ID, GEN, MEMBERS, ROSTER_HELD, ELECT_QUIET_MS, LOST_N, HEARTBEAT_MS, PROGRESS_MS, ID_HOLD_S, BORROW_LEVEL, SERVE_SLICE, UP, LOOP, NEIGH_VALID, NEIGH_ID, CREDITS, RETRAIN_A, RETRAIN_B, RETRAIN_C, WAKE_A, WAKE_B, WAKE_C, IDENT, PARTIAL, ID_OK, CARAVANS_TX] ++
  [CARAVANS_RX, FORWARDED, SYMBOL_ERRS, CRC_ERRS, REPLAYS, FWD_DROPS, BORROWS_SERVED, BORROW_MISSES, GONE_ENDED, ID_CONFLICTS, QUERY_ID, Q_REACHABLE, Q_PORT, Q_HOPS, ELECTIONS]
end RYL

/-! Page AUD (0x14): the fields of its block registers, by the page's register table in 17_audio_out.md. -/
namespace AUD
def V_CONCEAL : Fld := { page := 0x14, off := 0x040, lsb := 18, width := 1, kind := .ctl, reset := 0 }
def DEEMPH_EN : Fld := { page := 0x14, off := 0x040, lsb := 17, width := 1, kind := .ctl, reset := 0 }
def SPDIF_EN : Fld := { page := 0x14, off := 0x040, lsb := 16, width := 1, kind := .ctl, reset := 1 }
def TDM_COPY : Fld := { page := 0x14, off := 0x040, lsb := 12, width := 1, kind := .shd, reset := 0 }
def MCLK_MUL : Fld := { page := 0x14, off := 0x040, lsb := 8, width := 1, kind := .shd, reset := 0 }
def WIDTH : Fld := { page := 0x14, off := 0x040, lsb := 4, width := 1, kind := .shd, reset := 0 }
def FORMAT : Fld := { page := 0x14, off := 0x040, lsb := 0, width := 2, kind := .shd, reset := 0, legal := .range 0 2 }
def SRC : Fld := { page := 0x14, off := 0x044, lsb := 4, width := 1, kind := .ctl, reset := 0 }
def MUTE : Fld := { page := 0x14, off := 0x044, lsb := 1, width := 1, kind := .ctl, reset := 0 }
def PAUSE : Fld := { page := 0x14, off := 0x044, lsb := 0, width := 1, kind := .ctl, reset := 0 }
def SPDIF_LIVE : Fld := { page := 0x14, off := 0x048, lsb := 9, width := 1, kind := .sts, reset := 0 }
def PATH : Fld := { page := 0x14, off := 0x048, lsb := 8, width := 1, kind := .sts, reset := 0 }
def MCLK_OK : Fld := { page := 0x14, off := 0x048, lsb := 7, width := 1, kind := .sts, reset := 0 }
def COPY_OK : Fld := { page := 0x14, off := 0x048, lsb := 6, width := 1, kind := .sts, reset := 0 }
def EMPH : Fld := { page := 0x14, off := 0x048, lsb := 5, width := 1, kind := .sts, reset := 0 }
def MUTED : Fld := { page := 0x14, off := 0x048, lsb := 4, width := 1, kind := .sts, reset := 0 }
def STATE : Fld := { page := 0x14, off := 0x048, lsb := 0, width := 3, kind := .sts, reset := 0 }
def POS : Fld := { page := 0x14, off := 0x04C, lsb := 0, width := 24, kind := .sts, reset := 0 }
def CONTROL : Fld := { page := 0x14, off := 0x050, lsb := 16, width := 4, kind := .sts, reset := 0 }
def TNO : Fld := { page := 0x14, off := 0x050, lsb := 8, width := 8, kind := .sts, reset := 0 }
def INDEX : Fld := { page := 0x14, off := 0x050, lsb := 0, width := 8, kind := .sts, reset := 0 }
def START_FILL : Fld := { page := 0x14, off := 0x054, lsb := 16, width := 7, kind := .ctl, reset := 0x08, legal := .range 1 64 }
def HIGH : Fld := { page := 0x14, off := 0x054, lsb := 8, width := 7, kind := .ctl, reset := 0x40, legal := .range 2 64 }
def LOW : Fld := { page := 0x14, off := 0x054, lsb := 0, width := 7, kind := .ctl, reset := 0x18, legal := .custom }
def LEVEL : Fld := { page := 0x14, off := 0x058, lsb := 0, width := 7, kind := .live, reset := 0 }
def RAMP : Fld := { page := 0x14, off := 0x05C, lsb := 8, width := 8, kind := .ctl, reset := 0x20, legal := .range 1 255 }
def CONCEAL_MAX : Fld := { page := 0x14, off := 0x05C, lsb := 0, width := 8, kind := .ctl, reset := 0x08, legal := .range 1 255 }
def MCLK_CNT : Fld := { page := 0x14, off := 0x060, lsb := 0, width := 16, kind := .sts, reset := 0 }
def RING_PAGE : Fld := { page := 0x14, off := 0x064, lsb := 16, width := 9, kind := .ctl, reset := 0, legal := .custom }
def RING_PAGES : Fld := { page := 0x14, off := 0x064, lsb := 0, width := 7, kind := .ctl, reset := 0x01, legal := .range 1 64 }
def RING_WPTR : Fld := { page := 0x14, off := 0x068, lsb := 0, width := 16, kind := .ctl, reset := 0, legal := .custom }
def RING_RPTR : Fld := { page := 0x14, off := 0x06C, lsb := 0, width := 16, kind := .sts, reset := 0 }
def HC_EMPH : Fld := { page := 0x14, off := 0x070, lsb := 1, width := 1, kind := .ctl, reset := 0 }
def HC_COPY_OK : Fld := { page := 0x14, off := 0x070, lsb := 0, width := 1, kind := .ctl, reset := 0 }
def L : Fld := { page := 0x14, off := 0x074, lsb := 0, width := 1, kind := .ctl, reset := 0 }
def ISRC_LO : Fld := { page := 0x14, off := 0x078, lsb := 0, width := 32, kind := .sts, reset := 0 }
def ISRC_HI : Fld := { page := 0x14, off := 0x07C, lsb := 0, width := 32, kind := .sts, reset := 0 }
def UNDERRUNS : Fld := { page := 0x14, off := 0x080, lsb := 16, width := 16, kind := .cnt, reset := 0 }
def CONCEALS : Fld := { page := 0x14, off := 0x080, lsb := 0, width := 16, kind := .cnt, reset := 0 }
def MUTES : Fld := { page := 0x14, off := 0x084, lsb := 16, width := 16, kind := .cnt, reset := 0 }
def SUBQ_GAPS : Fld := { page := 0x14, off := 0x084, lsb := 0, width := 16, kind := .cnt, reset := 0 }
def FRAMES : Fld := { page := 0x14, off := 0x088, lsb := 0, width := 32, kind := .cnt, reset := 0 }
def fields : List Fld :=
  [V_CONCEAL, DEEMPH_EN, SPDIF_EN, TDM_COPY, MCLK_MUL, WIDTH, FORMAT, SRC, MUTE, PAUSE, SPDIF_LIVE, PATH, MCLK_OK, COPY_OK, EMPH, MUTED, STATE, POS, CONTROL, TNO, INDEX, START_FILL, HIGH, LOW, LEVEL, RAMP, CONCEAL_MAX, MCLK_CNT, RING_PAGE, RING_PAGES, RING_WPTR, RING_RPTR, HC_EMPH, HC_COPY_OK, L, ISRC_LO, ISRC_HI, UNDERRUNS, CONCEALS, MUTES] ++
  [SUBQ_GAPS, FRAMES]
end AUD

/-! Page REC (0x15): the fields of its block registers, by the page's register table in R513 (18_recorder_trace.md). -/
namespace REC
def FLUSH_AT : Fld := { page := 0x15, off := 0x040, lsb := 24, width := 7, kind := .ctl, reset := 0x20, legal := .range 1 63 }
def LOG_CLAMP : Fld := { page := 0x15, off := 0x040, lsb := 3, width := 1, kind := .ctl, reset := 0 }
def LOG_CMD_FAIL : Fld := { page := 0x15, off := 0x040, lsb := 2, width := 1, kind := .ctl, reset := 1 }
def LOG_STATE : Fld := { page := 0x15, off := 0x040, lsb := 1, width := 1, kind := .ctl, reset := 1 }
def EN : Fld := { page := 0x15, off := 0x040, lsb := 0, width := 1, kind := .ctl, reset := 1 }
def FLUSH_S : Fld := { page := 0x15, off := 0x044, lsb := 0, width := 16, kind := .ctl, reset := 0x003C, legal := .range 1 65535 }
def LIFE_SAVE_S : Fld := { page := 0x15, off := 0x048, lsb := 0, width := 16, kind := .ctl, reset := 0x0E10, legal := .range 60 65535 }
def LOG_GROUPS_HI : Fld := { page := 0x15, off := 0x04C, lsb := 20, width := 4, kind := .ctl, reset := 0xE }
def LOG_GROUPS : Fld := { page := 0x15, off := 0x04C, lsb := 0, width := 19, kind := .ctl, reset := 0x7F7FF }
def SEV_MAP_LO : Fld := { page := 0x15, off := 0x050, lsb := 0, width := 32, kind := .ctl, reset := 0x55555555 }
def SEV_MAP_HI : Fld := { page := 0x15, off := 0x054, lsb := 0, width := 16, kind := .ctl, reset := 0x5555 }
def STORE_OK : Fld := { page := 0x15, off := 0x058, lsb := 31, width := 1, kind := .live, reset := 0 }
def RESTORED : Fld := { page := 0x15, off := 0x058, lsb := 30, width := 1, kind := .sts, reset := 0 }
def FLUSHING : Fld := { page := 0x15, off := 0x058, lsb := 29, width := 1, kind := .sts, reset := 0 }
def STAGED : Fld := { page := 0x15, off := 0x058, lsb := 16, width := 7, kind := .live, reset := 0 }
def STORE_RECS : Fld := { page := 0x15, off := 0x058, lsb := 0, width := 13, kind := .live, reset := 0 }
def NEXT_RSN : Fld := { page := 0x15, off := 0x05C, lsb := 0, width := 32, kind := .sts, reset := 0 }
def OLDEST_RSN : Fld := { page := 0x15, off := 0x060, lsb := 0, width := 32, kind := .live, reset := 0 }
def FLUSH : Fld := { page := 0x15, off := 0x064, lsb := 1, width := 1, kind := .go, reset := 0 }
def WRITE : Fld := { page := 0x15, off := 0x064, lsb := 0, width := 1, kind := .go, reset := 0 }
def WR_SEV : Fld := { page := 0x15, off := 0x068, lsb := 16, width := 2, kind := .ctl, reset := 0 }
def WR_CODE : Fld := { page := 0x15, off := 0x068, lsb := 0, width := 16, kind := .ctl, reset := 0x8000, legal := .range 0x8000 0xFFFF }
def WR_DATA : Fld := { page := 0x15, off := 0x06C, lsb := 0, width := 32, kind := .ctl, reset := 0, count := 3, stride := 4 }
def WR_DATA_3 : Fld := { page := 0x15, off := 0x078, lsb := 0, width := 16, kind := .ctl, reset := 0 }
def RD_RSN : Fld := { page := 0x15, off := 0x07C, lsb := 0, width := 32, kind := .ctl, reset := 0 }
def RD_DATA : Fld := { page := 0x15, off := 0x080, lsb := 0, width := 32, kind := .sts, reset := 0, count := 8, stride := 4 }
def LOST : Fld := { page := 0x15, off := 0x0A0, lsb := 0, width := 32, kind := .cnt, reset := 0 }
def REPEATS : Fld := { page := 0x15, off := 0x0A4, lsb := 16, width := 16, kind := .cnt, reset := 0 }
def FLUSHES : Fld := { page := 0x15, off := 0x0A4, lsb := 0, width := 16, kind := .cnt, reset := 0 }
def WATCH_MASK : Fld := { page := 0x15, off := 0x0C0, lsb := 16, width := 16, kind := .ctl, reset := 0, count := 8, stride := 8 }
def WATCH_CODE : Fld := { page := 0x15, off := 0x0C0, lsb := 0, width := 16, kind := .ctl, reset := 0, count := 8, stride := 8 }
def W_EN : Fld := { page := 0x15, off := 0x0C4, lsb := 0, width := 1, kind := .ctl, reset := 0, count := 8, stride := 8 }
def fields : List Fld :=
  [FLUSH_AT, LOG_CLAMP, LOG_CMD_FAIL, LOG_STATE, EN, FLUSH_S, LIFE_SAVE_S, LOG_GROUPS_HI, LOG_GROUPS, SEV_MAP_LO, SEV_MAP_HI, STORE_OK, RESTORED, FLUSHING, STAGED, STORE_RECS, NEXT_RSN, OLDEST_RSN, FLUSH, WRITE, WR_SEV, WR_CODE, WR_DATA, WR_DATA_3, RD_RSN, RD_DATA, LOST, REPEATS, FLUSHES, WATCH_MASK, WATCH_CODE, W_EN]
end REC

/-! Page TRC (0x16): the fields of its block registers, by the page's register table in R514 (18_recorder_trace.md). -/
namespace TRC
def RUN : Fld := { page := 0x16, off := 0x040, lsb := 31, width := 1, kind := .ctl, reset := 0 }
def MODE : Fld := { page := 0x16, off := 0x040, lsb := 30, width := 1, kind := .ctl, reset := 0 }
def LOC : Fld := { page := 0x16, off := 0x040, lsb := 29, width := 1, kind := .ctl, reset := 0 }
def TRIG_EN : Fld := { page := 0x16, off := 0x040, lsb := 28, width := 1, kind := .ctl, reset := 0 }
def SRC_EN : Fld := { page := 0x16, off := 0x040, lsb := 0, width := 8, kind := .ctl, reset := 0 }
def BUF_BASE_LO : Fld := { page := 0x16, off := 0x044, lsb := 6, width := 26, kind := .ctl, reset := 0 }
def BUF_BASE_HI : Fld := { page := 0x16, off := 0x048, lsb := 0, width := 32, kind := .ctl, reset := 0 }
def BUF_LOG2 : Fld := { page := 0x16, off := 0x04C, lsb := 0, width := 5, kind := .ctl, reset := 0x08, legal := .range 8 24 }
def WPTR : Fld := { page := 0x16, off := 0x050, lsb := 0, width := 24, kind := .sts, reset := 0 }
def RPTR : Fld := { page := 0x16, off := 0x054, lsb := 0, width := 24, kind := .ctl, reset := 0, legal := .custom }
def SEQ : Fld := { page := 0x16, off := 0x058, lsb := 0, width := 16, kind := .sts, reset := 0 }
def TRIG_GROUP : Fld := { page := 0x16, off := 0x05C, lsb := 24, width := 5, kind := .ctl, reset := 0, legal := .range 0 23 }
def TRIG_BIT : Fld := { page := 0x16, off := 0x05C, lsb := 16, width := 5, kind := .ctl, reset := 0 }
def POST : Fld := { page := 0x16, off := 0x05C, lsb := 0, width := 16, kind := .ctl, reset := 0 }
def DIV_0 : Fld := { page := 0x16, off := 0x060, lsb := 0, width := 16, kind := .ctl, reset := 1, legal := .range 1 65535 }
def DIV_1 : Fld := { page := 0x16, off := 0x060, lsb := 16, width := 16, kind := .ctl, reset := 1, legal := .range 1 65535 }
def DIV_2 : Fld := { page := 0x16, off := 0x064, lsb := 0, width := 16, kind := .ctl, reset := 1, legal := .range 1 65535 }
def DIV_3 : Fld := { page := 0x16, off := 0x064, lsb := 16, width := 16, kind := .ctl, reset := 1, legal := .range 1 65535 }
def DIV_4 : Fld := { page := 0x16, off := 0x068, lsb := 0, width := 16, kind := .ctl, reset := 1, legal := .range 1 65535 }
def DIV_5 : Fld := { page := 0x16, off := 0x068, lsb := 16, width := 16, kind := .ctl, reset := 1, legal := .range 1 65535 }
def RUNNING : Fld := { page := 0x16, off := 0x06C, lsb := 31, width := 1, kind := .sts, reset := 0 }
def STALLED : Fld := { page := 0x16, off := 0x06C, lsb := 30, width := 1, kind := .sts, reset := 0 }
def TRIGGERED : Fld := { page := 0x16, off := 0x06C, lsb := 29, width := 1, kind := .sts, reset := 0 }
def RECORDS : Fld := { page := 0x16, off := 0x070, lsb := 0, width := 32, kind := .cnt, reset := 0 }
def DROPPED : Fld := { page := 0x16, off := 0x074, lsb := 0, width := 32, kind := .cnt, reset := 0 }
def RS_VALID : Fld := { page := 0x16, off := 0x078, lsb := 31, width := 1, kind := .sts, reset := 0 }
def RESUME_SEQ : Fld := { page := 0x16, off := 0x078, lsb := 0, width := 16, kind := .sts, reset := 0 }
def RESUME_LOST : Fld := { page := 0x16, off := 0x07C, lsb := 0, width := 32, kind := .sts, reset := 0 }
def fields : List Fld :=
  [RUN, MODE, LOC, TRIG_EN, SRC_EN, BUF_BASE_LO, BUF_BASE_HI, BUF_LOG2, WPTR, RPTR, SEQ, TRIG_GROUP, TRIG_BIT, POST, DIV_0, DIV_1, DIV_2, DIV_3, DIV_4, DIV_5, RUNNING, STALLED, TRIGGERED, RECORDS, DROPPED, RS_VALID, RESUME_SEQ, RESUME_LOST]
end TRC

/-! Page MIR (0x17): the fields of its block registers, by the page's register table in 19_mirage.md. -/
namespace MIR
def KEY : Fld := { page := 0x17, off := 0x040, lsb := 0, width := 32, kind := .key, reset := 0 }
def AUTO_LOCK_S : Fld := { page := 0x17, off := 0x044, lsb := 0, width := 16, kind := .ctl, reset := 0x012C, legal := .range 1 65535 }
def LOCK : Fld := { page := 0x17, off := 0x048, lsb := 0, width := 1, kind := .go, reset := 0 }
def UNLOCKED : Fld := { page := 0x17, off := 0x04C, lsb := 31, width := 1, kind := .sts, reset := 0 }
def TAINTED : Fld := { page := 0x17, off := 0x04C, lsb := 30, width := 1, kind := .w1c, reset := 0 }
def DRAINED : Fld := { page := 0x17, off := 0x04C, lsb := 29, width := 1, kind := .live, reset := 1 }
def KEY_STEP : Fld := { page := 0x17, off := 0x04C, lsb := 24, width := 1, kind := .live, reset := 0 }
def HOOKS : Fld := { page := 0x17, off := 0x04C, lsb := 0, width := 5, kind := .live, reset := 0 }
def LEFT_S : Fld := { page := 0x17, off := 0x050, lsb := 0, width := 16, kind := .live, reset := 0 }
def ACT_MAP : Fld := { page := 0x17, off := 0x054, lsb := 0, width := 27, kind := .live, reset := 0 }
def TIMING_EVENTS : Fld := { page := 0x17, off := 0x058, lsb := 0, width := 32, kind := .cnt, reset := 0 }
def RESULT_EVENTS : Fld := { page := 0x17, off := 0x05C, lsb := 0, width := 32, kind := .cnt, reset := 0 }
def AMOUNT : Fld := { page := 0x17, off := 0x100, lsb := 16, width := 16, kind := .ctl, reset := 0, count := 8, stride := 16 }
def SKIP : Fld := { page := 0x17, off := 0x100, lsb := 0, width := 16, kind := .ctl, reset := 0, count := 8, stride := 16 }
def PATTERN : Fld := { page := 0x17, off := 0x104, lsb := 0, width := 32, kind := .ctl, reset := 0, count := 8, stride := 16 }
def SEL : Fld := { page := 0x17, off := 0x108, lsb := 24, width := 8, kind := .ctl, reset := 0, count := 8, stride := 16 }
def WINDOW : Fld := { page := 0x17, off := 0x108, lsb := 16, width := 8, kind := .ctl, reset := 0, count := 8, stride := 16 }
def COUNT : Fld := { page := 0x17, off := 0x108, lsb := 0, width := 16, kind := .ctl, reset := 0, count := 8, stride := 16 }
def ARG : Fld := { page := 0x17, off := 0x10C, lsb := 0, width := 32, kind := .ctl, reset := 0, count := 8, stride := 16 }
def EXHAUSTED : Fld := { page := 0x17, off := 0x180, lsb := 31, width := 1, kind := .live, reset := 0, count := 8, stride := 4 }
def DONE : Fld := { page := 0x17, off := 0x180, lsb := 0, width := 16, kind := .sts, reset := 0, count := 8, stride := 4 }
def fields : List Fld :=
  [KEY, AUTO_LOCK_S, LOCK, UNLOCKED, TAINTED, DRAINED, KEY_STEP, HOOKS, LEFT_S, ACT_MAP, TIMING_EVENTS, RESULT_EVENTS, AMOUNT, SKIP, PATTERN, SEL, WINDOW, COUNT, ARG, EXHAUSTED, DONE]
end MIR

/-! Page HPT (0x18): the fields of its block registers, by the page's register table in 11_host_ports.md. -/
namespace HPT
def RETRAIN : Fld := { page := 0x18, off := 0x040, lsb := 8, width := 1, kind := .go, reset := 0 }
def GEN_MAX : Fld := { page := 0x18, off := 0x040, lsb := 0, width := 2, kind := .ctl, reset := 0x2, legal := .range 1 2 }
def LINK_UP : Fld := { page := 0x18, off := 0x044, lsb := 31, width := 1, kind := .sts, reset := 0 }
def SPEED : Fld := { page := 0x18, off := 0x044, lsb := 16, width := 4, kind := .sts, reset := 0 }
def WIDTH : Fld := { page := 0x18, off := 0x044, lsb := 8, width := 6, kind := .sts, reset := 0 }
def DSTATE : Fld := { page := 0x18, off := 0x044, lsb := 4, width := 2, kind := .sts, reset := 0 }
def BME : Fld := { page := 0x18, off := 0x044, lsb := 2, width := 1, kind := .sts, reset := 0 }
def PASID_EN : Fld := { page := 0x18, off := 0x044, lsb := 1, width := 1, kind := .sts, reset := 0 }
def OWN_ID : Fld := { page := 0x18, off := 0x048, lsb := 0, width := 16, kind := .sts, reset := 0 }
def OUT_READS : Fld := { page := 0x18, off := 0x04C, lsb := 0, width := 7, kind := .live, reset := 0 }
def UR_SENT : Fld := { page := 0x18, off := 0x050, lsb := 16, width := 16, kind := .cnt, reset := 0 }
def CA_SENT : Fld := { page := 0x18, off := 0x050, lsb := 0, width := 16, kind := .cnt, reset := 0 }
def POISON_SENT : Fld := { page := 0x18, off := 0x054, lsb := 16, width := 16, kind := .cnt, reset := 0 }
def POISON_RCVD : Fld := { page := 0x18, off := 0x054, lsb := 0, width := 16, kind := .cnt, reset := 0 }
def CPL_TIMEOUTS : Fld := { page := 0x18, off := 0x058, lsb := 16, width := 16, kind := .cnt, reset := 0 }
def DROPPED : Fld := { page := 0x18, off := 0x058, lsb := 0, width := 16, kind := .cnt, reset := 0 }
def RECEIVER_ERRS : Fld := { page := 0x18, off := 0x05C, lsb := 16, width := 16, kind := .cnt, reset := 0 }
def REPLAYS : Fld := { page := 0x18, off := 0x05C, lsb := 0, width := 16, kind := .cnt, reset := 0 }
def LAST_HDR : Fld := { page := 0x18, off := 0x060, lsb := 0, width := 32, kind := .sts, reset := 0, count := 4, stride := 4 }
def WAIT_MAX : Fld := { page := 0x18, off := 0x080, lsb := 24, width := 8, kind := .ctl, reset := 0x40, legal := .range 1 255 }
def DUMMY : Fld := { page := 0x18, off := 0x080, lsb := 8, width := 5, kind := .ctl, reset := 0x06 }
def QUAD_EN : Fld := { page := 0x18, off := 0x080, lsb := 0, width := 1, kind := .ctl, reset := 1 }
def CS_LOW : Fld := { page := 0x18, off := 0x084, lsb := 31, width := 1, kind := .sts, reset := 0 }
def MODE3 : Fld := { page := 0x18, off := 0x084, lsb := 30, width := 1, kind := .sts, reset := 0 }
def QUAD : Fld := { page := 0x18, off := 0x084, lsb := 29, width := 1, kind := .sts, reset := 0 }
def RESULT : Fld := { page := 0x18, off := 0x084, lsb := 8, width := 8, kind := .sts, reset := 0x5A }
def LAST_ERR : Fld := { page := 0x18, off := 0x084, lsb := 0, width := 8, kind := .sts, reset := 0 }
def TRANSACTIONS : Fld := { page := 0x18, off := 0x088, lsb := 16, width := 16, kind := .cnt, reset := 0 }
def ERR_BYTES : Fld := { page := 0x18, off := 0x088, lsb := 0, width := 16, kind := .cnt, reset := 0 }
def ABORTS : Fld := { page := 0x18, off := 0x08C, lsb := 16, width := 16, kind := .cnt, reset := 0 }
def OVERRUNS : Fld := { page := 0x18, off := 0x08C, lsb := 0, width := 16, kind := .cnt, reset := 0 }
def fields : List Fld :=
  [RETRAIN, GEN_MAX, LINK_UP, SPEED, WIDTH, DSTATE, BME, PASID_EN, OWN_ID, OUT_READS, UR_SENT, CA_SENT, POISON_SENT, POISON_RCVD, CPL_TIMEOUTS, DROPPED, RECEIVER_ERRS, REPLAYS, LAST_HDR, WAIT_MAX, DUMMY, QUAD_EN, CS_LOW, MODE3, QUAD, RESULT, LAST_ERR, TRANSACTIONS, ERR_BYTES, ABORTS, OVERRUNS]
end HPT

/-! Page PIN (0x19): the fields of its block registers, by the page's register table in 20_pins_electrical.md. -/
namespace PIN
def NAND_33 : Fld := { page := 0x19, off := 0x040, lsb := 1, width := 1, kind := .sts, reset := Config.nand33.toNat }
def IO_33 : Fld := { page := 0x19, off := 0x040, lsb := 0, width := 1, kind := .sts, reset := Config.io33.toNat }
def GPIO_FUNC : Fld := { page := 0x19, off := 0x044, lsb := 0, width := 16, kind := .ctl, reset := 0, legal := .custom }
def GPIO_OE : Fld := { page := 0x19, off := 0x048, lsb := 0, width := 8, kind := .ctl, reset := 0 }
def GPIO_OUT : Fld := { page := 0x19, off := 0x04C, lsb := 0, width := 8, kind := .ctl, reset := 0 }
def GPIO_IN : Fld := { page := 0x19, off := 0x050, lsb := 0, width := 8, kind := .live, reset := 0 }
def GPIO_PULL : Fld := { page := 0x19, off := 0x054, lsb := 0, width := 16, kind := .ctl, reset := 0x5555, legal := .custom }
def OBS_SEL : Fld := { page := 0x19, off := 0x058, lsb := 0, width := 24, kind := .ctl, reset := 0 }
def DRIVE_NAND : Fld := { page := 0x19, off := 0x05C, lsb := 4, width := 2, kind := .ctl, reset := 1 }
def DRIVE_IO : Fld := { page := 0x19, off := 0x05C, lsb := 0, width := 2, kind := .ctl, reset := 1 }
def fields : List Fld :=
  [NAND_33, IO_33, GPIO_FUNC, GPIO_OE, GPIO_OUT, GPIO_IN, GPIO_PULL, OBS_SEL, DRIVE_NAND, DRIVE_IO]
end PIN

/-! Page LDR (0x1A): the fields of its block registers, by the page's register table in 07_spindle_sled_loader.md. -/
namespace LDR
def LIM_POL : Fld := { page := 0x1A, off := 0x040, lsb := 4, width := 2, kind := .ctl, reset := 0 }
def AUTO_DETECT : Fld := { page := 0x1A, off := 0x040, lsb := 3, width := 1, kind := .ctl, reset := 1 }
def AUTO_EJECT : Fld := { page := 0x1A, off := 0x040, lsb := 2, width := 1, kind := .ctl, reset := 1 }
def AUTO_CLOSE : Fld := { page := 0x1A, off := 0x040, lsb := 1, width := 1, kind := .ctl, reset := 1 }
def MODE : Fld := { page := 0x1A, off := 0x040, lsb := 0, width := 1, kind := .ctl, reset := 0 }
def DETECT : Fld := { page := 0x1A, off := 0x044, lsb := 2, width := 1, kind := .go, reset := 0 }
def CLOSE : Fld := { page := 0x1A, off := 0x044, lsb := 1, width := 1, kind := .go, reset := 0 }
def OPEN : Fld := { page := 0x1A, off := 0x044, lsb := 0, width := 1, kind := .go, reset := 0 }
def UPSIDE : Fld := { page := 0x1A, off := 0x048, lsb := 21, width := 1, kind := .sts, reset := 0 }
def BLANK : Fld := { page := 0x1A, off := 0x048, lsb := 20, width := 1, kind := .sts, reset := 0 }
def DISC : Fld := { page := 0x1A, off := 0x048, lsb := 16, width := 4, kind := .sts, reset := 0 }
def PREV_LIVE : Fld := { page := 0x1A, off := 0x048, lsb := 8, width := 5, kind := .live, reset := 0 }
def STATE : Fld := { page := 0x1A, off := 0x048, lsb := 0, width := 4, kind := .sts, reset := 0 }
def PREVENT : Fld := { page := 0x1A, off := 0x04C, lsb := 0, width := 1, kind := .ctl, reset := 0 }
def LOAD_MS : Fld := { page := 0x1A, off := 0x050, lsb := 16, width := 16, kind := .ctl, reset := 0x0BB8, legal := .range 100 10000 }
def HB_PWM : Fld := { page := 0x1A, off := 0x050, lsb := 0, width := 10, kind := .ctl, reset := 0x280, legal := .range 0 1023 }
def LOADS : Fld := { page := 0x1A, off := 0x054, lsb := 16, width := 16, kind := .cnt, reset := 0 }
def JAMS : Fld := { page := 0x1A, off := 0x054, lsb := 0, width := 16, kind := .cnt, reset := 0 }
def CHANGES : Fld := { page := 0x1A, off := 0x058, lsb := 0, width := 16, kind := .cnt, reset := 0 }
def fields : List Fld :=
  [LIM_POL, AUTO_DETECT, AUTO_EJECT, AUTO_CLOSE, MODE, DETECT, CLOSE, OPEN, UPSIDE, BLANK, DISC, PREV_LIVE, STATE, PREVENT, LOAD_MS, HB_PWM, LOADS, JAMS, CHANGES]
end LDR

end Sys2Proof.Machine
end

