-- ==== Sys2Proof/Machine/Ops.lean ====
section
/-! DEFINITION. The named operations over register fields, shadows, GO fields and free values. -/

namespace Sys2Proof.Machine

/-! ### Sparse stores: lists of key and value in rising key order -/

/-- The value stored under a key. -/
def storeGet : List (Nat × Nat) → Nat → Option Nat
  | [], _ => none
  | (k, v) :: r, key => if k = key then some v else storeGet r key

/-- The store with a key removed. -/
def storeErase : List (Nat × Nat) → Nat → List (Nat × Nat)
  | [], _ => []
  | (k, v) :: r, key => if k = key then storeErase r key else (k, v) :: storeErase r key

/-- The store with a value put under a key, in its place by rising key. -/
def storeInsert : List (Nat × Nat) → Nat → Nat → List (Nat × Nat)
  | [], key, v => [(key, v)]
  | (k, w) :: r, key, v =>
    if key < k then (key, v) :: (k, w) :: r
    else if k = key then (key, v) :: r
    else (k, w) :: storeInsert r key v

/-- Writing `v` where an unlisted key reads `dflt`: a value equal to `dflt` is not listed. -/
def storeSet (l : List (Nat × Nat)) (key dflt v : Nat) : List (Nat × Nat) :=
  if v = dflt then storeErase l key else storeInsert l key v

/-! ### Fields -/

/-- Where a field lies: its page, its offset and its lowest bit as one number. -/
def Fld.key (f : Fld) : Nat := (f.page * 4096 + f.off) * 32 + f.lsb

/-- The value that an exception list gives an index, else the common reset value. -/
def excReset : List (Nat × Nat) → Nat → Nat → Nat
  | [], _, d => d
  | (i, v) :: r, k, d => if i = k then v else excReset r k d

/-- Member `k` of a family of registers. -/
def Fld.at (f : Fld) (k : Nat) : Fld :=
  { page := f.page, off := f.off + k * f.stride, lsb := f.lsb, width := f.width, kind := f.kind,
    reset := excReset f.exc k f.reset, legal := f.legal }

/-- The largest value of a field's width. -/
def Fld.maxVal (f : Fld) : Nat := 2 ^ f.width - 1

/-- The stored value of a field; a field that is not listed holds its reset value. -/
def State.rd (s : State) (f : Fld) : Nat := (storeGet s.regs f.key).getD f.reset

/-- A field's stored value replaced, cut to its width. -/
def State.wr (s : State) (f : Fld) (v : Nat) : State :=
  { s with regs := storeSet s.regs f.key f.reset (v % 2 ^ f.width) }

/-- Whether a one-bit field holds 1. -/
def State.is (s : State) (f : Fld) : Bool := s.rd f == 1

/-- A two's-complement field read as an integer. -/
def State.rdInt (s : State) (f : Fld) : Int := ofCode f.width (s.rd f)

/-- A two's-complement field replaced by an integer, cut to its width. -/
def State.wrInt (s : State) (f : Fld) (i : Int) : State := s.wr f (toCode f.width i)

/-- Several fields replaced, in order. -/
def State.wrAll (s : State) (l : List (Fld × Nat)) : State := l.foldl (fun t p => t.wr p.1 p.2) s

/-! ### The common page header (R42) -/

namespace Hdr
def SHD_HOLD (p : Nat) : Fld := { page := p, off := 0x008, lsb := 3, width := 1, kind := .ctl, reset := 0 }
def GATE (p : Nat) : Fld := { page := p, off := 0x008, lsb := 2, width := 1, kind := .ctl, reset := 0 }
def RESET (p : Nat) : Fld := { page := p, off := 0x008, lsb := 1, width := 1, kind := .go, reset := 0 }
def QUIESCE (p : Nat) : Fld := { page := p, off := 0x008, lsb := 0, width := 1, kind := .ctl, reset := 0 }
def SAT (p : Nat) : Fld := { page := p, off := 0x00C, lsb := 16, width := 1, kind := .w1c, reset := 0 }
def EPOCH (p : Nat) : Fld := { page := p, off := 0x00C, lsb := 8, width := 8, kind := .sts, reset := 0 }
def SHD_PEND (p : Nat) : Fld := { page := p, off := 0x00C, lsb := 2, width := 1, kind := .live, reset := 0 }
def GATED (p : Nat) : Fld := { page := p, off := 0x00C, lsb := 1, width := 1, kind := .sts, reset := 0 }
def QUIESCED (p : Nat) : Fld := { page := p, off := 0x00C, lsb := 0, width := 1, kind := .sts, reset := 0 }
def CAUSE (p : Nat) : Fld := { page := p, off := 0x010, lsb := 0, width := 32, kind := .w1c, reset := 0 }
def ENABLE (p : Nat) : Fld := { page := p, off := 0x014, lsb := 0, width := 32, kind := .ctl, reset := 0 }
def FORCE (p : Nat) : Fld := { page := p, off := 0x018, lsb := 0, width := 32, kind := .go, reset := 0 }
def SLICE (p : Nat) : Fld := { page := p, off := 0x01C, lsb := 0, width := 6, kind := .ctl, reset := 0, legal := .custom }
def HOOK (p : Nat) : Fld := { page := p, off := 0x020, lsb := 0, width := 8, kind := .ctl, reset := 0, legal := .custom }
end Hdr

/-- The pages that R33 lists. -/
def pageExists (p : Nat) : Bool := p < 0x1B

/-- The pages whose QUIESCE, RESET, GATE and SHD_HOLD are reserved (R43): SYS, ATN, TIME, HPT and PIN. -/
def pageFixed (p : Nat) : Bool := p == 0x00 || p == 0x01 || p == 0x02 || p == 0x18 || p == 0x19

/-- The pages whose attention header is reserved (R69): ATN and PIN. -/
def pageNoLeaf (p : Nat) : Bool := p == 0x01 || p == 0x19

/-- The three ASCII letters of PAGE_ID.CODE (R42). -/
def pageCode : Nat → Nat
  | 0x00 => 0x535953 | 0x01 => 0x41544E | 0x02 => 0x54494D | 0x03 => 0x43414C | 0x04 => 0x464F43
  | 0x05 => 0x54524B | 0x06 => 0x534C44 | 0x07 => 0x53504E | 0x08 => 0x4C5043 | 0x09 => 0x43484E
  | 0x0A => 0x44454D | 0x0B => 0x454344 | 0x0C => 0x455247 | 0x0D => 0x415647 | 0x0E => 0x4D454D
  | 0x0F => 0x515545 | 0x10 => 0x534C43 | 0x11 => 0x434D44 | 0x12 => 0x4F4153 | 0x13 => 0x52594C
  | 0x14 => 0x415544 | 0x15 => 0x524543 | 0x16 => 0x545243 | 0x17 => 0x4D4952 | 0x18 => 0x485054
  | 0x19 => 0x50494E | 0x1A => 0x4C4452
  | _ => 0

/-- PAGE_VER: 0x0100, and 0x0101 on SYS on revision B (R563). -/
def pageVer (p : Nat) : Nat := if p = 0 && Config.revB then 0x0101 else 0x0100

/-- The fields of a page's block registers. -/
def pageFields : Nat → List Fld
  | 0x00 => SYS.fields | 0x01 => ATN.fields | 0x02 => TIME.fields | 0x03 => CAL.fields | 0x04 => FOC.fields
  | 0x05 => TRK.fields | 0x06 => SLD.fields | 0x07 => SPN.fields | 0x08 => LPC.fields | 0x09 => CHN.fields
  | 0x0A => DEM.fields | 0x0B => ECD.fields | 0x0C => ERG.fields | 0x0D => AVG.fields | 0x0E => MEM.fields
  | 0x0F => QUE.fields | 0x10 => SLC.fields | 0x11 => CMD.fields | 0x12 => OAS.fields | 0x13 => RYL.fields
  | 0x14 => AUD.fields | 0x15 => REC.fields | 0x16 => TRC.fields | 0x17 => MIR.fields | 0x18 => HPT.fields
  | 0x19 => PIN.fields | 0x1A => LDR.fields
  | _ => []

/-- The fields of a page's header that the page has (R43, R69). -/
def hdrFields (p : Nat) : List Fld :=
  (if pageFixed p then [] else [Hdr.QUIESCE p, Hdr.RESET p, Hdr.GATE p, Hdr.SHD_HOLD p, Hdr.QUIESCED p, Hdr.GATED p,
    Hdr.SHD_PEND p, Hdr.EPOCH p]) ++
  (if pageNoLeaf p then [] else [Hdr.SAT p, Hdr.CAUSE p, Hdr.ENABLE p, Hdr.FORCE p, Hdr.SLICE p]) ++
  [Hdr.HOOK p]

/-- The index of the family member that lies at an offset. -/
def Fld.indexAt (f : Fld) (off : Nat) : Option Nat :=
  if f.stride = 0 then (if off = f.off then some 0 else none)
  else if f.off ≤ off ∧ (off - f.off) % f.stride = 0 ∧ (off - f.off) / f.stride < f.count then
    some ((off - f.off) / f.stride)
  else none

/-- The fields of a page at an offset, in ascending order of position as R52 takes them. -/
def fieldsAt (page off : Nat) : List Fld :=
  let l := (if off < 0x40 then (if pageExists page then hdrFields page else []) else pageFields page).filterMap
    fun f => (f.indexAt off).map fun k => if f.stride = 0 then f else f.at k
  sortBy Fld.lsb l

/-! ### Returning a page to its reset values -/

/-- The fields whose registers a page loses on a block reset: those of its block registers, not its header (R76, R92). -/
def State.resetPage (s : State) (p : Nat) : State :=
  { s with
    regs := s.regs.filter fun e => !((p * 4096 + 0x40) * 32 ≤ e.1 && e.1 < (p + 1) * 4096 * 32)
    shadow := s.shadow.filter fun e => !(p * 4096 * 32 ≤ e.1 && e.1 < (p + 1) * 4096 * 32)
    goWait := s.goWait.filter fun k => !((p * 4096 + 0x40) * 32 ≤ k && k < (p + 1) * 4096 * 32) }

/-! ### Shadows (R44, R46) -/

/-- The value that a write of an SHD field last left in its shadow, or the active value when none is pending. -/
def State.shadowOf (s : State) (f : Fld) : Nat := (storeGet s.shadow f.key).getD (s.rd f)

/-- A shadow value stored. -/
def State.setShadow (s : State) (f : Fld) (v : Nat) : State :=
  { s with shadow := storeInsert s.shadow f.key (v % 2 ^ f.width) }

/-- Whether a key lies on a page. -/
def onPage (p k : Nat) : Bool := p * 4096 * 32 ≤ k && k < (p + 1) * 4096 * 32

/-- Whether any SHD field of the page holds a shadow that has not transferred. -/
def State.shdPend (s : State) (p : Nat) : Bool := s.shadow.any fun e => onPage p e.1

/-- The page's commit point over its SHD fields: with SHD_HOLD 0 every pending shadow becomes the active value (R46). -/
def State.commitFlds (s : State) (p : Nat) (fs : List Fld) : State :=
  if s.is (Hdr.SHD_HOLD p) then s
  else
    let t := fs.foldl (fun t f => match storeGet s.shadow f.key with
      | some v => t.wr f v
      | none => t) s
    { t with shadow := s.shadow.filter fun e => !fs.any fun f => f.key == e.1 }

/-- Every member of a page's SHD fields. -/
def shdFields (p : Nat) : List Fld :=
  ((pageFields p).filter fun f => f.kind = .shd).flatMap fun f =>
    if f.stride = 0 then [f] else (List.range f.count).map f.at

/-- The commit point of a page (R46). -/
def State.commitPage (s : State) (p : Nat) : State := s.commitFlds p (shdFields p)

/-! ### GO fields (R44, R45) -/

/-- A write of 1 to a GO field: `true` when the operation starts now; while one runs, one more waits. -/
def State.goWrite (s : State) (f : Fld) : State × Bool :=
  if s.rd f = 0 then (s.wr f 1, true)
  else if s.goWait.contains f.key then (s, false)
  else ({ s with goWait := s.goWait ++ [f.key] }, false)

/-- The end of a GO field's operation: `true` when one waited, which starts now, and the field keeps reading 1. -/
def State.goEnd (s : State) (f : Fld) : State × Bool :=
  if s.goWait.contains f.key then ({ s with goWait := s.goWait.filter (· ≠ f.key) }, true)
  else (s.wr f 0, false)

/-- A GO operation that ends in the command that starts it: the field reads 0 again and nothing waits. -/
def State.goDone (s : State) (f : Fld) : State :=
  { s.wr f 0 with goWait := s.goWait.filter (· ≠ f.key) }

/-! ### Free values and outputs -/

/-- A value that the spec leaves open, below a bound. Log: 5 (DESIGN CHOICE). -/
def State.free (s : State) (bound : Nat) : Nat × State :=
  (Config.freeNat s.fresh % bound, { s with fresh := s.fresh + 1 })

/-- A message that leaves the part. Log: 8 (DESIGN CHOICE). -/
def State.emit (s : State) (m : OutMsg) : State := { s with sent := s.sent ++ [m] }

end Sys2Proof.Machine
end

