-- ==== Sys2Proof/Machine/Flags.lean ====
section
/-! DEFINITION. Setting leaves, counting, and what each of them drags along: FIRST_LEAF, event records, the trace
trigger, the attention summaries and the INTx mirror. -/

namespace Sys2Proof.Machine

/-! ### Groups -/

/-- The leaf `i` places after a family's first. -/
def Leaf.plus (l : Leaf) (i : Nat) : Leaf := { l with bit := l.bit + i }

/-- The group and the group bit of a leaf (R81). -/
def Leaf.place (l : Leaf) : Option (Nat × Nat) :=
  (leafRows.find? fun r => r.page == l.page && r.pbit ≤ l.bit && l.bit < r.pbit + r.n).map
    fun r => (r.group, r.gbit + (l.bit - r.pbit))

/-- The code of a leaf's event record: group × 0x20 + group bit (R492). -/
def Leaf.code (l : Leaf) : Nat := match l.place with
  | some (g, b) => g * 0x20 + b
  | none => 0x300

/-- The leaf at a group bit (R81). -/
def leafAt (g b : Nat) : Option Leaf :=
  (leafRows.find? fun r => r.group == g && r.gbit ≤ b && b < r.gbit + r.n).map
    fun r => { page := r.page, bit := r.pbit + (b - r.gbit) }

/-- The bits of a page's ATN_CAUSE that carry a leaf. -/
def leafMask (p : Nat) : Nat :=
  (leafRows.filter fun r => r.page == p).foldl (fun m r => m ||| ((2 ^ r.n - 1) * 2 ^ r.pbit)) 0

/-- The counter-saturated leaf of a page: page bit 0 (R81). -/
def satLeaf (p : Nat) : Leaf := { page := p, bit := 0 }

/-! ### The CAUSE bit, FIRST_LEAF and the trace trigger -/

/-- A leaf becomes pending: FIRST_LEAF records it while its VALID is 0 (R82). -/
def State.noteFirst (s : State) (l : Leaf) : State :=
  match l.place with
  | none => s
  | some (g, b) =>
    if s.is ATN.FL_VALID then s
    else s.wrAll [(ATN.FL_VALID, 1), (ATN.FL_GROUP, g), (ATN.FL_GBIT, b), (ATN.FL_PAGE, l.page), (ATN.FL_PBIT, l.bit)]

/-- The CAUSE bit of a leaf set, by hardware or by ATN_FORCE (R64, R70). -/
def State.setCause (s : State) (l : Leaf) : State :=
  let c := s.rd (Hdr.CAUSE l.page)
  let t := s.wr (Hdr.CAUSE l.page) (c ||| 2 ^ l.bit)
  if !bit c l.bit && bit (s.rd (Hdr.ENABLE l.page)) l.bit then t.noteFirst l else t

/-- Whether a leaf is the one that the trace waits for (R506). -/
def State.isTrigger (s : State) (l : Leaf) : Bool :=
  s.is TRC.RUN && s.is TRC.TRIG_EN && !s.is TRC.TRIGGERED && l.place == some (s.rd TRC.TRIG_GROUP, s.rd TRC.TRIG_BIT)

/-- A hardware set of a leaf, without its event record: a gated block sets none (R76). -/
def State.setQuiet (s : State) (l : Leaf) : State :=
  if s.is (Hdr.GATED l.page) then s
  else
    let t := s.setCause l
    if s.isTrigger l then { t with trc := { t.trc with trigHit := true } } else t

/-! ### Counters -/

/-- A counter raised, saturating; the page's SAT sets and `set` is given the page's counter-saturated leaf when the
counter lands on all ones or would pass it (R55, R56). -/
def State.addWith (set : State → Leaf → State) (s : State) (f : Fld) (n : Nat) : State :=
  if n = 0 then s
  else if f.maxVal ≤ s.rd f + n then
    set ((s.wr f f.maxVal).wr (Hdr.SAT f.page) 1) (satLeaf f.page)
  else s.wr f (s.rd f + n)

/-- A counter of the recorder raised: REC leaves make no event record. -/
def State.addQuiet (s : State) (f : Fld) (n : Nat) : State := State.addWith State.setQuiet s f n

/-! ### Event records (R491 to R495, R499) -/

/-- The watches of R499 that match a record's code. -/
def State.watchHits (s : State) (code : Nat) : List Nat :=
  (List.range 8).filter fun w =>
    s.is (REC.W_EN.at w) && ((code ^^^ s.rd (REC.WATCH_CODE.at w)) &&& s.rd (REC.WATCH_MASK.at w)) == 0

/-- REC.WATCH_w for every watch that a code matches. -/
def State.noteWatch (s : State) (code : Nat) : State :=
  (s.watchHits code).foldl (fun t w => t.setQuiet (Lf.REC.WATCH_0.plus w)) s

/-- Whether a store exists (R497): OAS STATE is UNMOUNTED (2), MOUNTING (3), MOUNTED (4) or UNMOUNTING (5). Log: 18 (DESIGN
CHOICE). -/
def State.storeOk (s : State) : Bool := 2 ≤ s.rd OAS.STATE && s.rd OAS.STATE ≤ 5

/-- The fill leaves of R495. -/
def State.noteFill (s : State) (before : Nat) : State :=
  let n := s.recd.ring.length
  let s := if before < 32 && 32 ≤ n then s.setQuiet Lf.REC.STAGE_HALF else s
  if before < 64 && 64 ≤ n then s.setQuiet Lf.REC.STAGE_FULL else s

/-- REC.RECORD_LOST at the first drop or overwrite since the last flush. -/
def State.noteLost (s : State) : State :=
  if s.recd.lostSet then s
  else ({ s with recd := { s.recd with lostSet := true } }).setQuiet Lf.REC.RECORD_LOST

/-- The record that a code, a place and 14 data bytes make now. -/
def State.newRec (s : State) (code page slice sev : Nat) (data : List Byte) : EvRec :=
  { opSeconds := s.rd SYS.OP_SECONDS, powerCycles := s.rd SYS.POWER_CYCLES, sev := sev, code := code, page := page,
    slice := slice, repeats := 1, data := padTo 14 data, lastDelta := 0 }

/-- A flush started over the records that the ring holds now (R496); header byte 3 is `flags`. Log: 130 (DEDUCED). -/
def State.startFlush (s : State) (flags : Nat) : State :=
  if !s.storeOk || s.is REC.FLUSHING then s
  else
    let run := if s.recd.lostSlot then 0 else s.recd.lostRun
    ({ s with recd := { s.recd with flushN := s.recd.ring.length, flushFlags := flags, lostRun := run } }).wr REC.FLUSHING 1

/-- The flush that R496 starts when the ring holds FLUSH_AT records. Log: 142 (DEDUCED). -/
def State.flushWhenFull (s : State) : State :=
  if s.rd REC.FLUSH_AT ≤ s.recd.ring.length then s.startFlush 0 else s

/-- A record put at the end of the ring under the next serial number (R495). -/
def State.pushRec (s : State) (r : EvRec) : State :=
  let n := s.recd.ring.length
  let e : RingRec := { rsn := s.rd REC.NEXT_RSN, body := r, early := !s.recd.restored }
  let t := { s with recd := { s.recd with ring := s.recd.ring ++ [e] } }
  let t := t.addQuiet REC.NEXT_RSN 1
  let t := t.setQuiet (Lf.REC.SEV_INFO.plus r.sev)
  ((t.noteFill n).noteWatch r.code).flushWhenFull

/-- A record that finds no room while a store exists: it is dropped, LOST counts it, and slot 64 holds the RECORDS_LOST
record, which further drops update (R495). Log: 130 (DEDUCED). -/
def State.dropRec (s : State) : State :=
  let s := (s.addQuiet REC.LOST 1).noteLost
  let n := s.recd.lostRun + 1
  let data := leBytes 4 n
  if s.recd.lostSlot && s.recd.ring.length ≤ s.recd.flushN then { s with recd := { s.recd with lostRun := n } }
  else if s.recd.lostSlot then
    let upd := fun (b : EvRec) => { b with data := padTo 14 data, repeats := min 0xFFFF (b.repeats + 1), lastDelta := min 0xFFFF (s.rd SYS.OP_SECONDS - b.opSeconds) }
    let ring := match s.recd.ring.getLast? with
      | some e => s.recd.ring.dropLast ++ [{ e with body := upd e.body }]
      | none => []
    { s with recd := { s.recd with ring := ring, lostRun := n } }
  else
    ({ s with recd := { s.recd with lostSlot := true, lostRun := n } }).pushRec (s.newRec 0x0404 0x15 0 1 data)

/-- Whether an event repeats the most recently staged record, which is still in the ring and in no flush (R494). -/
def State.isRepeat (s : State) (r : EvRec) : Bool :=
  match s.recd.ring.getLast? with
  | none => false
  | some e => s.recd.flushN < s.recd.ring.length && e.body.code == r.code && e.body.page == r.page &&
      e.body.slice == r.slice && e.body.data == r.data && e.body.powerCycles == r.powerCycles && e.body.repeats < 0xFFFF

/-- The last ring record counted once more (R494). -/
def State.addRepeat (s : State) : State :=
  match s.recd.ring.getLast? with
  | none => s
  | some e =>
    let b := { e.body with repeats := e.body.repeats + 1,
                           lastDelta := min 0xFFFF (s.rd SYS.OP_SECONDS - e.body.opSeconds) }
    let t := { s with recd := { s.recd with ring := s.recd.ring.dropLast ++ [{ e with body := b }] } }
    let t := t.addQuiet REC.REPEATS 1
    let t := if b.repeats = 0xFFFF then t.setQuiet Lf.REC.REPEAT_SAT else t
    t.noteWatch b.code

/-- An event that is to be recorded: a repeat, a new record, or a dropped one (R494, R495, R511). -/
def State.stage (s : State) (code page slice sev : Nat) (data : List Byte) : State :=
  let r := s.newRec code page slice sev data
  if s.is (Hdr.GATED 0x15) then s
  else if s.is (Hdr.QUIESCE 0x15) then s.addQuiet REC.LOST 1
  else if s.isRepeat r then s.addRepeat
  else if s.storeOk then
    if 63 ≤ s.recd.ring.length then s.dropRec else s.pushRec r
  else if 64 ≤ s.recd.ring.length then
    let t := ({ s with recd := { s.recd with ring := s.recd.ring.drop 1 } }).addQuiet REC.LOST 1
    t.noteLost.pushRec r
  else s.pushRec r

/-- The severity that SEV_MAP gives a group (R513). -/
def State.sevOf (s : State) (g : Nat) : Nat :=
  if g < 16 then bits (s.rd REC.SEV_MAP_LO) (2 * g) 2 else bits (s.rd REC.SEV_MAP_HI) (2 * (g - 16)) 2

/-- Whether a group's leaf sets are recorded (R493, R513); bit 19 is reserved. -/
def State.logsGroup (s : State) (g : Nat) : Bool :=
  if g < 19 then bit (s.rd REC.LOG_GROUPS) g else 20 ≤ g && bit (s.rd REC.LOG_GROUPS_HI) (g - 20)

/-! ### Setting a leaf -/

/-- A hardware set of a leaf: its CAUSE bit, and its event record when its group is recorded (R493). -/
def State.setLeaf (s : State) (l : Leaf) : State :=
  if s.is (Hdr.GATED l.page) then s
  else
    let t := s.setQuiet l
    match l.place with
    | none => t
    | some (g, b) =>
      if s.is REC.EN && s.logsGroup g then
        t.stage (g * 0x20 + b) l.page (s.rd (Hdr.SLICE l.page)) (s.sevOf g) [BitVec.ofNat 8 l.bit]
      else t

/-- Leaves that set at one instant: in ascending order of group and group bit, which is how FIRST_LEAF (R75) and the
event records (R493) take them. -/
def State.setLeaves (s : State) (l : List Leaf) : State :=
  (sortBy Leaf.code l).foldl State.setLeaf s

/-- A leaf set when a condition holds. -/
def State.leafIf (s : State) (c : Bool) (l : Leaf) : State := if c then s.setLeaf l else s

/-- A counter raised, saturating, with its page's SAT and counter-saturated leaf (R55, R56). -/
def State.add (s : State) (f : Fld) (n : Nat) : State := State.addWith State.setLeaf s f n

/-- An event record other than a leaf's, while its condition and EN hold (R492). -/
def State.event (s : State) (en : Bool) (code page slice sev : Nat) (data : List Byte) : State :=
  if en && s.is REC.EN then s.stage code page slice sev data else s

/-! ### Clamps (R51, R52) -/

/-- One clamp recorded: CLAMP_COUNT, the record of the SYS page, and the event record of R492. -/
def State.clamped (s : State) (source slice page off lsb wrote kept : Nat) : State :=
  if wrote = kept then s
  else
    let t := s.add SYS.CLAMP_COUNT 1
    let t := if s.is SYS.HOLD_FIRST && s.is SYS.CL_VALID then t
      else t.wrAll [(SYS.CL_VALID, 1), (SYS.CL_SOURCE, source), (SYS.CL_SLICE, slice), (SYS.CL_PAGE, page),
        (SYS.CL_LSB, lsb), (SYS.CL_OFFSET, off), (SYS.CLAMP_WROTE, wrote), (SYS.CLAMP_KEPT, kept)]
    t.event (s.is REC.LOG_CLAMP) 0x0403 page slice 1
      ([BitVec.ofNat 8 source] ++ leBytes 2 off ++ [BitVec.ofNat 8 lsb] ++ leBytes 4 wrote ++ leBytes 4 kept)

/-! ### The summaries and the pin (R65 to R68, R62) -/

/-- The pending leaves of a page: CAUSE and ENABLE both 1 (R65). -/
def State.pend (s : State) (p : Nat) : Nat := s.rd (Hdr.CAUSE p) &&& s.rd (Hdr.ENABLE p)

/-- GRP_PEND of a group: its pending leaves, whatever their route (R66). -/
def State.grpPend (s : State) (g : Nat) : Nat :=
  (leafRows.filter fun r => r.group == g).foldl
    (fun m r => m ||| (bits (s.pend r.page) r.pbit r.n) * 2 ^ r.gbit) 0

/-- The pending leaves of a group on pages routed to a slice (R66, R71). -/
def State.grpRouted (s : State) (slice g : Nat) : Nat :=
  (leafRows.filter fun r => r.group == g && s.rd (Hdr.SLICE r.page) == slice).foldl
    (fun m r => m ||| (bits (s.pend r.page) r.pbit r.n) * 2 ^ r.gbit) 0

/-- SUMMARY[23:0]: groups with a pending leaf on a page routed to slice 0 (R66). -/
def State.groups (s : State) : Nat := ofBits ((List.range 24).filter fun g => s.grpRouted 0 g ≠ 0)

/-- ROUTE_MAP of a slice's doorbell page (R71). -/
def State.routeMap (s : State) (slice : Nat) : Nat :=
  if slice = 0 then 0 else ofBits ((List.range 24).filter fun g => s.grpRouted slice g ≠ 0)

end Sys2Proof.Machine
end

