-- ==== Sys2Proof/Machine/MirOps.lean ====
section
/-! DEFINITION. Mirage's hooks and slots as operations that the hooked blocks call (19_mirage.md). -/

namespace Sys2Proof.Machine

/-- The kind of a page's hook, 0 when it has none (R517). -/
def State.hookKind (s : State) (p : Nat) : Nat := s.rd (Hdr.HOOK p) / 0x20

/-- The slot that a page's hook names. -/
def State.hookSlot (s : State) (p : Nat) : Nat := s.rd (Hdr.HOOK p) % 0x20

/-- Whether a slot has acted on all its events (R519). -/
def State.mirExhausted (s : State) (n : Nat) : Bool := s.rd (MIR.COUNT.at n) ≠ 0 && s.rd (MIR.COUNT.at n) ≤ s.rd (MIR.DONE.at n)

/-- The leaf that the first acted event of a kind sets (R520). -/
def mirLeaf (p : Nat) : Nat → Leaf
  | 1 => Lf.MIR.STAGE_ADD
  | 2 => Lf.MIR.BACKPRESS
  | 3 => Lf.MIR.GRANT_WITHHELD
  | 4 => if p == 0x0E || p == 0x0B then Lf.MIR.ECC_INJECT
    else if p == 0x12 then Lf.MIR.NAND_INJECT
    else if p == 0x13 then Lf.MIR.LINK_INJECT
    else Lf.MIR.SENSOR_INJECT
  | _ => Lf.MIR.RESULT_HOOK

/-- One event acted on by a slot: its count, its leaves and TAINTED (R519, R520). -/
def State.mirDone (s : State) (p kind n : Nat) : State :=
  let d := min 0xFFFF (s.rd (MIR.DONE.at n) + 1)
  let t := s.wr (MIR.DONE.at n) d
  let t := t.add (if kind ≤ 3 then MIR.TIMING_EVENTS else MIR.RESULT_EVENTS) 1
  let t := if 4 ≤ kind then t.wr MIR.TAINTED 1 else t
  let first := !s.mir.acted.contains p
  let t := { t with mir := { t.mir with acted := if first then s.mir.acted ++ [p] else s.mir.acted } }
  t.setLeaves ((if first then [mirLeaf p kind] else []) ++
    (if t.mirExhausted n then [if kind ≤ 3 then Lf.MIR.COUNT_DONE else Lf.MIR.INJECT_DONE] else []))

/-- An event of a kind at a page: the slot that acts on it, if one does (R519, R528). `fits` is the slot's selection. -/
def State.mirEvent (s : State) (p kind : Nat) (fits : Nat → Bool) : State × Option Nat :=
  let n := s.hookSlot p
  if s.rd (Hdr.HOOK p) = 0 || s.hookKind p ≠ kind || s.is (Hdr.QUIESCE 0x17) || !fits n || s.mirExhausted n then (s, none)
  else
    let k := (s.mir.skipped[n]?).getD 0
    if k < s.rd (MIR.SKIP.at n) then
      ({ s with mir := { s.mir with skipped := setAt s.mir.skipped n (k + 1) } }, none)
    else (s.mirDone p kind n, some n)

/-- One step of the 32-bit Galois LFSR of R523. -/
def lfsrStep (v : Nat) : Nat := if v % 2 = 1 then (v / 2) ^^^ 0x80200003 else v / 2

/-- The next LFSR value of a slot. -/
def State.lfsrNext (s : State) (n : Nat) : Nat × State :=
  let v := lfsrStep ((s.mir.lfsr[n]?).getD 1)
  (v, { s with mir := { s.mir with lfsr := setAt s.mir.lfsr n v } })

/-- The noise that an LFSR value adds, within ±AMOUNT; how the value maps onto that range is not stated. Log: 48 (DESIGN
CHOICE). -/
def noiseOf (v amount : Nat) : Int := ((Config.lfsrDraw v % (2 * amount + 1) : Nat) : Int) - amount

/-- One word of a sensor after an injection (R523): noise that saturates, or the scaling of a dropout. -/
def State.injectWord (s : State) (n width w : Nat) : State × Nat :=
  if s.rd (MIR.SEL.at n) % 2 = 0 then
    let (v, t) := s.lfsrNext n
    (t, (clampInt 0 ((2 : Int) ^ width - 1) ((w : Int) + noiseOf v (s.rd (MIR.AMOUNT.at n)))).toNat)
  else (s, (Config.quot 40 ((w * (s.rd (MIR.ARG.at n) % 256) : Nat) : Int) 256).toNat)

/-- The words of one sample of a sensor page, after the page's injection if it has one (R523). -/
def State.injectSample (s : State) (p width : Nat) (ws : List Nat) : State × List Nat :=
  match s.mirEvent p 4 (fun _ => true) with
  | (t, none) => (t, ws)
  | (t, some n) => ws.foldl (fun (a : State × List Nat) w =>
      let (u, v) := a.1.injectWord n width w
      (u, a.2 ++ [v])) (t, [])

/-- A request accepted by a block, or one sample of a loop, as a STAGE event (R521). Log: 9 (DESIGN CHOICE). -/
def State.mirStage (s : State) (p : Nat) : State := (s.mirEvent p 1 fun _ => true).1

/-- The auto-lock timer restarted (R515, R516). -/
def State.mirTouch (s : State) : State := { s with mir := { s.mir with touched := s.elapsed } }

/-- Every hook back to 0x00, as a lock leaves them (R516). -/
def State.clearHooks (s : State) : State :=
  { (List.range 0x1B).foldl (fun t p => t.wr (Hdr.HOOK p) 0) s with
    mir := { s.mir with acted := [], window := [], withheld := [] } }

/-- Mirage locks (R516). -/
def State.mirLock (s : State) (auto : Bool) : State :=
  if !s.is MIR.UNLOCKED then s
  else
    let t := (s.clearHooks).wr MIR.UNLOCKED 0
    ({ t with mir := { t.mir with keyAt := none } }).setLeaves (Lf.MIR.LOCKED :: (if auto then [Lf.MIR.AUTO_LOCK] else []))

/-- A value written to MIR.KEY (R47, R515). Log: 12 (DEDUCED). -/
def State.mirKey (s : State) (v : Nat) : State :=
  let step := fun (t : State) (k : Option Nat) => { t with mir := { t.mir with keyAt := k } }
  let begin_ := if v = 0x5EED then some s.elapsed else none
  match s.mir.keyAt with
  | none => step s begin_
  | some t0 =>
    if v = 0xA11E ∧ s.elapsed - t0 ≤ 64 then
      let t := (step s none).mirTouch
      if s.is MIR.UNLOCKED then t else (t.wr MIR.UNLOCKED 1).setLeaf Lf.MIR.UNLOCKED
    else if s.is MIR.UNLOCKED then step s begin_
    else (step s begin_).setLeaf Lf.MIR.KEY_RESTART

/-- Whether a hook kind is legal on a page (R517). -/
def hookLegal (p kind : Nat) : Bool :=
  match kind with
  | 0 => true
  | 1 => p != 0x00 && p != 0x01 && p != 0x02 && p != 0x17 && p != 0x19
  | 2 => p != 0x00 && p != 0x01 && p != 0x02 && p != 0x17 && p != 0x19
  | 3 => [0x0E, 0x0F, 0x10, 0x12, 0x13, 0x18].contains p
  | 4 => [0x0E, 0x0B, 0x12, 0x13, 0x04, 0x05, 0x08, 0x07, 0x09].contains p
  | 5 => p == 0x0B || p == 0x11
  | _ => false

/-- The legal values of a page's hook now (R517). -/
def State.hookValues (s : State) (p : Nat) : List Nat :=
  0 :: (if s.is MIR.UNLOCKED then
    (([1, 2, 3, 4, 5].filter (hookLegal p)).flatMap fun k => (List.range 8).map fun n => k * 0x20 + n) else [])

/-- The number of hooked pages. -/
def State.hookCount (s : State) : Nat := ((List.range 0x1B).filter fun p => s.rd (Hdr.HOOK p) ≠ 0).length

/-- A legal value put into a page's hook (R518, R520). -/
def State.setHook (s : State) (p v : Nat) : State :=
  let before := s.hookCount
  let t := (s.wr (Hdr.HOOK p) v).mirTouch
  let t := { t with mir := { t.mir with
    acted := if s.rd (Hdr.HOOK p) = 0 || v = 0 then t.mir.acted.filter (· ≠ p) else t.mir.acted
    window := (t.mir.window.filter fun (e : Nat × Nat) => e.1 ≠ p) ++ (if v / 0x20 = 2 || v / 0x20 = 3 then [(p, 0)] else [])
    withheld := t.mir.withheld.filter (· ≠ p) } }
  t.leafIf (before = 0 && t.hookCount ≠ 0) Lf.MIR.HOOK_ACTIVE

/-- A slot armed again by a write to any of its words (R519, R523). -/
def State.mirArm (s : State) (n : Nat) : State :=
  let seed := s.rd (MIR.ARG.at n)
  let t := (s.wr (MIR.DONE.at n) 0).mirTouch
  { t with mir := { t.mir with skipped := setAt t.mir.skipped n 0, lfsr := setAt t.mir.lfsr n (if seed = 0 then 1 else seed) } }

/-- A BACKPRESS or GRANT window of a page begins; windows step through the PATTERN (R521). Log: 9 (DESIGN CHOICE), 134
(DEDUCED). -/
def State.mirWindow (s : State) (p : Nat) : State :=
  match s.mir.window.find? (fun (e : Nat × Nat) => e.1 == p) with
  | none => s
  | some (_, i) =>
    let t := { s with mir := { s.mir with
      window := s.mir.window.map fun e => if e.1 == p then (p, (i + 1) % 32) else e
      withheld := s.mir.withheld.filter (· ≠ p) } }
    if bit (s.rd (MIR.PATTERN.at (s.hookSlot p))) i then
      if s.hookKind p = 2 then
        match t.mirEvent p 2 (fun _ => true) with
        | (u, some _) => { u with mir := { u.mir with withheld := u.mir.withheld ++ [p] } }
        | (u, none) => u
      else { t with mir := { t.mir with withheld := t.mir.withheld ++ [p] } }
    else t

/-- Whether a page withholds acknowledge or its grants now (R521). Log: 134 (DEDUCED). -/
def State.withheld (s : State) (p : Nat) : Bool := s.mir.withheld.contains p

/-- A grant due at a hooked arbiter inside a withholding window is held; that is the GRANT event (R521). Log: 134
(DEDUCED). -/
def State.mirGrant (s : State) (p : Nat) : State × Bool :=
  if s.hookKind p = 3 && s.withheld p then
    match s.mirEvent p 3 (fun _ => true) with
    | (t, some _) => (t, false)
    | (t, none) => (t, true)
  else (s, true)

/-- STATUS.DRAINED (R525). -/
def State.mirDrained (s : State) : Bool := s.hookCount = 0 && s.mir.running = 0

end Sys2Proof.Machine
end

