-- ==== Sys2Proof/Machine/ErgOps.lean ====
section
/-! DEFINITION. Addresses, zones and the Erg map as shared operations (R173, R174, R240 to R244). -/

namespace Sys2Proof.Machine

/-! ### Addresses and zones -/

/-- Whether the format in use is DVD (R207). -/
def State.isDvd (s : State) : Bool := s.rd CHN.FMT == 1

/-- A sector address as a number: a signed 24-bit LBA for CD, an unsigned PSN for DVD (R173). -/
def addrInt (dvd : Bool) (a : Nat) : Int := if dvd then (a % 2 ^ 24 : Nat) else ofCode 24 (a % 2 ^ 24)

/-- SPEED and START of a zone of a format. -/
def State.zoneSpeed (s : State) (dvd : Bool) (k : Nat) : Nat := s.rd ((if dvd then SPN.DVD_SPEED else SPN.CD_SPEED).at k)
def State.zoneStart (s : State) (dvd : Bool) (k : Nat) : Int :=
  addrInt dvd (s.rd ((if dvd then SPN.DVD_START else SPN.CD_START).at k))

/-- The number of used zones: those before the first with SPEED 0 (R174). -/
def State.zones (s : State) (dvd : Bool) : Nat :=
  ((List.range 16).find? fun k => s.zoneSpeed dvd k == 0).getD 16

/-- The zone that covers an address; a layer 1 address of an opposite-track-path disc is looked up as its complement
(R173, R174). -/
def State.zoneOf (s : State) (dvd : Bool) (a layer : Nat) : Nat :=
  let a := if dvd && layer = 1 && s.drv.otp then 2 ^ 24 - 1 - a % 2 ^ 24 else a
  ((List.range (s.zones dvd)).filter fun k => k = 0 || s.zoneStart dvd k ≤ addrInt dvd a).getLast?.getD 0

/-! ### Windows of θ: an arc from its start forward to its end -/

/-- The length of an arc, in 1/4,096 revolution, its ends included. -/
def arcLen (a b : Nat) : Nat := (b + 4096 - a % 4096) % 4096 + 1

/-- Whether θ lies in an arc. -/
def inArc (a b t : Nat) : Bool := (t + 4096 - a % 4096) % 4096 < arcLen a b

/-- Whether two arcs, each of a start and a length, overlap. -/
def arcsMeet (a la b lb : Nat) : Bool := (b + 4096 - a % 4096) % 4096 < la || (a + 4096 - b % 4096) % 4096 < lb

/-- An arc widened on both sides: its start and its length. -/
def widen (a b lead trail : Nat) : Nat × Nat :=
  ((a + 8192 - lead) % 4096, min 4096 (arcLen a b + lead + trail))

/-- The shortest arc that covers two arcs: its start and its end. -/
def coverArc (a b c d : Nat) : Nat × Nat :=
  let l1 := max (arcLen a b) ((c + 4096 - a % 4096) % 4096 + arcLen c d)
  let l2 := max (arcLen c d) ((a + 4096 - c % 4096) % 4096 + arcLen a b)
  if l1 ≤ l2 then (if 4096 ≤ l1 then (a, (a + 4095) % 4096) else (a, (a + l1 - 1) % 4096))
  else (if 4096 ≤ l2 then (c, (c + 4095) % 4096) else (c, (c + l2 - 1) % 4096))

/-! ### The map -/

/-- Whether a segment covers an address of a layer. -/
def State.segCovers (s : State) (g : Seg) (a layer : Nat) : Bool :=
  let d := s.isDvd
  g.layer == layer && addrInt d g.aLo ≤ addrInt d a && addrInt d a ≤ addrInt d g.aHi

/-- The segments that a query uses: those of the address in use (R242). -/
def State.segsNow (s : State) : List Seg :=
  if s.is ERG.PREDICT_EN && s.is DEM.ADDR_VALID then
    s.erg.segs.filter fun g => s.segCovers g (s.rd DEM.ADDR) (s.rd DEM.LAYER)
  else []

/-- The segments in whose widened window θ lies (R159). -/
def State.predicted (s : State) (theta lead trail : Nat) : List Seg :=
  s.segsNow.filter fun g => let (a, l) := widen g.tStart g.tEnd lead trail; (theta + 4096 - a) % 4096 < l

/-- GRADE by the map (R244). -/
def State.gradeOf (s : State) : Nat :=
  let n := s.erg.segs.length
  if s.erg.segs.any Seg.crack then 3 else if n = 0 then 0 else if n < 64 then 1 else if n < 1024 then 2 else 3

/-- GRADE brought to what the map asks for, with its leaf. -/
def State.regrade (s : State) : State :=
  let g := s.gradeOf
  if g = s.rd ERG.GRADE then s else (s.wr ERG.GRADE g).setLeaf Lf.ERG.DISC_GRADE

/-- A segment put into its slot. -/
def State.putSeg (s : State) (g : Seg) : State :=
  { s with erg := { s.erg with segs := sortBy Seg.slot (g :: s.erg.segs.filter fun h => h.slot ≠ g.slot) } }

/-- The features of a segment that has just been filed, the zone it lies in, and the grade (R244). -/
def State.noteSeg (s : State) (slot : Nat) : State :=
  match s.erg.segs.find? fun g => g.slot == slot with
  | none => s
  | some g =>
    let d := s.isDvd
    let long := s.rd ERG.LONG_THETA < arcLen g.tStart g.tEnd
    let crack := arcLen g.tStart g.tEnd ≤ s.rd ERG.CRACK_THETA &&
      (s.rd ERG.CRACK_ADDR : Int) ≤ addrInt d g.aHi - addrInt d g.aLo + 1
    let t := s.putSeg { g with long := g.long || long, crack := g.crack || crack }
    let t := t.setLeaves ((if long && !g.long then [Lf.ERG.LONG_DEFECT] else []) ++ (if crack && !g.crack then [Lf.ERG.CRACK] else []))
    let z := t.zoneOf d g.aLo g.layer
    let n := (t.erg.segs.filter fun h => t.zoneOf d h.aLo h.layer == z).length
    let t := if t.rd ERG.DENSE_N < n && !t.erg.dense.contains z then
        ({ t with erg := { t.erg with dense := t.erg.dense ++ [z] } }).setLeaf (Lf.ERG.ZONE_DENSE_0.plus z) else t
    t.regrade

/-- The fill leaves (R244). -/
def State.noteFillErg (s : State) : State :=
  let n := s.erg.segs.length
  if n ≤ s.erg.most then s
  else
    ({ s with erg := { s.erg with most := n } }).setLeaves
      ((if s.erg.most < 3840 && 3840 ≤ n then [Lf.ERG.MAP_NEAR_FULL] else []) ++
        (if s.erg.most < 4096 && 4096 ≤ n then [Lf.ERG.MAP_FULL] else []))

/-- A report filed (R241): kind 0 a channel dropout, 1 a servo hold, 2 a level 0 failure. -/
def State.ergReport (s : State) (kind a layer t0 t1 : Nat) : State :=
  if s.is (Hdr.GATED 0x0C) || s.is (Hdr.QUIESCE 0x0C) then s
  else
    let d := s.isDvd
    let m := s.rd ERG.MERGE_THETA
    let meets := fun (g : Seg) (w : Nat) =>
      let (x, lx) := widen g.tStart g.tEnd w w
      let (y, ly) := widen t0 t1 w w
      arcsMeet x lx y ly
    let s := s.add ERG.REPORTS 1
    let missed := kind ≠ 2 && s.is ERG.LEARNED && !(s.erg.segs.any fun g => s.segCovers g a layer && meets g 0)
    let s := if missed then (s.add ERG.MISSES 1).setLeaf Lf.ERG.PREDICT_MISS else s
    if !s.is ERG.LEARN_EN then s
    else
      let near := fun (g : Seg) => g.layer == layer && addrInt d g.aLo - s.rd ERG.MERGE_ADDR ≤ addrInt d a &&
        addrInt d a ≤ addrInt d g.aHi + s.rd ERG.MERGE_ADDR
      match s.erg.segs.find? fun g => near g && meets g m with
      | some g =>
        let (b, e) := coverArc g.tStart g.tEnd t0 t1
        let lo := if addrInt d a < addrInt d g.aLo then a else g.aLo
        let hi := if addrInt d g.aHi < addrInt d a then a else g.aHi
        let grown := lo ≠ g.aLo || hi ≠ g.aHi || arcLen g.tStart g.tEnd < arcLen b e
        let t := s.putSeg { g with aLo := lo, aHi := hi, tStart := b, tEnd := e, hits := min 255 (g.hits + 1),
                                   kind := if g.kind = kind then kind else 3, falseRun := 0 }
        (t.setLeaf (if grown then Lf.ERG.SEG_GROWN else Lf.ERG.SEG_MERGED)).noteSeg g.slot
      | none =>
        match (List.range 4096).find? fun i => s.erg.segs.all fun g => g.slot ≠ i with
        | none => s.add ERG.DROPPED 1
        | some i =>
          let t := s.putSeg { slot := i, layer := layer, kind := kind, aLo := a % 2 ^ 24, aHi := a % 2 ^ 24, tStart := t0, tEnd := t1 }
          ((t.setLeaf Lf.ERG.SEG_NEW).noteFillErg).noteSeg i

/-- The outcome of a predicted hold for every matching segment (R242): `low` says that SUM fell below the drop threshold.
Log: 34 (DEDUCED). -/
def State.ergOutcome (s : State) (gs : List Seg) (low : Bool) : State :=
  ((gs.filter fun g => g.kind ≠ 2).foldl (fun (t : State) g =>
    let t := t.add ERG.PREDICTIONS 1
    if low || t.erg.drops.any (inArc g.tStart g.tEnd) then
      t.putSeg { g with falseRun := 0, hits := min 255 (g.hits + 1) }
    else
      let t := (t.add ERG.FALSES 1).setLeaf Lf.ERG.PREDICT_FALSE
      if t.rd ERG.FALSE_N ≤ g.falseRun + 1 then { t with erg := { t.erg with segs := t.erg.segs.filter fun h => h.slot ≠ g.slot } }
      else t.putSeg { g with falseRun := g.falseRun + 1 }) s).regrade

/-- The map emptied (R243). Log: 64 (DEDUCED). -/
def State.ergEmpty (s : State) : State := ({ s with erg := {} }).regrade

end Sys2Proof.Machine
end

