-- ==== Sys2Proof/Machine/ServoOps.lean ====
section
/-! DEFINITION. Standing requests, permits, releases and losses of the optical loops and the laser (R146 to R152, R168). -/

namespace Sys2Proof.Machine

/-- A field of the focus page or its fellow on the tracking page. -/
def lf (l : Loop) (f t : Fld) : Fld := if l = .foc then f else t

/-- A loop's state beside its registers. -/
def State.loop (s : State) (l : Loop) : LoopSt := if l = .foc then s.opt.foc else s.opt.trk

/-- A loop's state replaced. -/
def State.setLoop (s : State) (l : Loop) (x : LoopSt) : State :=
  if l = .foc then { s with opt := { s.opt with foc := x } } else { s with opt := { s.opt with trk := x } }

/-- A loop's STATE (R171). -/
def State.loopState (s : State) (l : Loop) : Nat := s.rd (lf l FOC.STATE TRK.STATE)

/-- A loop's STATE replaced. -/
def State.setLoopState (s : State) (l : Loop) (v : Nat) : State := s.wr (lf l FOC.STATE TRK.STATE) v

/-- Whether a block runs a forced reset or a gate, or is gated. -/
def State.pageDown (s : State) (p : Nat) : Bool :=
  s.is (Hdr.GATED p) || s.pow.resetting.contains p || s.pow.gating.contains p

/-- The mechanism is permitted (R146): engines released, not DOZE but for its exit, not NAP, and restarted since. An
accepted eject parks the optics as well, once the disc commands that execute have completed (R190). Log: 19 (DEDUCED). -/
def State.mechOk (s : State) : Bool :=
  s.pow.phase == .run && !(s.drv.ejecting && s.ecd.units == []) && ((s.rd TIME.STATE == 0 && s.pow.entry ≠ some .doze && !s.drv.parked) ||
    (s.rd TIME.STATE == 1 && s.pow.exit.isSome))

/-- The permits that loops and laser share (R146). -/
def State.opticsOk (s : State) (p : Nat) : Bool :=
  s.mechOk && s.cal.work == none && s.is TIME.REF_OK && !s.pow.pfail && !s.pageDown p

/-! ### The laser (R146 to R148) -/

/-- The laser off at once, with the cause that LAST_OFF shows. -/
def State.laserOff (s : State) (cause : Nat) : State :=
  let t := s.wrAll [(LPC.STATE, 0), (LPC.LIT, 0), (LPC.LAST_OFF, cause), (LPC.DRIVE, 0)]
  { t with opt := { t.opt with target := 0, integ := 0, okRun := 0, limRun := 0, overRun := 0, underRun := 0 },
           loopResult := setAt t.loopResult 2 0 }

/-- Both loops read open: OPEN, or WAIT, which drives nothing either. Log: 31 (DEDUCED). -/
def State.loopsOpen (s : State) : Bool :=
  (s.loopState .foc == 0 || s.loopState .foc == 2) && (s.loopState .trk == 0 || s.loopState .trk == 2)

/-- The laser request pursued or dropped (R146 to R148). -/
def State.settleLaser (s : State) : State :=
  let lit := s.rd LPC.LIT
  let wave := s.rd LPC.WAVE
  if s.rd LPC.STATE = 0 then
    if wave ≠ 0 && s.opticsOk 0x08 && !s.opt.laserLatched then
      let t := s.wrAll [(LPC.STATE, 1), (LPC.LIT, wave)]
      { t with opt := { t.opt with target := 0, integ := 0, okRun := 0, limRun := 0, overRun := 0, underRun := 0 } }
    else s
  else if !s.is TIME.REF_OK || s.pow.pfail || s.pageDown 0x08 then s.laserOff 4
  else if s.rd LPC.STATE = 4 then s
  else if !s.opticsOk 0x08 then s.wrAll [(LPC.STATE, 4), (LPC.LAST_OFF, 4)]
  else if wave ≠ lit && s.loopsOpen then s.wrAll [(LPC.STATE, 4), (LPC.LAST_OFF, 1)]
  else s

/-! ### The loops -/

/-- The loop's request stands and is not latched off. -/
def State.loopWanted (s : State) (l : Loop) : Bool :=
  s.is (lf l FOC.CLOSE TRK.CLOSE) && !(s.loop l).latched

/-- A loop's permits (R146). A wavelength that is to change makes the laser no longer ready (R148), and tracking stays
open while the sled moves (R184). -/
def State.loopOk (s : State) (l : Loop) : Bool :=
  match l with
  | .foc => s.opticsOk 0x04 && s.rd LPC.STATE == 3 && s.rd LPC.WAVE == s.rd LPC.LIT
  | _ => s.opticsOk 0x05 && s.rd SLD.STATE != 1 && (s.rd FOC.STATE == 4 || s.rd FOC.STATE == 5 || s.rd FOC.STATE == 6)

/-- The loss of a loop: LAST_LOSS, LOSSES and the leaf (R151, R155, R170). After causes 5 and 8 the standing request is
pursued again as soon as its permits return (R168). Log: 32 (DEDUCED). -/
def State.loopLoss (s : State) (l : Loop) (cause : Nat) : State :=
  let t := (s.wr (lf l FOC.LAST_LOSS TRK.LAST_LOSS) cause).add (lf l FOC.LOSSES TRK.LOSSES) 1
  let t := t.setLoop l { t.loop l with lost := cause ≠ 5 && cause ≠ 8 }
  t.setLeaf (if l = .foc then Lf.SRV.FOC_LOST else Lf.SRV.TRK_LOST)

/-- What a loop drops when it opens or begins to release. -/
def State.loopDrop (s : State) (l : Loop) : State :=
  let x := s.loop l
  let t := s.setLoop l { x with lossRun := 0, lockRun := 0, satRun := 0, goodRun := 0, sweeps := 0, ramp := 1125 * x.u }
  let t := t.wrAll [(lf l FOC.HOLD_PRED TRK.HOLD_PRED, 0), (lf l FOC.HOLD_DROP TRK.HOLD_DROP, 0)]
  if l = .foc then t else t.wr TRK.LOCKED 0

/-- A jump that a loss or release of the focus loop breaks off fails (R152). Log: 33 (DEDUCED). -/
def State.jumpBroken (s : State) (l : Loop) : State :=
  if l == .foc && s.opt.jump ≠ none then
    (({ s with opt := { s.opt with jump := none } }).goDone FOC.JUMP_GO).setLeaf Lf.SRV.LAYER_FAIL
  else s

/-- A loop releases: its drive ramps to 0 (R147). -/
def State.loopRelease (s : State) (l : Loop) : State := ((s.loopDrop l).setLoopState l 1).jumpBroken l

/-- A loop opens at once: its DAC at zero current (R147). -/
def State.loopOpen (s : State) (l : Loop) : State :=
  let t := (s.loopDrop l).setLoopState l 0
  let t := t.setLoop l { t.loop l with u := 0, ramp := 0 }
  let t := t.wr (lf l FOC.DRIVE TRK.DRIVE) 0
  ({ t with loopResult := setAt t.loopResult (if l = Loop.foc then 0 else 1) 0,
            loopOut := setAt t.loopOut (if l = Loop.foc then 0 else 1) 0 }).jumpBroken l

/-- The cause of an immediate release: `some 0` for a reset or gate, which is no loss (R147, R168, R170). Log: 32
(DEDUCED). -/
def State.loopCut (s : State) (l : Loop) : Option Nat :=
  if !s.is TIME.REF_OK then some 5
  else if s.pow.pfail then some 8
  else if s.opt.laserLatched then some 4
  else if s.pageDown 0x04 || (l != .foc && s.pageDown 0x05) then some 0
  else none

/-- Acquisition or pull-in starts (R150, R154). -/
def State.loopStart (s : State) (l : Loop) : State :=
  let x := s.loop l
  (s.setLoop l { x with lost := false, sweeps := 0, down := true, ramp := 1125 * x.u, lossRun := 0, lockRun := 0 }).setLoopState l 3

/-- A loop's request pursued or dropped (R146, R147). Log: 32 (DEDUCED). -/
def State.settleLoop (s : State) (l : Loop) : State :=
  let st := s.loopState l
  if st = 0 || st = 2 then
    if s.loopWanted l && (!(s.loop l).lost || s.is (lf l FOC.AUTO_REACQ TRK.AUTO_REACQ)) then
      if s.loopOk l then s.loopStart l else (if st = 2 then s else s.setLoopState l 2)
    else if st = 2 then s.setLoopState l 0 else s
  else match s.loopCut l with
    | some 0 => s.loopOpen l
    | some c => (s.loopOpen l).loopLoss l c
    | none =>
      if st = 1 then s
      else if s.loopWanted l && s.loopOk l then s
      else s.loopRelease l

/-- Laser, focus and tracking brought to what their requests and permits ask for. A laser that waits for the loops to
open and loops that wait for the laser follow one another, so the three are taken twice. -/
def State.settleServo (s : State) : State :=
  let once := fun (t : State) => ((t.settleLaser.settleLoop .foc).settleLoop .trk)
  once (once s)

/-- A focus loss (R151): the tracking loop is lost with cause 3. Log: 32 (DEDUCED). -/
def State.focusLost (s : State) (cause : Nat) : State :=
  let t := (s.loopRelease .foc).loopLoss .foc cause
  let st := t.loopState .trk
  if st = 0 || st = 2 || st = 1 then t else (t.loopRelease .trk).loopLoss .trk 3

/-- What a change of CLOSE does beside the field (R146): written off, it releases the latch. -/
def State.closeChanged (s : State) (l : Loop) (old new : Nat) : State :=
  let x := s.loop l
  if new = 0 then s.setLoop l { x with latched := false, lost := false }
  else if old = 0 then s.setLoop l { x with lost := false }
  else s

/-- What a change of WAVE does beside the field (R146, R170). -/
def State.waveChanged (s : State) (old new : Nat) : State :=
  { s with opt := { s.opt with
      laserLatched := if new = 0 then false else s.opt.laserLatched
      switched := if new = 0 then false else if old ≠ 0 && old ≠ new then true else s.opt.switched } }

end Sys2Proof.Machine
end

