-- ==== Sys2Proof/Machine/SpindleOps.lean ====
section
/-! DEFINITION. Speeds, the spindle's demand and its zone evaluation (R175 to R183). -/

namespace Sys2Proof.Machine

/-- The quiet cap of a format, in quarter steps (R175). -/
def quietCap (dvd : Bool) : Nat := if dvd then 0x08 else 0x10

/-- The cap at a DOZE exit: CD 8×, DVD 3× (R179). -/
def exitCap (dvd : Bool) : Nat := if dvd then 0x0C else 0x20

/-- The effective speed at a zone, in quarter steps (R175, R179, R183), with or without the quiet profile. -/
def State.speedAt (s : State) (dvd : Bool) (zone : Nat) (quiet : Bool) : Nat :=
  let v := min (s.zoneSpeed dvd zone) (s.rd (if dvd then SPN.CAP_DVD else SPN.CAP_CD))
  let v := if quiet then min v (quietCap dvd) else v
  let v := if s.rd TIME.STATE = 1 then min v (exitCap dvd) else v
  if s.drv.unbal = 0 || v ≤ 16 then v else max 16 (v - s.drv.unbal)

/-- The target rpm of an effective speed at the present radius, at most RPM_MAX (R175). Log: 38 (DESIGN CHOICE). -/
def State.rpmFor (s : State) (dvd : Bool) (speed : Nat) : Nat :=
  min (s.rd SPN.RPM_MAX) (Config.rpmOf speed dvd (s.rd SLD.POSITION_UM))

/-- The address in use and its layer: the one that DEM holds, else the last verified one. -/
def State.addrNow (s : State) : Nat × Nat :=
  if s.is DEM.ADDR_VALID then (s.rd DEM.ADDR, s.rd DEM.LAYER) else (s.rd SLD.ADDR_NOW, s.rd SLD.ADDR_LAYER)

/-- Whether two rpm values differ by more than 1 %. -/
def rpmMoved (old new : Nat) : Bool := old < 100 * (max old new - min old new)

/-- The rpm of detection's first step (R191). Log: 46 (DEDUCED). -/
def detectRpm : Nat := 1200

/-- A zone evaluation at an address (R175, R178, R183); the first step of detection keeps its own rpm (R191). -/
def State.zoneEval (s : State) (a layer : Nat) : State :=
  let d := s.isDvd
  let z := s.zoneOf d a layer
  let free := s.speedAt d z false
  let eff := s.speedAt d z (s.is SPN.QUIET)
  let rpm := if s.rd LDR.STATE = 5 && s.drv.detect = 1 then min (s.rd SPN.RPM_MAX) detectRpm else s.rpmFor d eff
  let t := s.wrAll [(SPN.ZONE, z), (SPN.TARGET, eff)]
  let moved := rpmMoved s.drv.target rpm
  let t := { t with drv := { t.drv with target := rpm } }
  let t := if moved && s.rd SPN.STATE = 3 then t.wr SPN.STATE 4 else t
  t.leafIf (s.is SPN.QUIET && eff < free) Lf.MOT.SPN_QUIET_CAP

/-- The spindle may turn: demanded, not forbidden, not latched, and its block works (R178, R183). Log: 43 (DEDUCED). -/
def State.spinWanted (s : State) : Bool :=
  s.drv.demand && !s.is SPN.HOLD_STOP && !s.drv.latched && s.mechOk && s.is TIME.REF_OK && !s.pow.pfail && !s.pageDown 0x07

/-- The spindle started, braked or let coast as its demand and its permits ask (R178, R180, R194). Log: 43 (DEDUCED). -/
def State.settleSpindle (s : State) : State :=
  let st := s.rd SPN.STATE
  if st = 0 then
    if s.spinWanted then
      let (a, l) := s.addrNow
      let t := (s.wr SPN.STATE 1).add SPN.SPINUPS 1
      { t with drv := { t.drv with spinAt := s.elapsed, spinUp := true, slowSet := false, integ := 0 } }.zoneEval a l
    else s
  else if st = 5 || st = 6 then s
  else if s.spinWanted then s
  else
    let off := s.drv.latched || !s.is TIME.REF_OK || s.pow.pfail || s.pageDown 0x07
    { (s.wrAll [(SPN.STATE, if off then 6 else 5), (SPN.RATE_MODE, 0)]) with loopResult := setAt s.loopResult 4 0 }

end Sys2Proof.Machine
end

