-- ==== Sys2Proof/Machine/ChanOps.lean ====
section
/-! DEFINITION. The channel's states, its equalizer and its format as shared operations (R201 to R208). -/

namespace Sys2Proof.Machine

/-- The channel rate of a speed in quarter steps, in kbit/s. -/
def rateOf (dvd : Bool) (speed : Nat) : Nat := if dvd then 26160 * speed / 4 else 43218 * speed / 40

/-- The format that FORMAT and the lit wavelength ask for; with no laser lit, AUTO keeps the last one (R207). -/
def State.formatNow (s : State) : Nat :=
  if s.rd CHN.FORMAT < 2 then s.rd CHN.FORMAT
  else if s.rd LPC.LIT = 2 then 1 else if s.rd LPC.LIT = 1 then 0 else s.rd CHN.FMT

/-- EQ_INIT loaded into the taps (R208). -/
def State.eqLoad (s : State) : State :=
  (List.range 7).foldl (fun t k => t.wr (CHN.EQ_NOW.at k) (t.rd (CHN.EQ_INIT.at k))) s

/-- The channel's other state replaced. -/
def State.setChn (s : State) (c : Chan) : State := { s with chn := c }

/-- RATE_KBPS and PERIOD_FS from the period in use (R204). Log: 51 (DESIGN CHOICE). -/
def State.showRate (s : State) : State :=
  let p := s.chn.period
  if p ≤ 0 then s.wrAll [(CHN.PERIOD_FS, 0), (CHN.RATE_KBPS, 0)]
  else s.wrAll [(CHN.PERIOD_FS, (Config.quot 60 p 65536).toNat), (CHN.RATE_KBPS, (Config.quot 61 (65536 * 1000000000000) p).toNat)]

/-- The period that ACQUIRE starts from: the rate of the target speed, scaled by the present rpm (R206). Log: 51 (DESIGN
CHOICE). -/
def State.seedPeriod (s : State) : Int :=
  let rate := rateOf s.isDvd (s.rd SPN.TARGET) * s.rd SPN.RPM
  if rate = 0 then s.chn.period else Config.quot 62 (65536 * 1000000000000 * (s.drv.target : Int)) rate

/-- Whether DEM gets soft samples: the channel acquires, is locked or runs free (R205, R212). -/
def State.delivering (s : State) : Bool := 1 ≤ s.rd CHN.STATE && s.rd CHN.STATE ≤ 3

/-- DEM reads IDLE while the channel delivers nothing, and searches when it delivers again (R212, R223). -/
def State.demFollow (s : State) : State :=
  if s.delivering then
    (if s.rd DEM.STATE = 3 && !s.pageDown 0x0A then { s.wrAll [(DEM.STATE, 0), (DEM.INSERT_RUN, 0)] with chn := { s.chn with syncs := 0 } } else s)
  else if s.rd DEM.STATE = 3 then s else s.wr DEM.STATE 3

/-- A change of the channel's state; leaving LOCKED breaks the run since the last found sync (R214). -/
def State.chnTo (s : State) (st : Nat) : State :=
  let t := s.wrAll [(CHN.STATE, st), (CHN.RECAPTURE, 0)]
  { t with chn := { t.chn with errs := [], through := t.chn.through && st = 2, snrSince := none, snrSet := false } }.demFollow

/-- An entry into ACQUIRE: the taps start from EQ_INIT and the period is seeded (R206, R208). -/
def State.chnAcquire (s : State) : State :=
  let t := (s.chnTo 1).eqLoad
  ({ t with chn := { t.chn with period := t.seedPeriod, phase := 0 } }).showRate

/-- A change of the format in use (R184, R207). -/
def State.formatChange (s : State) : State :=
  let f := s.formatNow
  if f = s.rd CHN.FMT then s
  else
    let t := (s.wr CHN.FMT f).eqLoad
    let t := if t.delivering || t.rd CHN.STATE = 4 then t.chnAcquire else t
    let t := if t.rd DEM.STATE = 3 then t else { t.wr DEM.STATE 0 with chn := { t.chn with syncs := 0 } }
    t.wr SLD.SECTOR_AREA (if f = 1 then 0x000EEB66 else 0x006C5555)

/-- STATE is IDLE while no laser is lit or focus is neither CLOSED nor HOLD, and ACQUIRE follows when both end (R205). -/
def State.settleChannel (s : State) : State :=
  let dark := s.rd LPC.LIT = 0 || (s.rd FOC.STATE ≠ 4 && s.rd FOC.STATE ≠ 5)
  let st := s.rd CHN.STATE
  if st = 5 then s
  else if dark || s.pageDown 0x09 then (if st = 0 then s else s.chnTo 0)
  else if st = 0 then s.formatChange.chnAcquire
  else s

/-- LEVEL_SET's commit point: the transfer reseeds LEVEL_NOW (R209). Log: 53 (DEDUCED). -/
def State.levelCommit (s : State) : State :=
  if s.shdPend 0x09 && !s.is (Hdr.SHD_HOLD 0x09) then
    let t := s.commitPage 0x09
    t.wrAll [(CHN.NOW_TOP, t.rd CHN.SET_TOP), (CHN.NOW_BOT, t.rd CHN.SET_BOT)]
  else s

/-- The timestamp ring's lap over a stage-meter window of 1 ms: its completed laps (R201, R202). Log: 51 (DESIGN CHOICE). -/
def State.lapMeter (s : State) (laps : Nat) : State :=
  if s.pageDown 0x09 || 2 ≤ s.rd TIME.STATE then s
  else
    let lap := (Config.quot 63 1000000000 laps).toNat
    let span := s.rd CAL.SPAN_PS
    let at_ := s.rd CAL.STAGE_AT_CAL
    let expect := if at_ = 0 then span else (Config.quot 64 (span * s.rd TIME.STAGE_PS : Nat) at_).toNat
    let t := if laps = 0 then s.wr CHN.EXPECT_PS expect else s.wrAll [(CHN.LAP_PS, min 0xFFFF lap), (CHN.EXPECT_PS, expect)]
    let diff := max lap expect - min lap expect
    let tol := s.rd CHN.TDC_TOL
    if laps = 0 || 2 * lap < expect || 2 * expect < lap then
      (if t.rd CHN.STATE = 5 then t else (t.chnTo 5).setLeaf Lf.CHN.TDC_FAULT)
    else if expect * tol < 256 * diff then
      (if t.chn.driftArmed then (t.setChn { t.chn with driftArmed := false }).setLeaf Lf.CHN.TDC_DRIFT else t)
    else if 512 * diff ≤ expect * tol then t.setChn { t.chn with driftArmed := true }
    else t

/-- A calibration run or restore has committed: a TDC fault ends (R202). -/
def State.chnCalibrated (s : State) : State := if s.rd CHN.STATE = 5 then s.chnTo 0 else s

end Sys2Proof.Machine
end

