-- ==== Sys2Proof/Machine/Entry.lean ====
section
/-! DEFINITION. The fields of a submission entry (R315, R344). -/

namespace Sys2Proof.Machine

/-! ### Fields of a submission entry (R315) -/

def Cmd.opcode (c : Cmd) : Nat := leAt c.entry 0x00 1
def Cmd.isMmc (c : Cmd) : Bool := c.opcode == 0x01
def Cmd.flagFence (c : Cmd) : Bool := bit (leAt c.entry 0x01 1) 0
def Cmd.noNotice (c : Cmd) : Bool := bit (leAt c.entry 0x01 1) 1
def Cmd.cid (c : Cmd) : Nat := leAt c.entry 0x04 2
def Cmd.src (c : Cmd) : Nat := leAt c.entry 0x08 4 % 2 ^ 20
def Cmd.block (c : Cmd) : Nat := leAt c.entry 0x10 8
def Cmd.count (c : Cmd) : Nat := leAt c.entry 0x18 4
def Cmd.param0 (c : Cmd) : Nat := leAt c.entry 0x1C 4
/-- PARAM_1 to PARAM_4 of a native entry (R367). -/
def Cmd.param (c : Cmd) (n : Nat) : Nat := leAt c.entry (0x1C + 4 * n) 4
def Cmd.cdb (c : Cmd) : List Byte := Sys2Proof.slice c.entry 0x20 16
def Cmd.cdbOp (c : Cmd) : Nat := leAt c.entry 0x20 1
def Cmd.dptr (c : Cmd) : Nat := leAt c.entry 0x30 8
def Cmd.dlen (c : Cmd) : Nat := leAt c.entry 0x38 4

/-- NSID; an MMC entry's 0 is taken as the disc in the drive (R345). -/
def Cmd.nsid (c : Cmd) : Nat :=
  let n := leAt c.entry 0x0C 4
  if c.isMmc && n = 0 then 1 else n

/-- LEVEL_MAX: 5 clamps to 4 and 6 to 7 (R315). -/
def Cmd.levelMax (c : Cmd) : Nat :=
  let n := leAt c.entry 0x02 1 % 8
  if n = 5 then 4 else if n = 6 then 7 else n

/-- The code that LAST_STATUS and the CMD_FAIL record carry: the native opcode or the CDB operation code. -/
def Cmd.code (c : Cmd) : Nat := if c.isMmc then c.cdbOp else c.opcode

/-- A command runs fenced: FLAGS.FENCE, MODE SELECT, and the library's format, mount and unmount (R329, R363, R414). -/
def Cmd.fenced (c : Cmd) : Bool := c.flagFence || (if c.isMmc then c.cdbOp == 0x55 else 0x14 ≤ c.opcode && c.opcode ≤ 0x16)

/-- A command that reads the disc in the drive: MMC reads, the native READ of the disc, RIP and AUDIO_PLAY. -/
def Cmd.discRead (c : Cmd) : Bool :=
  if c.isMmc then c.nsid == 1 && [0x28, 0xA8, 0xBE, 0xB9].contains c.cdbOp
  else match c.opcode with
    | 0x10 => c.nsid == 1
    | 0x18 => c.param 1 == 1
    | 0x60 => true
    | _ => false

end Sys2Proof.Machine
end

