-- ==== Sys2Proof/Machine/Settle.lean ====
section
/-! DEFINITION. What follows every command at once, whatever it was: the idle timers, the trace trigger's marker, and the
INTx mirror, which follows the pin condition (R63, R100, R506). -/

namespace Sys2Proof.Machine

/-! ### The pin condition (R62, R67, R68) -/

/-- Whether a slice has its completion notice set: any NOTICE bit is 1 (R332). -/
def State.noticeSet (s : State) (i : Nat) : Bool := (storeGet s.que.notices i).getD 0 != 0

/-- SLICE_PEND: slices 1 to 63 with a routed pending leaf or a completion notice (R66, R67). -/
def State.slicePend (s : State) : Nat :=
  let routed := ((List.range 0x1B).filter fun p => s.pend p &&& leafMask p ≠ 0).map fun p => s.rd (Hdr.SLICE p)
  ofBits ((List.range 64).filter fun i => i ≠ 0 && (s.noticeSet i || routed.contains i))

/-- SUMMARY[31:24]: octets of slices with SLICE_PEND set (R68). -/
def State.sliceOct (s : State) : Nat :=
  let sp := s.slicePend
  ofBits ((List.range 8).filter fun k => bits sp (8 * k) 8 ≠ 0)

/-- The pin condition of R62. -/
def State.pinCond (s : State) : Bool :=
  (s.is ATN.PIN_EN && (s.groups &&& s.rd ATN.GROUP_MASK != 0 || s.sliceOct &&& s.rd ATN.SLICE_MASK != 0)) ||
    s.is ATN.WAKE_HOLD

/-- The INTx mirror is active (R63). -/
def State.mirrorActive (s : State) : Bool := s.is ATN.INTX_EN && !s.pci.intDisable

/-- INTA is to be asserted: the mirror is active, the pin condition holds and the link is up (R63). -/
def State.intxWanted (s : State) : Bool := s.mirrorActive && s.pinCond && s.is HPT.LINK_UP

/-- The Interrupt Status bit of the PCI Status register (R63). -/
def State.intStatus (s : State) : Bool := s.is ATN.INTX_EN && s.pinCond

/-- INTA brought to what R63 asks for, with its message; no Deassert_INTA is sent while the link is down. -/
def State.settleIntx (s : State) : State :=
  if s.intxWanted then
    (if s.is ATN.INTX_STATE then s else (s.emit .assertIntA).wr ATN.INTX_STATE 1)
  else if s.rd ATN.INTX_STATE = 0 then s
  else if s.is HPT.LINK_UP then (s.emit .deassertIntA).wr ATN.INTX_STATE 0
  else s.wr ATN.INTX_STATE 0

/-! ### The trace trigger (R503, R506) -/

/-- The STAMP of a trace record (R501): REFCLK cycles since NOW was 0; the cycles within the present µs are open. Log: 133
(DESIGN CHOICE). -/
def State.stamp (s : State) : Nat := (27 * s.now + Config.freeNat s.fresh % 27) % 2 ^ 32

/-- A marker put behind the records already taken (R503). -/
def State.marker (s : State) (kind : Nat) (lost : Bool) (payload : List Byte) : State :=
  let r : TrcRec := { src := 15, kind := kind, drop := false, lost := lost, stamp := s.stamp, payload := padTo 8 payload }
  { s with trc := { s.trc with queue := s.trc.queue ++ [r] }, fresh := s.fresh + 1 }

/-- The trigger leaf has set: the TRIGGER marker and TRC.TRIGGER_HIT, and POST records remain (R506). -/
def State.settleTrigger (s : State) : State :=
  if s.trc.trigHit then
    let t := ({ s with trc := { s.trc with trigHit := false, postLeft := some (s.rd TRC.POST) } }).wr TRC.TRIGGERED 1
    let t := t.marker 4 false
      ([BitVec.ofNat 8 (s.rd TRC.TRIG_GROUP), BitVec.ofNat 8 (s.rd TRC.TRIG_BIT)] ++ leBytes 2 (s.rd TRC.POST))
    t.setLeaf Lf.TRC.TRIGGER_HIT
  else s

/-! ### The idle timers (R100) -/

/-- A command that needs the disc and has not ended. -/
def Cmd.needsDisc (c : Cmd) : Bool :=
  c.stage ≠ .ended && (c.discRead || (!c.isMmc && (c.opcode == 0x40 || (c.opcode == 0x13 && c.param 1 == 1))))

/-- Disc-idle (R100): no command, seek, play, detection, unit on the ladder, borrow service, scan or calibration needs the disc. -/
def State.discIdle (s : State) : Bool :=
  s.drv.seek == none && s.drv.seeks == [] && s.rd LDR.STATE != 5 && !s.drv.ejecting && s.aud.play == none &&
    s.ecd.units == [] && s.rd AVG.STATE == 0 && s.ryl.bserves == [] && s.opt.jump == none && !s.is ERG.SCANNING &&
    s.cal.work == none && s.cal.wait == [] && !s.que.cmds.any Cmd.needsDisc

/-- The host path plays: its ring holds frames (R485, R486). -/
def State.hostPlays (s : State) : Bool := s.is AUD.SRC && s.is AUD.MCLK_OK && s.aud.hostOn

/-- The device is idle (R100): no entry, command, DMA, NAND operation, trace stream, audio output or caravan for this node
is in progress either. -/
def State.allIdle (s : State) : Bool :=
  s.discIdle && s.que.accepted == [] && s.que.cmds == [] && s.pci.reads == [] && s.pci.readQ == [] &&
    !s.nand.writes.any LibWrite.live && s.lib.shadowQ == [] && s.lib.raw == none && s.rd OAS.STATE != 3 && s.rd OAS.STATE != 5 &&
    !s.is REC.FLUSHING && s.trc.queue == [] && !s.hostPlays && s.ryl.serves == [] && s.ryl.opens == []

/-- The idle timer: it starts when its condition begins to hold, and stops when that breaks (R100). -/
def State.settleTimer (s : State) : State :=
  let want : Option PState :=
    if s.pow.phase ≠ .run || s.is TIME.HOLD_ACTIVE || s.pow.entry ≠ none || s.pow.exit ≠ none then none
    else match s.rd TIME.STATE with
      | 0 => if s.is TIME.DOZE_EN && s.discIdle then some .doze else none
      | 1 => if s.is TIME.NAP_EN && s.allIdle then some .nap else none
      | _ => if s.is TIME.STBY_EN && s.allIdle then some .standby else none
  if want = s.pow.timer then s
  else { s with pow := { s.pow with timer := want, timerStart := s.elapsed } }

/-- REC.NO_NAND, once each time that no store exists at engine release or one ceases to exist (R497). Log: 18 (DESIGN
CHOICE). -/
def State.settleStore (s : State) : State :=
  if s.pow.phase ≠ .run || s.pageDown 0x15 then s
  else if s.storeOk then (if s.recd.noNandSet then { s with recd := { s.recd with noNandSet := false } } else s)
  else if s.recd.noNandSet then s
  else ({ s with recd := { s.recd with noNandSet := true } }).setLeaf Lf.REC.NO_NAND

/-- What follows every command at once. -/
def State.settle (s : State) : State :=
  s.settleServo.settleChannel.settleSpindle.settleStore.settleTimer.settleTrigger.settleIntx

/-- How every meaning ends: with a next state, brought to what follows at once. Log: 2 (DEDUCED), 137 (DESIGN CHOICE). -/
def done (s : State) : Host.Outcome State Fault Refusal := .next s.settle

end Sys2Proof.Machine
end

