-- ==== Sys2Proof/Machine/Attention.lean ====
section
/-! DEFINITION. The attention tree's own accesses (03_attention_tree.md). -/

namespace Sys2Proof.Machine

/-- CAUSE bits of a page cleared (R64, R70). -/
def State.clearCause (s : State) (p mask : Nat) : State :=
  s.wr (Hdr.CAUSE p) (clearBits (s.rd (Hdr.CAUSE p)) mask)

/-- The leaves of a page that a mask names, in ascending order of group and group bit. -/
def leavesOf (p mask : Nat) : List Leaf :=
  sortBy Leaf.code ((setBits 32 (mask &&& leafMask p)).map fun b => ({ page := p, bit := b } : Leaf))

/-- ATN_FORCE bits written 1 set their leaves, gated block or not, and make no event record (R70, R76, R493). -/
def State.force (s : State) (p mask : Nat) : State :=
  if pageExists p && !pageNoLeaf p then (leavesOf p mask).foldl State.setCause s else s

/-- The leaves of a group that a mask names, cleared at their source pages when their page is routed as `ok` asks. -/
def State.clearGroup (s : State) (ok : Nat → Bool) (g mask : Nat) : State :=
  (leafRows.filter fun r => r.group == g && ok r.page).foldl
    (fun t r => t.clearCause r.page (bits mask r.gbit r.n * 2 ^ r.pbit)) s

/-- ATN.SUMMARY (R66, R68). -/
def State.summary (s : State) : Nat := s.sliceOct * 2 ^ 24 + s.groups

/-- A host read of ATN.SUMMARY: the first one in ACTIVE ends the wake hold (R78). -/
def State.readSummary (s : State) : State × Nat :=
  (if s.is ATN.WAKE_HOLD && s.pow.phase == .run && s.rd TIME.STATE = 0 then s.wr ATN.WAKE_HOLD 0 else s, s.summary)

/-- ENABLE of a page replaced: leaves whose CAUSE is already 1 become pending, and FIRST_LEAF may record one (R65). -/
def State.setEnable (s : State) (p v : Nat) : State :=
  let v := v &&& leafMask p
  let fresh := clearBits (v &&& s.rd (Hdr.CAUSE p)) (s.rd (Hdr.ENABLE p))
  (leavesOf p fresh).foldl State.noteFirst (s.wr (Hdr.ENABLE p) v)

/-- ATN_FORCE_WRITE (R70). -/
def execAtnForceWrite (page value : Nat) (s : State) : Host.Outcome State Fault Refusal := done (s.force page value)

/-- GRP_PEND_CLEAR (R70). -/
def execGrpPendClear (group value : Nat) (s : State) : Host.Outcome State Fault Refusal :=
  done (s.clearGroup (fun _ => true) group value)

/-- ROUTED_CLEAR (R71): on a doorbell page other than slice 0's, leaves of pages routed to that slice. -/
def State.clearRouted (s : State) (sl g value : Nat) : State :=
  if sl = 0 then s else s.clearGroup (fun p => s.rd (Hdr.SLICE p) == sl) g value

/-- ROUTED_CLEAR (R71). -/
def execRoutedClear (slice group value : Nat) (s : State) : Host.Outcome State Fault Refusal :=
  done (s.clearRouted slice group value)

/-- SUMMARY_READ (R78). -/
def execSummaryRead (port : HostPort) (s : State) : Host.Outcome State Fault Refusal :=
  done (s.readSummary.1.emit (.regData port 0x1040 s.readSummary.2))

end Sys2Proof.Machine
end

