-- ==== Sys2Proof/Machine/Crc.lean ====
section
/-! DEFINITION. The CRC-16 of blobs, records and subcode (R126, R218, R491). -/

namespace Sys2Proof.Machine

/-- One step of the CRC-16 over the top bit: polynomial 0x1021. -/
def crc16Bit (c : Nat) : Nat := if c / 0x8000 % 2 = 1 then (c * 2 % 0x10000) ^^^ 0x1021 else c * 2 % 0x10000

/-- One byte taken into the CRC-16, top bit first. -/
def crc16Byte (c : Nat) (b : Byte) : Nat := (List.range 8).foldl (fun a _ => crc16Bit a) (c ^^^ (b.toNat * 256))

/-- The CRC-16 of bytes from a start value, without reflection and without a final XOR. -/
def crc16From (start : Nat) (l : List Byte) : Nat := l.foldl crc16Byte start

/-- The CRC-16 of R126: initial value 0xFFFF. -/
def crc16 (l : List Byte) : Nat := crc16From 0xFFFF l

/-- Whether a Q's 12 bytes pass: its CRC starts at 0 and is stored inverted (R218). -/
def qPasses (q : List Byte) : Bool := beAt q 10 2 == 0xFFFF - crc16From 0 (q.take 10)

/-- The 12 bytes of Q in 96 subcode symbols: bit 6 of each, the first one in the top bit (R218). -/
def qOfSub (sub : List Byte) : List Byte :=
  (List.range 12).map fun i => BitVec.ofNat 8
    (((List.range 8).map fun j => b2n (bit ((sub[8 * i + j]?).getD 0).toNat 6) * 2 ^ (7 - j)).foldl (· + ·) 0)

end Sys2Proof.Machine
end

