-- ==== Sys2Proof/Machine/Operands.lean ====
section
/-! DEFINITION. The values that a register field can hold, and what a value that it cannot hold becomes (R48 to R50). -/

namespace Sys2Proof.Machine

/-! ### Nearness (R49) -/

/-- The distance of two numbers. -/
def dist (a b : Nat) : Nat := max a b - min a b

/-- The value of a rising list that is nearest to `v`; of two equally near ones the smaller. -/
def nearestIn (v : Nat) : Nat → List Nat → Nat
  | best, [] => best
  | best, x :: r => nearestIn v (if dist x v < dist best v then x else best) r

/-- The nearest of some legal values given in rising order; 0 when there is none. -/
def nearestOf (l : List Nat) (v : Nat) : Nat := match l with
  | [] => 0
  | x :: r => nearestIn v x r

/-- The nearest value of a range. -/
def nearRange (lo hi v : Nat) : Nat := if v < lo then lo else if hi < v then hi else v

/-- The nearest value of a range that 0 belongs to as well. -/
def nearZeroRange (lo hi v : Nat) : Nat :=
  if hi < v then hi else if lo ≤ v then v else if 2 * v ≤ lo then 0 else lo

/-- The powers of two inside a range. -/
def powersIn (lo hi : Nat) : List Nat := ((List.range 32).map fun k => 2 ^ k).filter fun p => lo ≤ p && p ≤ hi

/-! ### Fields whose legal values depend on others (R50) -/

/-- A START of one of the two zone tables: its index, and whether it is the DVD's. -/
def startIndex (f : Fld) : Nat × Bool := if f.off < 0x140 then ((f.off - 0x100) / 4, false) else ((f.off - 0x140) / 4, true)

/-- The START and SPEED fields of a format. -/
def zoneStartFld (dvd : Bool) (k : Nat) : Fld := if dvd then SPN.DVD_START.at k else SPN.CD_START.at k
def zoneSpeedFld (dvd : Bool) (k : Nat) : Fld := if dvd then SPN.DVD_SPEED.at k else SPN.CD_SPEED.at k

/-- Whether zone `k` is used: no zone up to it has SPEED 0 (R174). -/
def State.zoneUsed (s : State) (dvd : Bool) (k : Nat) : Bool := (List.range (k + 1)).all fun j => s.rd (zoneSpeedFld dvd j) ≠ 0

/-- A START kept (R177): STARTs compare as signed 24-bit values for CD and as unsigned ones for DVD. -/
def State.keptStart (s : State) (f : Fld) (v : Nat) : Nat :=
  let (k, dvd) := startIndex f
  if k ≤ 1 || !s.zoneUsed dvd k then v
  else
    let prev := s.rd (zoneStartFld dvd (k - 1))
    let top := if dvd then 0xFFFFFF else 0x7FFFFF
    let above := if dvd then decide (prev < v) else decide (ofCode 24 prev < ofCode 24 v)
    if prev = top then top else if above then v else (prev + 1) % 2 ^ 24

/-- The sum of the TAG_RSV shadows of all slices but one (R386). -/
def State.otherRsv (s : State) (i : Nat) : Nat :=
  (((List.range 64).filter (· ≠ i)).map fun k => s.shadowOf (SLC.TAG_RSV.at k)).foldl (· + ·) 0

/-- A number of two-bit fields with each one held at most at `top`. -/
def cap2 (v top : Nat) : Nat := ((List.range 8).map fun i => min top (bits v (2 * i) 2) * 4 ^ i).foldl (· + ·) 0

/-- What a field whose legal values depend on other state keeps of a value. Log: 47 (DEDUCED). -/
def State.keptCustom (s : State) (f : Fld) (v : Nat) : Nat :=
  let pages := s.rd MEM.HOST_NOW
  if f.page = 0x07 then s.keptStart f v
  else if f.page = 0x09 then nearRange (s.shadowOf CHN.SET_BOT + 64) 1023 v
  else if f.page = 0x0D then
    if f.lsb = 28 then (if v = 1 then 2 else v)
    else nearRange 2 (min 15 (if s.rd AVG.AVG_MAX = 0 then 16 else s.rd AVG.AVG_MAX)) v
  else if f.page = 0x10 then
    let i := (f.off - 0x800) / 32
    if f.lsb = 31 then (if i = 0 then 1 else v)
    else if f.off % 32 = 8 then min (min v (s.shadowOf (SLC.TAG_CAP.at i))) (512 - s.otherRsv i)
    else v
  else if f.page = 0x12 then
    if f.off = 0x114 then (if pages < 5 then 0 else nearRange 0 (pages - 5) v)
    else if f.lsb = 26 then nearestOf s.nand.dies v
    else if f.lsb = 10 then min v (s.rd OAS.BLOCKS_PER_DIE - 1)
    else min v (s.rd OAS.PAGES_PER_BLOCK - 1)
  else if f.page = 0x14 then
    if f.off = 0x054 then nearRange 1 (s.rd AUD.HIGH - 1) v
    else if f.off = 0x064 then (if pages < s.rd AUD.RING_PAGES then 0 else nearRange 0 (pages - s.rd AUD.RING_PAGES) v)
    else nearRange 0 (s.rd AUD.RING_PAGES * 1024 - 1) v
  else if f.page = 0x16 then min v (2 ^ s.rd TRC.BUF_LOG2 - 1)
  else if f.page = 0x19 then cap2 v (if f.off = 0x044 then 1 else 2)
  else v

/-- What a field of a page's header keeps of a value (R69, R517). -/
def keptHeader (hooks : Nat → List Nat) (f : Fld) (v : Nat) : Nat :=
  if f.off = 0x01C then (if f.page = 0x10 then 0 else v)
  else if f.off = 0x020 then nearestOf (hooks f.page) v
  else v

/-- What a field keeps of a value written to it (R49); `hooks` are the legal hooks of a page now. The SPEED of zone 0 may
not be 0 (R177). Log: 47 (DEDUCED). -/
def State.keptOf (s : State) (hooks : Nat → List Nat) (f : Fld) (v : Nat) : Nat :=
  match f.legal with
  | .any => v
  | .range lo hi => nearRange lo hi v
  | .zrange lo hi => if f.page = 0x07 && (f.off = 0x100 || f.off = 0x140) then nearRange lo hi v else nearZeroRange lo hi v
  | .pow2 lo hi => nearestOf (powersIn lo hi) v
  | .custom => if f.off < 0x40 then keptHeader hooks f v else s.keptCustom f v

/-- The fields whose legal values a field governs, in ascending order (R50). -/
def dependents (f : Fld) : List Fld :=
  if f.page = 0x07 then
    if 0x100 ≤ f.off && f.off < 0x180 then
      let (k, dvd) := startIndex f
      ((List.range 16).filter fun j => k ≤ j).map (zoneStartFld dvd)
    else []
  else if f.key = CHN.SET_BOT.key then [CHN.SET_TOP]
  else if f.key = AVG.AVG_MAX.key then [AVG.AVG_MIN]
  else if f.page = 0x10 && 0x800 ≤ f.off && f.off % 32 = 8 && f.lsb = 0 then [SLC.TAG_RSV.at ((f.off - 0x800) / 32)]
  else if f.key = AUD.HIGH.key then [AUD.LOW]
  else if f.key = AUD.RING_PAGES.key then [AUD.RING_PAGE, AUD.RING_WPTR]
  else if f.key = TRC.BUF_LOG2.key then [TRC.RPTR]
  else []

/-- The value that a write of a field left in it: the shadow of an SHD field, else the stored value. -/
def State.target (s : State) (f : Fld) : Nat := if f.kind = .shd then s.shadowOf f else s.rd f

/-- That value replaced. -/
def State.setTarget (s : State) (f : Fld) (v : Nat) : State := if f.kind = .shd then s.setShadow f v else s.wr f v

/-- A stored value that has become illegal clamped, with its record (R50). -/
def State.reclamp (s : State) (source : Nat) (f : Fld) : State :=
  let v := s.target f
  let k := s.keptOf (fun _ => []) f v
  if k = v then s else (s.setTarget f k).clamped source 0 f.page f.off f.lsb v k

end Sys2Proof.Machine
end

