-- ==== Sys2Proof/Machine/MemOps.lean ====
section
/-! DEFINITION. The sector cache's array, its error correction and its logs (10_sector_cache.md). -/

namespace Sys2Proof.Machine

/-! ### The array: bytes by cache offset, unlisted ones 0 (R259, R263) -/

/-- Bytes of the array: 6 MiB. -/
def cacheBytes : Nat := 0x600000

/-- One byte of the array. -/
def cellGet : List Host.Cell → Nat → Byte
  | [], _ => 0
  | (k, v) :: r, a => if k = a then v else cellGet r a

/-- The array with a byte's entry removed. -/
def cellErase : List Host.Cell → Nat → List Host.Cell
  | [], _ => []
  | (k, v) :: r, a => if k = a then cellErase r a else (k, v) :: cellErase r a

/-- The array with a byte's entry put in its place. -/
def cellInsert : List Host.Cell → Nat → Byte → List Host.Cell
  | [], a, b => [(a, b)]
  | (k, v) :: r, a, b =>
    if a < k then (a, b) :: (k, v) :: r else if k = a then (a, b) :: r else (k, v) :: cellInsert r a b

/-- One byte written; 0 is what an unlisted byte reads as. -/
def cellSet (l : List Host.Cell) (a : Nat) (b : Byte) : List Host.Cell :=
  if b = 0 then cellErase l a else cellInsert l a b

/-- Bytes written at rising offsets. -/
def cellsSet : List Host.Cell → Nat → List Byte → List Host.Cell
  | l, _, [] => l
  | l, a, b :: r => cellsSet (cellSet l a b) (a + 1) r

/-- The canonical form: offsets strictly rising and inside the array, no byte 0. -/
def cellsWf : List Host.Cell → Bool
  | [] => true
  | [(a, b)] => a < cacheBytes && b != 0
  | (a, b) :: (c, d) :: r => a < c && b != 0 && cellsWf ((c, d) :: r)

/-- The canonical form of the array holds. -/
def Memory.wf (s : State) : Bool := cellsWf s.cells

/-- The 8 bytes of a word (R259). -/
def State.wordBytes (s : State) (w : Nat) : List Byte := (List.range 8).map fun i => cellGet s.cells (8 * w + i)

/-! ### The Hsiao code (R260, R261) -/

/-- The number of ones in a byte. -/
def weight8 (v : Nat) : Nat := (setBits 8 v).length

/-- The columns of the data bits: the 56 patterns of weight 3, then the 8 lowest of weight 5. -/
def eccColumns : List Nat :=
  ((List.range 256).filter fun v => weight8 v == 3) ++ [0x1F, 0x2F, 0x37, 0x3B, 0x3D, 0x3E, 0x4F, 0x57]

/-- The check bits of eight data bytes. -/
def eccCheck (bytes : List Byte) : Nat :=
  (setBits 64 (ofLe bytes)).foldl (fun c i => c ^^^ (eccColumns[i]?).getD 0) 0

/-- What a syndrome means. -/
inductive Syndrome where
  | clean
  /-- a correctable error in a stored bit, 0 to 71 -/
  | bit (n : Nat)
  | bad
  deriving DecidableEq, Repr

/-- A syndrome read (R260). -/
def syndromeOf (v : Nat) : Syndrome :=
  if v = 0 then .clean
  else match eccColumns.findIdx? (· == v) with
    | some i => .bit i
    | none => if weight8 v = 1 then .bit (64 + (setBits 8 v).headD 0) else .bad

/-- A word's syndrome: the stored check bits XOR those of its stored data. -/
def State.synd (s : State) (w : Nat) : Nat := (storeGet s.ecc w).getD 0

/-- A word's data after correction of a stored bit. -/
def correctBytes (bytes : List Byte) (n : Nat) : List Byte :=
  if n < 64 then leBytes 8 (ofLe bytes ^^^ 2 ^ n) else bytes

/-- A word stored whole, with check bits that differ from its own by a mask. -/
def State.putWord (s : State) (w : Nat) (bytes : List Byte) (mask : Nat) : State :=
  { s with cells := if 8 * w + 8 ≤ cacheBytes then cellsSet s.cells (8 * w) (padTo 8 bytes) else s.cells
           ecc := if 8 * w + 8 ≤ cacheBytes then storeSet s.ecc w 0 (mask % 256) else s.ecc }

/-! ### The logs (R269, R270) -/

/-- The lowest free entry of a table of 16. -/
def freeEntry (l : List TabEnt) : Option Nat := (List.range 16).find? fun i => l.all fun e => e.entry ≠ i

/-- The entry of a word. -/
def tabFind (l : List TabEnt) (w : Nat) : Option TabEnt := l.find? (fun e : TabEnt => e.word == w)

/-- An event put into a table; `none` when the table is full and the word has no entry. -/
def logEvent (l : List TabEnt) (w synd bit : Nat) : Option (List TabEnt) :=
  match tabFind l w with
  | some e => some (l.map fun (x : TabEnt) => if x.word == w then { e with count := min 0xFFFF (e.count + 1), cleared := false } else x)
  | none => match freeEntry l with
    | some i => some (sortBy TabEnt.entry ({ entry := i, word := w, synd := synd, count := 1, bit := bit } :: l))
    | none => none

/-- A correctable event on a word (R269): the table, HOT_WORD, CE_TABLE_FULL and CE_RATE. -/
def State.ceEvent (s : State) (w synd n : Nat) : State :=
  let sec := s.now / 1000000
  let cnt := if s.mem.ceSec = sec then s.mem.ceCount + 1 else 1
  let s1 := { s with mem := { s.mem with ceSec := sec, ceCount := cnt } }
  let s2 := match logEvent s1.mem.ceTab w synd n with
    | none => s1.setLeaf Lf.MEM.CE_TABLE_FULL
    | some l =>
      let t := { s1 with mem := { s1.mem with ceTab := l } }
      let before := ((tabFind s.mem.ceTab w).map TabEnt.count).getD 0
      let after := ((tabFind l w).map TabEnt.count).getD 0
      t.leafIf (before < s.rd MEM.HOT_THR && s.rd MEM.HOT_THR ≤ after) Lf.MEM.HOT_WORD
  s2.leafIf (s.rd MEM.CE_RATE_THR < cnt) Lf.MEM.CE_RATE

/-- An uncorrectable event on a word (R268, R270): the table, UE_LOG and the bank's leaf. -/
def State.ueEvent (s : State) (w synd req : Nat) : State :=
  let s1 := match logEvent s.mem.ueTab w synd 0xFF with
    | none => s
    | some l => { s with mem := { s.mem with ueTab := l } }
  let first := !s1.is MEM.UL_VALID
  let s2 := if first then s1.wrAll [(MEM.UL_VALID, 1), (MEM.UL_REQ, req), (MEM.UL_SYND, synd), (MEM.UL_WORD, w)] else s1
  s2.setLeaves ((if first then [Lf.MEM.UE_FIRST] else []) ++ [Lf.MEM.BANK_UE_0.plus (w / 65536)])

/-- The leaf of a refused or failed access by its requester (R268): 0 and 1 the window, 2 host DMA, 3 another engine. -/
def ueLeaf (req : Nat) : Leaf :=
  if req ≤ 1 then Lf.MEM.UE_WINDOW else if req = 2 then Lf.MEM.UE_DMA else Lf.MEM.UE_INTERNAL

/-- A sector whose copy holds a word is removed from the cache (R272). -/
def State.dropSectorAt (s : State) (w : Nat) : State :=
  { s with mem := { s.mem with sectors := s.mem.sectors.filter fun c => !(c.off ≤ 8 * w + 7 && 8 * w < c.off + c.len) } }

/-! ### Reading and writing (R262, R264 to R268) -/

/-- One word read for a requester; `none` when it is uncorrectable. Log: 68 (DESIGN CHOICE). -/
def State.readWord (s : State) (req w : Nat) : State × Option (List Byte) :=
  if 0 < s.mem.parityFaults then
    let t := { s with mem := { s.mem with parityFaults := s.mem.parityFaults - 1 } }
    let t := ((t.setLeaf Lf.MEM.ADDR_PARITY).ueEvent w 0 req).add MEM.UE_READS 1
    (t.setLeaves [Lf.MEM.UE_READ, ueLeaf req], none)
  else match syndromeOf (s.synd w) with
  | .clean => (s, some (s.wordBytes w))
  | .bit n => (((s.ceEvent w (s.synd w) n).add MEM.CE_READS 1).setLeaf Lf.MEM.CE_READ, some (correctBytes (s.wordBytes w) n))
  | .bad =>
    let t := ((s.ueEvent w (s.synd w) req).add MEM.UE_READS 1).setLeaves [Lf.MEM.UE_READ, ueLeaf req]
    (t.dropSectorAt w, none)

/-- A stored bit of a word inverted: data bits 0 to 63, check bits 64 to 71; a number above 71 names no bit (R260, R523). -/
def State.flipStored (s : State) (w n : Nat) : State :=
  if 8 * w + 8 ≤ cacheBytes && n < 72 then
    let cells := if n < 64 then cellSet s.cells (8 * w + n / 8) (cellGet s.cells (8 * w + n / 8) ^^^ BitVec.ofNat 8 (2 ^ (n % 8))) else s.cells
    let col := if n < 64 then (eccColumns[n]?).getD 0 else 2 ^ (n - 64)
    { s with cells := cells, ecc := storeSet s.ecc w 0 (s.synd w ^^^ col) }
  else s

/-- A word has been stored, full or merged: Mirage's injection on MEM may invert two of its stored bits (R523). -/
def State.mirStored (s : State) (w : Nat) : State :=
  match s.mirEvent 0x0E 4 (fun n => bit (s.rd (MIR.SEL.at n)) 0 || s.rd (MIR.ARG.at n) % 2 ^ 20 == w) with
  | (t, some n) =>
    let a := t.rd (MIR.AMOUNT.at n)
    (t.flipStored w (bits a 8 8)).flipStored w (bits a 0 8)
  | (t, none) => t

/-- Whether a word has an uncorrectable entry that is not CLEARED. -/
def State.ueOpen (s : State) (w : Nat) : Bool := s.mem.ueTab.any fun (e : TabEnt) => e.word == w && !e.cleared

/-- A full write of one word: fresh check bits, and an entry of the uncorrectable table reads CLEARED (R267, R270). -/
def State.fullWrite (s : State) (w : Nat) (bytes : List Byte) : State :=
  let t := (s.putWord w bytes 0).mirStored w
  if s.ueOpen w then
    ({ t with mem := { t.mem with ueTab := t.mem.ueTab.map fun (e : TabEnt) => if e.word == w then { e with cleared := true } else e } }).setLeaf
      Lf.MEM.POISON_CLEARED
  else t

/-- New bytes of one word, by their place in it, merged into old ones. -/
def mergeBytes (old : List Byte) (new : List (Nat × Byte)) : List Byte :=
  new.foldl (fun l p => setAt l p.1 p.2) old

/-- The refused merge of an uncorrectable word (R266, R268). Log: 70 (DEDUCED). -/
def State.refuseMerge (s : State) (w synd req : Nat) : State :=
  ((s.ueEvent w synd 4).add MEM.UE_MERGES 1).setLeaves [Lf.MEM.UE_MERGE, ueLeaf req]

/-- A narrow write of one word (R266); `false` when the merge is refused. -/
def State.narrowWrite (s : State) (req w : Nat) (new : List (Nat × Byte)) : State × Bool :=
  let s := s.add MEM.MERGES 1
  match syndromeOf (s.synd w) with
  | .clean => ((s.putWord w (mergeBytes (s.wordBytes w) new) 0).mirStored w, true)
  | .bit n =>
    let t := ((s.ceEvent w (s.synd w) n).add MEM.CE_MERGES 1).setLeaf Lf.MEM.CE_MERGE
    ((t.putWord w (mergeBytes (correctBytes (s.wordBytes w) n) new) 0).mirStored w, true)
  | .bad => (s.refuseMerge w (s.synd w) req, false)

/-- The enabled bytes of one word written, as a full or a narrow write (R265); an address-parity fault stores nothing and
is answered as a refused merge (R262). Log: 68 (DESIGN CHOICE). -/
def State.writeWord (s : State) (req w : Nat) (new : List (Nat × Byte)) : State × Bool :=
  if new = [] then (s, true)
  else if 0 < s.mem.parityFaults then
    let t := { s with mem := { s.mem with parityFaults := s.mem.parityFaults - 1 } }
    ((t.setLeaf Lf.MEM.ADDR_PARITY).refuseMerge w 0 req, false)
  else if new.length = 8 then (s.fullWrite w (mergeBytes (s.wordBytes w) new), true)
  else s.narrowWrite req w new

/-- The words that a byte range touches. -/
def wordsOf (off n : Nat) : List Nat := if n = 0 then [] else (List.range ((off + n - 1) / 8 - off / 8 + 1)).map (off / 8 + ·)

/-- A byte range read for a requester; `none` when any of its words is uncorrectable. -/
def State.cacheRead (s : State) (req off n : Nat) : State × Option (List Byte) :=
  let r := (wordsOf off n).foldl (fun (acc : State × Option (List Byte)) w =>
    let (t, b) := acc.1.readWord req w
    (t, match acc.2, b with
      | some l, some x => some (l ++ x)
      | _, _ => none)) (s, some [])
  (r.1, r.2.map fun l => slice l (off % 8) n)

/-- The bytes of a write that fall into one word and are enabled, by their place in it. -/
def bytesInWord (off : Nat) (data : List Byte) (en : List Bool) (w : Nat) : List (Nat × Byte) :=
  (List.range 8).filterMap fun i =>
    let a := 8 * w + i
    if off ≤ a && a < off + data.length && (en[a - off]?).getD true then some (i, (data[a - off]?).getD 0) else none

/-- A write of bytes with their enables, word by word; `false` when a merge was refused. -/
def State.cacheWriteEn (s : State) (req off : Nat) (data : List Byte) (en : List Bool) : State × Bool :=
  (wordsOf off data.length).foldl (fun (acc : State × Bool) w =>
    let (t, ok) := acc.1.writeWord req w (bytesInWord off data en w)
    (t, acc.2 && ok)) (s, true)

/-- A write of bytes by a requester; `false` when a merge was refused. -/
def State.cacheWrite (s : State) (req off : Nat) (data : List Byte) : State × Bool := s.cacheWriteEn req off data []

/-- Bytes of command data stored in the cache. -/
def State.cacheStore (s : State) (off : Nat) (data : List Byte) : State := (s.cacheWrite 2 off data).1

/-- Poisoned data stored: each word whole, bytes that the data does not deliver as zero, syndrome 0xFF (R261). -/
def State.cachePoison (s : State) (off : Nat) (data : List Byte) : State :=
  (wordsOf off data.length).foldl (fun t w =>
    t.putWord w (mergeBytes [0, 0, 0, 0, 0, 0, 0, 0] (bytesInWord off data [] w)) 0xFF) s

/-- The cached copy of a block that has just been committed takes its new data (R337). -/
def State.recache (s : State) (ns block : Nat) (data : List Byte) : State :=
  match s.mem.sectors.find? fun c => c.ns == ns && c.block == block with
  | some c => (s.cacheWrite 3 c.off data).1
  | none => s

/-! ### Pages (R271, R275, R276) -/

/-- Whether an offset's page lies in the host region in force. -/
def State.inHost (s : State) (off : Nat) : Bool := off / 0x1000 < s.rd MEM.HOST_NOW

/-- Whether a byte range lies wholly in the host region in force. -/
def State.hostRange (s : State) (off n : Nat) : Bool := off + n ≤ s.rd MEM.HOST_NOW * 0x1000

/-- The pages of the engine pool: outside the host region and in banks that passed the fill (R263, R275). Log: 73 (DESIGN
CHOICE). -/
def State.poolPages (s : State) : List Nat :=
  (List.range 1536).filter fun p => s.rd MEM.HOST_NOW ≤ p && bit (s.rd MEM.BANKS_OK) (p / 128)

/-- The free pages that the allocator may grant: none that a pending HOST_PAGES is to add (R276). -/
def State.freePages (s : State) : List Nat :=
  let lim := match s.mem.hostPend with
    | some (n, _) => n
    | none => 0
  s.poolPages.filter fun p => lim ≤ p && !(s.mem.owners.any fun o => o.1 == p)

/-- Whether the allocator grants pages now (R278, R280). -/
def State.allocOk (s : State) : Bool :=
  s.rd TIME.STATE ≤ 1 && !s.is (Hdr.GATED 0x0E) && !s.pow.resetting.contains 0x0E

/-- `n` free pages granted to a use; which free ones is not stated. Log: 73 (DESIGN CHOICE). -/
def State.grantPages (s : State) (use : PageUse) : Nat → State × List Nat
  | 0 => (s, [])
  | n + 1 =>
    match s.freePages with
    | [] => (s, [])
    | f :: fs =>
      let (i, t) := s.free (fs.length + 1)
      let p := ((f :: fs)[i]?).getD f
      let t := { t with mem := { t.mem with owners := sortBy Prod.fst ((p, use) :: t.mem.owners) } }
      let (u, l) := t.grantPages use n
      (u, p :: l)

/-- A page returned to the pool: its words with uncleared uncorrectable entries are zeroed first (R271). -/
def State.freePage (s : State) (p : Nat) : State :=
  let ws := (s.mem.ueTab.filter fun e => e.word / 512 == p && !e.cleared).map TabEnt.word
  let t := ws.foldl (fun t w => t.fullWrite w [0, 0, 0, 0, 0, 0, 0, 0]) s
  { t with mem := { t.mem with owners := t.mem.owners.filter fun o => o.1 ≠ p } }

end Sys2Proof.Machine
end

