-- ==== Sys2Proof/Machine/HptOps.lean ====
section
/-! DEFINITION. What the PCIe port answers and sends, as shared operations (R287 to R293, R308). -/

namespace Sys2Proof.Machine

/-! ### Answers (R287, R309) -/

/-- LAST_HDR takes the header of a TLP that was answered with UR or Completer Abort, or dropped. -/
def State.noteHdr (s : State) (hdr : List Nat) : State :=
  (List.range 4).foldl (fun t k => t.wr (HPT.LAST_HDR.at k) ((hdr[k]?).getD 0)) s

/-- A posted request discarded (R287, R288). -/
def State.dropTlp (s : State) (hdr : List Nat) : State :=
  ((s.noteHdr hdr).add HPT.DROPPED 1).setLeaf Lf.HPT.TLP_DROPPED

/-- A request answered as unsupported: Unsupported Request when it is non-posted, else discarded (R287). Log: 77 (DEDUCED). -/
def State.answerUr (s : State) (posted : Bool) (hdr : List Nat) : State :=
  if posted then s.dropTlp hdr
  else (((s.emit (.completion 1 [] false)).noteHdr hdr).add HPT.UR_SENT 1).setLeaf Lf.HPT.UR_RECEIVED

/-- A read answered with Completer Abort (R268, R280). -/
def State.answerCa (s : State) (hdr : List Nat) : State :=
  (((s.emit (.completion 4 [] false)).noteHdr hdr).add HPT.CA_SENT 1).setLeaf Lf.HPT.CA_SENT

/-- An error message sent, when one is (R308). Log: 76 (DESIGN CHOICE). -/
def State.sendErr (s : State) (msg : Option Nat) : State := match msg with
  | some k => (s.emit (.errMsg k)).setLeaf Lf.HPT.ERR_MSG_SENT
  | none => s

/-- A TLP with EP received (R288). -/
def State.notePoison (s : State) : State := (s.add HPT.POISON_RCVD 1).setLeaf Lf.HPT.POISON_RECEIVED

/-! ### Requests that the part sends (R291) -/

/-- DMA may be used: Bus Master Enable is 1 and the function is in D0 (R290). -/
def State.dmaOk (s : State) : Bool := s.is HPT.BME && s.rd HPT.DSTATE = 0

/-- The PASID prefix of a request made for a slice (R291). -/
def State.pasidOf (s : State) (slice : Nat) : Option Nat :=
  if slice ≠ 0 && s.is HPT.PASID_EN then some (s.rd (SLC.PASID.at slice)) else none

/-- A transfer cut into requests of at most `max` bytes, none of which crosses a 4 KiB boundary: offset, address and
length of each. -/
def cutTlps (max addr : Nat) : Nat → Nat → Nat → List (Nat × Nat × Nat)
  | 0, _, _ => []
  | fuel + 1, off, len =>
    if len = 0 then []
    else
      let a := addr + off
      let n := min (min len max) (0x1000 - a % 0x1000)
      if n = 0 then [] else (off, a, n) :: cutTlps max addr fuel (off + n) (len - n)

/-- Bytes written to host memory for a slice, in payloads of at most Max Payload Size (R291). -/
def State.hostWrite (s : State) (sl addr : Nat) (data : List Byte) (poison : Bool) : State :=
  (cutTlps s.pci.mps addr data.length 0 data.length).foldl
    (fun t e => t.emit (.memWrite e.2.1 (slice data e.1 e.2.2) poison (s.pasidOf sl))) s

/-- How many DMA reads may be outstanding (R291). -/
def State.readLimit (s : State) : Nat := if s.pci.extTag then 64 else 32

/-- The lowest PCIe tag that no outstanding read carries. -/
def State.freePtag (s : State) : Nat := ((List.range 64).find? fun g => s.pci.reads.all fun r => r.ptag ≠ g).getD 0

/-- Waiting DMA reads sent, in order, as far as R290 and R291 let them. -/
def State.pumpReads (s : State) : Nat → State
  | 0 => s
  | n + 1 =>
    match s.pci.readQ with
    | [] => s
    | r :: rest =>
      if s.dmaOk && s.pci.reads.length < s.readLimit then
        let r := { r with ptag := s.freePtag }
        let sl := ((s.que.cmds.find? fun c => c.tag == r.ctag).map Cmd.slice).getD 0
        let t := { s with pci := { s.pci with readQ := rest, reads := s.pci.reads ++ [r] } }
        (t.emit (.memRead r.addr r.len r.ptag (s.pasidOf sl))).pumpReads n
      else s

/-- The DMA reads that wait, sent as far as they may be. -/
def State.sendReads (s : State) : State := s.pumpReads s.pci.readQ.length

end Sys2Proof.Machine
end

