-- ==== Sys2Proof/Machine/TraceOps.lean ====
section
/-! DEFINITION. A record offered to the trace by one of its sources (R502). -/

namespace Sys2Proof.Machine

/-- Whether a source's record is wanted: the trace runs and the source is enabled (R502, R511). -/
def State.traces (s : State) (src : Nat) : Bool :=
  s.is TRC.RUNNING && bit (s.rd TRC.SRC_EN) src && !s.is (Hdr.QUIESCE 0x16) && !s.is (Hdr.GATED 0x16)

/-- TRC.RECORDS_LOST at the first drop after each START (R505). -/
def State.noteTraceLoss (s : State) : State :=
  if s.trc.lostSet then s
  else ({ s with trc := { s.trc with lostSet := true } }).setLeaf Lf.TRC.RECORDS_LOST

/-- A dropped trace record is counted (R502, R505). -/
def State.traceDrop (s : State) : State :=
  (({ s with trc := { s.trc with droppedRun := s.trc.droppedRun + 1 } }).add TRC.DROPPED 1).noteTraceLoss

/-- A record put into its source's FIFO of 16, or dropped when that is full (R502). -/
def State.traceRec (s : State) (src : Nat) (payload : List Byte) : State :=
  if !s.traces src then s
  else if 16 ≤ (s.trc.queue.filter fun r => r.src == src).length then
    let t := { s with trc := { s.trc with dropNext := src :: s.trc.dropNext.filter (· ≠ src) } }
    t.traceDrop.setLeaf (Lf.TRC.SRC_OVF_0.plus src)
  else
    let r : TrcRec := { src := src, kind := 0, drop := s.trc.dropNext.contains src, lost := false, stamp := s.stamp,
                        payload := padTo 8 payload }
    { s with trc := { s.trc with queue := s.trc.queue ++ [r], dropNext := s.trc.dropNext.filter (· ≠ src) },
             fresh := s.fresh + 1 }

/-- The divider of a source (R502). -/
def traceDiv : Nat → Fld
  | 0 => TRC.DIV_0 | 1 => TRC.DIV_1 | 2 => TRC.DIV_2 | 3 => TRC.DIV_3 | 4 => TRC.DIV_4 | _ => TRC.DIV_5

/-- A sample of a divided source: every DIV-th one makes a record (R502). -/
def State.traceSample (s : State) (src : Nat) (payload : List Byte) : State :=
  if !s.traces src then s
  else
    let n := (s.trc.divCount[src]?).getD 0 + 1
    if s.rd (traceDiv src) ≤ n then
      ({ s with trc := { s.trc with divCount := setAt s.trc.divCount src 0 } }).traceRec src payload
    else { s with trc := { s.trc with divCount := setAt s.trc.divCount src n } }

end Sys2Proof.Machine
end

