-- ==== Sys2Proof/Machine/QueueOps.lean ====
section
/-! DEFINITION. Queue pairs, tags, commands and their completions as shared operations (12_queues_ordering.md,
13_command_set.md, 14_slices.md). -/

namespace Sys2Proof.Machine

/-! ### Status codes (R355) -/

def stGood : Nat := 0x0000
def stResidual : Nat := 0x1001
def stUnwritten : Nat := 0x1002
def stBorrowed : Nat := 0x1003
def stShadowHit : Nat := 0x1004
def stConcealed : Nat := 0x1005
def stRecovered : Nat := 0x1006
def stInvalidOpcode : Nat := 0x2001
def stInvalidField : Nat := 0x2002
def stInvalidNamespace : Nat := 0x2003
def stNotPrivileged : Nat := 0x2004
def stSpoofed : Nat := 0x2005
def stHostMemory : Nat := 0x2006
def stAborted : Nat := 0x2007
def stProgramNotErased : Nat := 0x2008
def stUnitAttention : Nat := 0x2009
def stWrongTrackMode : Nat := 0x200A
def stRemovalPrevented : Nat := 0x200B
def stSaveNotSupported : Nat := 0x200C
def stReadOnly : Nat := 0x200D
def stMediumUnrecovered : Nat := 0x3001
def stNoMedium : Nat := 0x3002
def stMediumNotReady : Nat := 0x3003
def stMediumFormat : Nat := 0x3004
def stLibraryFull : Nat := 0x3005
def stNotMounted : Nat := 0x3006
def stBlockReset : Nat := 0x4001
def stMemoryUncorrectable : Nat := 0x4002
def stNandFailure : Nat := 0x4003
def stMechanismFault : Nat := 0x4004
def stCalFailed : Nat := 0x4005
def stNodeGone : Nat := 0x5001
def stNoPeer : Nat := 0x5002
def stPathFailed : Nat := 0x5003

/-- The class of a status (R6). -/
def stClass (st : Nat) : Nat := st / 0x1000

/-! ### Pairs, commands and slices -/

/-- The queue pair with a name (R310). -/
def State.pair (s : State) (sl qp : Nat) : Option QPair := s.que.pairs.find? fun p => p.slice == sl && p.qp == qp

/-- A queue pair replaced. -/
def State.setPair (s : State) (p : QPair) : State :=
  { s with que := { s.que with pairs := s.que.pairs.map fun q => if q.slice == p.slice && q.qp == p.qp then p else q } }

/-- A queue pair removed. -/
def State.dropPair (s : State) (sl qp : Nat) : State :=
  { s with que := { s.que with pairs := s.que.pairs.filter fun q => !(q.slice == sl && q.qp == qp) } }

/-- The command that holds a tag. -/
def State.cmd (s : State) (tag : Nat) : Option Cmd := s.que.cmds.find? fun c => c.tag == tag

/-- The command that holds a tag replaced. -/
def State.setCmd (s : State) (c : Cmd) : State :=
  { s with que := { s.que with cmds := s.que.cmds.map fun d => if d.tag == c.tag then c else d } }

/-- A tag's engine requests and unsent DMA reads withdrawn. Log: 17 (DESIGN CHOICE). -/
def State.withdraw (s : State) (tag : Nat) : State :=
  let e := fun (g : Engine) => { g with reqs := g.reqs.filter fun r => r.tag ≠ tag }
  { s with que := { s.que with dec := e s.que.dec, nand := e s.que.nand, ryl := e s.que.ryl, dma := e s.que.dma }
           pci := { s.pci with readQ := s.pci.readQ.filter fun r => r.ctag ≠ tag } }

/-- A number that no tag has, for what still runs after the command that asked for it has gone. Log: 17 (DESIGN CHOICE). -/
def noTag : Nat := 1024

/-- A calibration operation whose command has gone. Log: 17 (DESIGN CHOICE). -/
def CalOp.detach (tag : Nat) : CalOp → CalOp
  | .run (some g) => .run (some (if g = tag then noTag else g))
  | .restoreCmd g b => .restoreCmd (if g = tag then noTag else g) b
  | op => op

/-- Work of other blocks that a command has left behind: it goes on, and nothing of it reaches the tag's next command. Log:
17 (DESIGN CHOICE). -/
def State.detach (s : State) (tag : Nat) : State :=
  { s with
    nand := { s.nand with writes := s.nand.writes.map fun w => if w.tag == tag then { w with live := false, tag := noTag } else w }
    ryl := { s.ryl with opens := s.ryl.opens.map fun o => if o.cmd == some tag then { o with cmd := none } else o }
    pci := { s.pci with reads := s.pci.reads.map fun r => if r.ctag == tag then { r with ctag := noTag } else r }
    cal := { s.cal with wait := s.cal.wait.map (CalOp.detach tag), work := s.cal.work.map (CalOp.detach tag) }
    trc := { s.trc with startTag := s.trc.startTag.filter (· ≠ tag) }
    aud := { s.aud with play := s.aud.play.map (fun (p : Play) => if p.tag = tag then { p with tag := noTag } else p),
                        stops := s.aud.stops.filter (· ≠ tag) }
    recd := { s.recd with eraseTag := s.recd.eraseTag.map fun g => if g = tag then noTag else g } }

/-- A tag's command removed, its transactions closed and its engine requests withdrawn: the tag is back in the pool. -/
def State.dropCmd (s : State) (tag : Nat) : State :=
  let s := (s.withdraw tag).detach tag
  { s with
    que := { s.que with cmds := s.que.cmds.filter (fun c => c.tag ≠ tag), cqWaiting := s.que.cqWaiting.filter (· ≠ tag) }
    openTags := s.openTags.filter fun o => !(o.page == 0x0F && o.tag == tag) }

/-- A slice's buckets and marks; one that has not been used is full (R376, R388). -/
def State.sl (s : State) (i : Nat) : SliceSt :=
  (s.que.slices.find? fun x => x.slice == i).getD
    { slice := i, cmdLevel := s.rd (SLC.CMD_BURST.at i) * 1024, byteLevel := (s.rd (SLC.BYTE_BURST.at i) : Int) * 1024 * 1024 }

/-- A slice's buckets and marks replaced. -/
def State.setSl (s : State) (x : SliceSt) : State :=
  { s with que := { s.que with slices := sortBy SliceSt.slice (x :: s.que.slices.filter fun y => y.slice ≠ x.slice) } }

/-- Whether a slice is bound (R376, R377). -/
def State.bound (s : State) (i : Nat) : Bool := i == 0 || s.is (SLC.VALID.at i)

/-- TAGS_HELD of a slice. -/
def State.tagsHeld (s : State) (i : Nat) : Nat := (s.que.cmds.filter fun c => c.slice == i).length

/-- Free tags of the pool of 512 (R323). -/
def State.tagFree (s : State) : Nat := 512 - s.que.cmds.length

/-- Free internal transactions (R323). -/
def State.xactFree (s : State) : Nat := 2048 - s.openTags.length

/-- A slice's backlog (R334). -/
def State.backlog (s : State) (i : Nat) : Nat :=
  (s.que.accepted.filter fun a => a.slice == i).length + s.tagsHeld i

/-- A mask bit of a pair of registers that cover 64 slices. -/
def State.mapBit (s : State) (lo hi : Fld) (i : Nat) : Bool :=
  if i < 32 then bit (s.rd lo) i else bit (s.rd hi) (i - 32)

/-- A mask bit of a pair of registers that cover 64 slices, replaced. -/
def State.setMapBit (s : State) (lo hi : Fld) (i : Nat) (v : Bool) : State :=
  let f := if i < 32 then lo else hi
  let m := 2 ^ (i % 32)
  s.wr f (if v then s.rd f ||| m else clearBits (s.rd f) m)

/-! ### Engine requests (R392) -/

/-- The engine by its number: 0 DEC, 1 NAND, 2 RYL, 3 DMA (R403). -/
def State.eng (s : State) : Nat → Engine
  | 0 => s.que.dec | 1 => s.que.nand | 2 => s.que.ryl | _ => s.que.dma

/-- An engine replaced. -/
def State.setEng (s : State) (e : Nat) (g : Engine) : State := match e with
  | 0 => { s with que := { s.que with dec := g } }
  | 1 => { s with que := { s.que with nand := g } }
  | 2 => { s with que := { s.que with ryl := g } }
  | _ => { s with que := { s.que with dma := g } }

/-- A slice is ready at an engine while it has a request there that no bucket holds (R393, R389). -/
def State.ready (s : State) (e i : Nat) : Bool :=
  (s.eng e).reqs.any (fun r => r.slice == i) &&
    !(e == 3 && s.rd (SLC.BYTE_RATE.at i) ≠ 0 && (s.sl i).byteLevel ≤ 0)

/-- A request put to an engine; a slice that becomes ready joins new_list with no deficit (R393). -/
def State.request (s : State) (e : Nat) (r : EngReq) : State :=
  if r.units = 0 then s
  else
    let was := s.ready e r.slice
    let g := s.eng e
    let t := s.setEng e { g with reqs := g.reqs ++ [r] }
    if was || !t.ready e r.slice then t
    else
      let g := t.eng e
      let old := (g.sl.find? fun x => x.slice == r.slice).getD { slice := r.slice }
      t.setEng e { g with newList := g.newList ++ [r.slice],
                          sl := sortBy EngSlice.slice ({ old with deficit := 0, allReady := false } :: g.sl.filter fun x => x.slice ≠ r.slice) }

/-! ### The end of a command -/

/-- A command ends with a result; its completion is written later. A tag that no running command holds changes nothing. -/
def State.finishFull (s : State) (tag status specific residual : Nat) (lba : Option Nat) : State :=
  match s.cmd tag with
  | none => s
  | some c =>
    if c.stage = .ended then s
    else s.setCmd { c with stage := .ended, status := status, specific := specific, residual := residual, senseLba := lba }

/-- A command ends with a status and a specific result. -/
def State.finish (s : State) (tag status specific : Nat) : State := s.finishFull tag status specific 0 none

/-- Bytes that a LOC 1 command moves, charged to its slice's byte bucket (R389). Log: 22 (DEDUCED), 87 (DEDUCED). -/
def State.chargeBytes (s : State) (c : Cmd) (n : Nat) : State :=
  let x := s.sl c.slice
  if s.rd (SLC.BYTE_RATE.at c.slice) = 0 then s else s.setSl { x with byteLevel := x.byteLevel - 1024 * n }

/-- Bytes written to a LOC 1 command's data buffer in the host region of the cache; `false` when a merge is refused (R268).
Log: 87 (DEDUCED). -/
def State.cacheOut (s : State) (c : Cmd) (off : Nat) (data : List Byte) : State × Bool :=
  let (t, ok) := s.cacheWrite 2 (c.dptr + off) data
  (t.chargeBytes c data.length, ok)

/-- Bytes written to a command's data buffer, from an offset: host memory, as units of host DMA, or the host region of the
cache (R311, R389). Log: 87 (DEDUCED). -/
def State.dataOut (s : State) (c : Cmd) (off : Nat) (data : List Byte) : State :=
  if data = [] then s
  else
    if c.loc then (s.cacheOut c off data).1
    else
      (s.hostWrite c.slice (c.dptr + off) data false).request 3
        { slice := c.slice, tag := c.tag, credits := 1, units := ceilDiv data.length 512, bytes := 512, since := some s.elapsed }

/-- The DMA reads of a command's data buffer asked for, as units of host DMA (R291, R293). -/
def State.startDma (s : State) (c : Cmd) (len : Nat) : State :=
  let l := (cutTlps s.pci.mrrs c.dptr len 0 len).map fun e => ({ ctag := c.tag, off := e.1, addr := e.2.1, len := e.2.2 } : DmaRead)
  let t := s.setCmd { c with dmaRead := true }
  let t := { t with pci := { t.pci with readQ := t.pci.readQ ++ l } }
  (t.request 3 { slice := c.slice, tag := c.tag, credits := 1, units := ceilDiv len 512, bytes := 512, since := some s.elapsed }).sendReads

/-- The statuses that an MMC entry reports as SCSI status GOOD (R356). -/
def scsiGood (st : Nat) : Bool := stClass st ≤ 1 && st ≠ stRecovered

/-- Sense key, ASC and ASCQ of a status (R356). -/
def senseOf (st : Nat) : Nat × Nat × Nat :=
  if st = stRecovered then (0x1, 0x17, 0x01)
  else if st = stInvalidOpcode then (0x5, 0x20, 0x00)
  else if st = stInvalidField then (0x5, 0x24, 0x00)
  else if st = stInvalidNamespace then (0x5, 0x25, 0x00)
  else if st = stNotPrivileged ∨ st = stSpoofed then (0x5, 0x20, 0x02)
  else if st = stHostMemory then (0xB, 0x4B, 0x00)
  else if st = stAborted then (0xB, 0x2F, 0x00)
  else if st = stUnitAttention then (0x6, 0x29, 0x00)
  else if st = stWrongTrackMode then (0x5, 0x64, 0x00)
  else if st = stRemovalPrevented then (0x5, 0x53, 0x02)
  else if st = stSaveNotSupported then (0x5, 0x39, 0x00)
  else if st = stReadOnly then (0x7, 0x27, 0x00)
  else if st = stMediumUnrecovered then (0x3, 0x11, 0x00)
  else if st = stNoMedium then (0x2, 0x3A, 0x01)
  else if st = stMediumNotReady then (0x2, 0x04, 0x01)
  else if st = stMediumFormat then (0x3, 0x30, 0x02)
  else if st = stBlockReset then (0x4, 0x44, 0x80)
  else if st = stMemoryUncorrectable then (0x4, 0x44, 0x81)
  else if st = stMechanismFault then (0x4, 0x09, 0x00)
  else if st = stNodeGone then (0x2, 0x3A, 0x00)
  else (0xB, 0x4B, 0x00)

/-- The 18 bytes of fixed-format sense data (R356). -/
def senseBytes (c : Cmd) : List Byte :=
  let (key, asc0, ascq0) := senseOf c.status
  let (asc, ascq) := c.asc.getD (asc0, ascq0)
  [BitVec.ofNat 8 (0x70 + (if c.senseLba.isSome then 0x80 else 0)), 0, BitVec.ofNat 8 key] ++
    beBytes 4 (c.senseLba.getD 0) ++ [10, 0, 0, 0, 0, BitVec.ofNat 8 asc, BitVec.ofNat 8 ascq, 0, 0, 0, 0]

/-- The leaf that a command's completion sets, by its opcode (R372); a spoofed entry is no command (R380). Log: 150
(DEDUCED). -/
def doneLeaf (c : Cmd) : List Leaf :=
  if c.isMmc || c.status = stSpoofed then []
  else match c.opcode with
    | 0x13 => [Lf.CMD.VERIFY_DONE]
    | 0x14 => [Lf.CMD.FORMAT_DONE]
    | 0x15 => [Lf.CMD.MOUNT_DONE]
    | 0x16 => [Lf.CMD.UNMOUNT_DONE]
    | 0x18 => [if stClass c.status ≤ 1 then Lf.CMD.RIP_DONE else Lf.CMD.RIP_FAIL]
    | 0x21 => [Lf.CMD.SHADOW_PURGE_DONE]
    | 0x40 => [Lf.CMD.SERVO_TEST_DONE]
    | 0x48 => [Lf.CMD.CAL_DONE]
    | 0x49 => [Lf.CMD.CAL_DONE]
    | 0x4A => [Lf.CMD.CAL_DONE]
    | 0x50 => [Lf.CMD.REC_DUMP_DONE]
    | 0x58 => [Lf.CMD.TRACE_DONE]
    | 0x60 => [Lf.CMD.AUDIO_PLAY_DONE]
    | 0x03 => [Lf.CMD.ABORT_ALL_DONE]
    | _ => []

/-- The leaves, the record and the counts of a command's completion (R342, R343, R351, R372, R373, R492). -/
def State.noteCompletion (s : State) (c : Cmd) : State :=
  let cl := stClass c.status
  let lat := s.elapsed - c.at_
  let t := if 2 ≤ cl then s.wrAll [(CMD.LS_STATUS, c.status), (CMD.LS_SLICE, c.slice), (CMD.LS_OPCODE, c.code)] else s
  let t := t.wr QUE.LAT_MAX_US (max (t.rd QUE.LAT_MAX_US) (min 0xFFFFFFFF lat))
  let t := if c.status = stAborted then t.add QUE.ABORTS 1 else t
  let t := if c.clampSeen then t.add CMD.CLAMPED 1 else t
  let t := t.setLeaves (doneLeaf c ++
    (if cl = 3 then [Lf.CMD.MEDIUM_CLASS] else if cl = 4 then [Lf.CMD.DEVICE_CLASS] else if cl = 5 then [Lf.CMD.FABRIC_CLASS]
      else []) ++
    (if c.status = stBlockReset then [Lf.QUE.BLOCK_RESET_SEEN] else []) ++
    (if c.fenced && c.status ≠ stSpoofed then [Lf.QUE.FENCE_DONE] else []) ++
    (if s.rd QUE.LAT_THR_US < lat then [Lf.QUE.LATENCY_HIGH] else []))
  let t := t.event (3 ≤ cl && cl ≤ 5 && s.is REC.LOG_CMD_FAIL) 0x0402 0x11 c.slice (if cl = 4 then 2 else 1)
    (leBytes 2 c.status ++ [BitVec.ofNat 8 c.code, BitVec.ofNat 8 c.qp] ++ leBytes 4 c.nsid ++
      leBytes 4 (c.senseLba.getD 0))
  t.traceRec 7 (leBytes 2 c.cid ++ leBytes 2 c.status ++ [BitVec.ofNat 8 c.slice, BitVec.ofNat 8 c.qp] ++
    leBytes 2 (min 0xFFFF (lat / 16)))

/-- The sense data that an MMC completion holds in its pair (R356, R357). -/
def State.holdSense (s : State) (c : Cmd) : State :=
  if !c.isMmc || scsiGood c.status then s
  else
    let t := s.add CMD.CHECKS 1
    match t.pair c.slice c.qp with
    | none => t
    | some p =>
      let t := if p.sense.isSome then (t.add CMD.SENSE_LOST 1).setLeaf Lf.CMD.SENSE_LOST else t
      t.setPair { p with sense := some (senseBytes c) }

/-- What follows a tag's return: the marks of an idle queue engine or slice (R335, R342, R397, R399). -/
def State.noteDrained (s : State) (i : Nat) : State :=
  let b := s.backlog i
  let thr := s.rd (QUE.BACKLOG_THR.at i)
  let past := s.mapBit QUE.OVL_MAP_LO QUE.OVL_MAP_HI i
  let t := if past && b < thr / 2 then (s.setMapBit QUE.OVL_MAP_LO QUE.OVL_MAP_HI i false).setLeaf Lf.QUE.OVERLOAD_CLEAR else s
  let t := t.setLeaves ((if t.mapBit SLC.QUIESCE_LO SLC.QUIESCE_HI i && t.tagsHeld i = 0 then [Lf.SLC.SLICE_QUIESCED] else []) ++
    (if t.mapBit SLC.DRAIN_LO SLC.DRAIN_HI i && b = 0 then [Lf.SLC.SLICE_DRAINED] else []) ++
    (if t.que.cmds = [] && t.que.accepted = [] then [Lf.QUE.IDLE] else []))
  if t.que.hadWork && (t.que.cmds.all fun c => c.slice == 0) && (t.que.accepted.all fun a => a.slice == 0) then
    ({ t with que := { t.que with hadWork := false } }).setLeaf Lf.SLC.IDLE_ALL
  else t

/-- A tag returned without its completion being written (R342). -/
def State.recoverTag (s : State) (c : Cmd) : State :=
  ((s.dropCmd c.tag).setLeaf Lf.QUE.TAG_RECOVERED).noteDrained c.slice

/-- NOTICE bits of a slice (R318). -/
def State.notice (s : State) (i : Nat) : Nat := (storeGet s.que.notices i).getD 0

/-- NOTICE bits of a slice replaced. -/
def State.setNotice (s : State) (i v : Nat) : State :=
  { s with que := { s.que with notices := storeSet s.que.notices i 0 (v % 256) } }

/-- NOTICE_EN of a slice (R318). -/
def State.noticeMask (s : State) (i : Nat) : Nat := (storeGet s.que.noticeEn i).getD 0xFF

/-- The 16 bytes of a completion entry (R316). -/
def cqEntry (c : Cmd) (phase sense : Bool) : List Byte :=
  leBytes 4 c.specific ++ leBytes 4 c.residual ++ leBytes 2 c.sqHead ++
    [BitVec.ofNat 8 c.qp, BitVec.ofNat 8 (b2n phase + 2 * b2n sense)] ++ leBytes 2 c.cid ++ leBytes 2 c.status

/-- Whether a pair's CQ is full (R324). -/
def QPair.cqFull (p : QPair) : Bool := (p.cqTail + 1) % p.depth == p.cqHead

/-- A completion written to its CQ, with the notice it raises (R316, R317, R332). -/
def State.postCompletion (s : State) (c : Cmd) (p : QPair) : State :=
  let t := s.holdSense c
  let p := (t.pair p.slice p.qp).getD p
  let e := cqEntry c p.phase (c.isMmc && !scsiGood c.status)
  let a := p.cqBase + 16 * p.cqTail
  let t := if p.loc then t.cacheStore a e else t.hostWrite c.slice a e false
  let next := (p.cqTail + 1) % p.depth
  let t := t.setPair { p with cqTail := next, phase := if next = 0 then !p.phase else p.phase }
  let t := (t.noteCompletion c).add QUE.COMPLETED 1
  let t := if bit (t.noticeMask c.slice) c.qp && !c.noNotice then
      let u := t.setNotice c.slice (t.notice c.slice ||| 2 ^ c.qp)
      if c.slice = 0 then u.setLeaf Lf.QUE.CQ_NOTICE else u
    else t
  (t.dropCmd c.tag).noteDrained c.slice

/-! ### Namespaces, ranges and conflicts (R325, R353, R382) -/

/-- The grant entry in force for a namespace: the lowest-numbered one that names it (R382). -/
def State.grantOf (s : State) (ns : Nat) : Option Nat :=
  (List.range 48).find? fun k => ns ≠ 0 && s.rd (SLC.G_NSID.at k) == ns

/-- Whether a slice may access a namespace (R378, R382). -/
def State.mayAccess (s : State) (i ns : Nat) : Bool :=
  i == 0 || match s.grantOf ns with
    | none => false
    | some k => s.mapBit (SLC.G_ACCESS_LO.at k) (SLC.G_ACCESS_HI.at k) i

/-- Whether a slice may modify a namespace (R378, R382). -/
def State.mayModify (s : State) (i ns : Nat) : Bool :=
  i == 0 || match s.grantOf ns with
    | none => false
    | some k => s.mapBit (SLC.G_ACCESS_LO.at k) (SLC.G_ACCESS_HI.at k) i &&
        s.mapBit (SLC.G_MODIFY_LO.at k) (SLC.G_MODIFY_HI.at k) i

/-- One range that a command names: a namespace, its first block, the block after its last, and whether it modifies. -/
structure Range where
  ns : Nat
  lo : Nat
  hi : Nat
  modifies : Bool
  deriving DecidableEq, Repr

/-- The end of a range that covers a whole namespace. -/
def wholeEnd : Nat := 2 ^ 64

/-- The LBA of an MSF address. -/
def msfLba (m sec f : Nat) : Nat := (m * 60 + sec) * 75 + f - 150

/-- The ranges of a command (R353). -/
def Cmd.ranges (c : Cmd) : List Range :=
  if c.status = stSpoofed then []
  else if c.isMmc then
    let d := c.cdb
    let lba := beAt d 2 4
    match c.cdbOp with
    | 0x28 => [⟨c.nsid, lba, lba + beAt d 7 2, false⟩]
    | 0xA8 => [⟨c.nsid, lba, lba + beAt d 6 4, false⟩]
    | 0xBE => [⟨c.nsid, lba, lba + beAt d 6 3, false⟩]
    | 0xB9 => [⟨c.nsid, msfLba (beAt d 3 1) (beAt d 4 1) (beAt d 5 1), msfLba (beAt d 6 1) (beAt d 7 1) (beAt d 8 1), false⟩]
    | 0x1B => if bit (beAt d 4 1) 1 then [⟨c.nsid, 0, wholeEnd, true⟩] else []
    | _ => []
  else match c.opcode with
    | 0x10 => [⟨c.nsid, c.block, c.block + c.count, false⟩]
    | 0x11 => [⟨c.nsid, c.block, c.block + c.count, true⟩]
    | 0x12 => [⟨c.nsid, c.block, c.block + c.count, true⟩]
    | 0x13 => [⟨c.nsid, c.block, c.block + c.count, false⟩, ⟨c.param 1, c.param0, c.param0 + c.count, false⟩]
    | 0x14 => [⟨c.nsid, 0, wholeEnd, true⟩]
    | 0x15 => [⟨c.nsid, 0, wholeEnd, true⟩]
    | 0x16 => [⟨c.nsid, 0, wholeEnd, true⟩]
    | 0x18 => [⟨c.nsid, c.block, c.block + c.count, true⟩, ⟨c.param 1, c.param0, c.param0 + c.count, false⟩]
    | _ => []

/-- Whether two ranges conflict (R325). -/
def Range.conflicts (a b : Range) : Bool :=
  a.ns == b.ns && (a.modifies || b.modifies) && a.lo < b.hi && b.lo < a.hi

/-- Whether two commands conflict (R325, R353). -/
def Cmd.conflicts (a b : Cmd) : Bool := a.ranges.any fun x => b.ranges.any x.conflicts

/-- Whether an earlier command of the hazard chain has not ended (R326). -/
def State.chained (s : State) (c : Cmd) : Bool :=
  s.que.cmds.any fun d => d.place < c.place && d.stage ≠ .ended && d.conflicts c

/-- Whether an earlier command of the hazard chain still holds its tag: its completion goes first (R326). -/
def State.chainedOut (s : State) (c : Cmd) : Bool :=
  s.que.cmds.any fun d => d.place < c.place && d.conflicts c

/-- Whether an entry accepted before a command is unfetched in a slice that may access its namespace (R328). -/
def State.orderHeld (s : State) (c : Cmd) : Bool :=
  s.que.accepted.any fun a => a.place < c.place && c.ranges.any fun r => s.mayAccess a.slice r.ns

/-- Whether two slices lie in one fence's scope (R329). -/
def fenceScope (fence other : Nat) : Bool := fence == 0 || fence == other

/-- Whether a fence holds a command: its own, until all accepted before it in its scope have completed, or an earlier
fence in whose scope it lies (R329). -/
def State.fenceHeld (s : State) (c : Cmd) : Bool :=
  (c.fenced && ((s.que.cmds.any fun d => d.place < c.place && fenceScope c.slice d.slice) ||
    (s.que.accepted.any fun a => a.place < c.place && fenceScope c.slice a.slice))) ||
  (s.que.cmds.any fun d => d.fenced && d.place < c.place && fenceScope d.slice c.slice)

/-! ### Ending a play (R483) -/

/-- Pages of the audio FIFO freed, all of them or one. -/
def State.freeAudio (s : State) (all : Bool) : State :=
  let l := (s.mem.owners.filter fun o => o.2 == PageUse.audio).map Prod.fst
  (if all then l else l.take 1).foldl State.freePage s

/-- The play gone: its FIFO, the sectors on their way to it and its ramps. -/
def State.playGone (s : State) : State :=
  let t := s.freeAudio true
  let t := { t with aud := { t.aud with fifo := [], pos := 0, play := none, stops := [], stopLvl := none, upLvl := none, runL := none,
                                        runR := none, goodL := none, goodR := none, inMute := false, inGap := false, noQ := 0 }
                    ecd := { t.ecd with units := t.ecd.units.filter fun u => !u.direct, ready := [] } }
  t.wr AUD.STATE 0

/-- The play ends with a status; AUDIO_STOP commands that wait end GOOD with the same SPECIFIC (R483). -/
def State.playEnd (s : State) (status : Nat) (leaves : List Leaf) : State :=
  match s.aud.play with
  | none => s
  | some p =>
    let sp := p.lastOut.getD 0xFFFFFFFF
    let st := if status = stGood && p.concealed then stConcealed else status
    let t := s.finish p.tag st sp
    let t := s.aud.stops.foldl (fun (t : State) g => t.finish g stGood sp) t
    t.playGone.setLeaves leaves

/-- The play is to end as by AUDIO_STOP: over a ramp while frames leave, else at once. Log: 124 (DEDUCED). -/
def State.playStop (s : State) (status : Nat) : State :=
  match s.aud.play with
  | none => s
  | some p =>
    if s.rd AUD.STATE = 3 && s.is AUD.MCLK_OK then
      { s with aud := { s.aud with play := some { p with ending := some (p.ending.getD status) } } }
    else s.playEnd status [Lf.AUD.PLAY_STOP]

/-- Whether a tag is the running play's. -/
def State.playsTag (s : State) (tag : Nat) : Bool := match s.aud.play with
  | some p => p.tag == tag
  | none => false

/-! ### Ending commands before their time (R314, R347, R92) -/

/-- Every command that a test picks and that has not ended, ended with a status; a play ends over its ramp, or at once
under a block's reset (R483). -/
def State.endWhere (s : State) (p : Cmd → Bool) (status : Nat) : State :=
  (s.que.cmds.filter fun c => p c && c.stage ≠ .ended).foldl (fun (t : State) c =>
    if t.playsTag c.tag then (if status = stBlockReset then t.playEnd status [] else t.playStop status)
    else (t.withdraw c.tag).finish c.tag status 0) s

/-- The abort of a queue pair starts (R314); a halted pair stays halted, which only a delete ends. Log: 85 (DEDUCED). -/
def State.abortPair (s : State) (p : QPair) (byGo : Bool) : State :=
  (s.setPair { p with state := if p.state = .halted then .halted else .aborting, byGo := p.byGo || byGo }).endWhere (fun c => c.slice == p.slice && c.qp == p.qp) stAborted

/-- Every queue pair that a test picks is deleted at once; its commands end without completions and its entries are
discarded (R90, R340, R347). -/
def State.deletePairs (s : State) (p : QPair → Bool) : State :=
  let gone := s.que.pairs.filter p
  let has := fun (sl qp : Nat) => gone.any fun q => q.slice == sl && q.qp == qp
  let t := { s with que := { s.que with pairs := s.que.pairs.filter fun q => !p q,
                                        accepted := s.que.accepted.filter fun a => !has a.slice a.qp } }
  let mine := s.que.cmds.filter fun c => has c.slice c.qp
  let t := if mine.any fun c => s.playsTag c.tag then t.playStop stAborted else t
  mine.foldl State.recoverTag t

end Sys2Proof.Machine
end

