-- ==== Sys2Proof/Machine/Servo.lean ====
section
/-! DEFINITION. The focus and tracking loops and the laser power loop, sample by sample (06_optical_loops.md). -/

namespace Sys2Proof.Machine

/-! ### Formats (R139, R142) -/

/-- A quotient as a Q1.15 number, saturating at −1 and +1 − 2^−15; a division by zero yields 0 (R139). -/
def ratioQ15 (num : Int) (den : Nat) : Int :=
  if den = 0 then 0 else clampInt (-32768) 32767 (Config.quot 1 (num * 32768) den)

/-- One biquad (R142): coefficients Q2.22, the output saturating at ±2.0; states carry 22 fraction bits. Log: 28 (DESIGN
CHOICE). -/
def biquad (c : List Int) (st : List Int) (x : Int) : Int × List Int :=
  let g := fun (l : List Int) (i : Nat) => (l[i]?).getD 0
  let acc := g c 0 * x + g c 1 * g st 0 + g c 2 * g st 1 - g c 3 * g st 2 - g c 4 * g st 3
  let y := clampInt (-(2 ^ 23)) (2 ^ 23) (Config.quot 2 acc (2 ^ 22))
  (y, [x, g st 0, y, g st 2])

/-- The five coefficients of a loop's biquad. -/
def State.coeffs (s : State) (l : Loop) (first : Nat) : List Int :=
  (List.range 5).map fun i => s.rdInt ((lf l FOC.BQ TRK.BQ).at (first + i))

/-! ### Feed-forward (R156 to R158) -/

/-- A table of 256 points read at θ, interpolated and rounded toward zero (R156). -/
def interp (at_ : Nat → Int) (theta : Nat) : Int :=
  let k := theta / 16 % 256
  let f := theta % 16
  (at_ k * 16 + (at_ ((k + 1) % 256) - at_ k) * f).tdiv 16

/-- With BEMF sense the angle is not known before ANGLE_OK (R181). Log: 41 (DEDUCED). -/
def State.angleKnown (s : State) : Bool := !s.is SPN.SENSE || s.is SPN.ANGLE_OK

/-- ff(θ) of a loop (R156, R181). -/
def State.ff (s : State) (l : Loop) (theta : Nat) : Int :=
  if s.is (lf l FOC.FF_EN TRK.FF_EN) && s.angleKnown then
    interp (fun k => s.rdInt ((lf l FOC.FF TRK.FF).at k)) theta
  else 0

/-- A point of LAST_REV; one that was never recorded is 0 (R158). -/
def LoopSt.lastAt (x : LoopSt) (k : Nat) : Int := ((x.lastRev.find? fun e => e.1 == k).map Prod.snd).getD 0

/-- Playback: LAST_REV at θ, clamped to ±DRV_MAX (R160). -/
def State.playback (s : State) (l : Loop) (theta : Nat) : Int :=
  let m : Int := s.rd (lf l FOC.DRV_MAX TRK.DRV_MAX)
  clampInt (-m) m (interp (s.loop l).lastAt theta)

/-- One sample recorded in its bin (R157, R158). -/
def LoopSt.record (x : LoopSt) (theta : Nat) (fb tot : Int) (clean : Bool) : LoopSt :=
  let k := theta / 16 % 256
  match x.bins.find? fun e => e.1 == k with
  | some (_, a, b, n, c) => { x with bins := (k, a + fb, b + tot, n + 1, c && clean) :: x.bins.filter fun e => e.1 ≠ k }
  | none => { x with bins := (k, fb, tot, 1, clean) :: x.bins }

/-! ### Holds (R159 to R162) -/

/-- SUM is below a fraction of SUM_AVG (R141). -/
def State.sumBelow (s : State) (sum : Nat) (fr : Fld) : Bool := sum * 256 < s.rd FOC.SUM_AVG * s.rd fr

/-- Segments whose widened window covers θ for a loop (R159). -/
def State.windowsAt (s : State) (l : Loop) (theta : Nat) : List Seg :=
  if s.angleKnown then s.predicted theta (s.rd (lf l FOC.LEAD TRK.LEAD)) (s.rd (lf l FOC.TRAIL TRK.TRAIL)) else []

/-- A loop enters dune hold (R159, R160). -/
def State.enterHold (s : State) (l : Loop) (theta : Nat) (pred drop : Bool) : State :=
  let t := (s.setLoopState l 5).wrAll [(lf l FOC.HOLD_PRED TRK.HOLD_PRED, b2n pred), (lf l FOC.HOLD_DROP TRK.HOLD_DROP, b2n drop)]
  let t := t.setLoop l { t.loop l with holdAt := theta, holdLow := drop, holdRun := 0, goodRun := 0, lossRun := 0 }
  let t := if pred then { t with erg := { t.erg with drops := [] } } else t
  (t.add (lf l FOC.HOLDS TRK.HOLDS) 1).setLeaf (if l = .foc then Lf.SRV.FOC_DUNE else Lf.SRV.TRK_DUNE)

/-- The filter's terms without its integrator: GAIN × y2, ff and OFFSET. -/
def State.otherTerms (s : State) (l : Loop) (theta : Nat) : Int :=
  let y2 := (((s.loop l).bq2)[2]?).getD 0
  Config.quot 3 ((s.rd (lf l FOC.GAIN TRK.GAIN) : Int) * y2) (2 ^ 22) + s.ff l theta + s.rdInt (lf l FOC.OFFSET TRK.OFFSET)

/-- The integrator preset so that the output does not step from a drive (R150, R161). -/
def State.presetInteg (s : State) (l : Loop) (u other : Int) : State :=
  s.setLoop l { s.loop l with integ := (u - other) * 256 }

/-- A loop closes: zero biquad states, the integrator preset, no runs (R150, R154). -/
def State.closeLoop (s : State) (l : Loop) (theta : Nat) : State :=
  let x := s.loop l
  let t := s.setLoop l { x with bq1 := [0, 0, 0, 0], bq2 := [0, 0, 0, 0], lossRun := 0, lockRun := 0, satRun := 0, satSeen := false }
  (t.presetInteg l x.u (s.ff l theta + s.rdInt (lf l FOC.OFFSET TRK.OFFSET))).setLoopState l 4

/-- The reports of a hold that ends (R162, R241, R242): one in which SUM fell is filed, and a predicted one is judged. Log:
34 (DEDUCED). -/
def State.reportHold (s : State) (l : Loop) : State :=
  let x := s.loop l
  let pred := s.is (lf l FOC.HOLD_PRED TRK.HOLD_PRED)
  let t := if x.holdLow && s.is DEM.ADDR_VALID then
      s.ergReport 1 (s.rd DEM.ADDR) (s.rd DEM.LAYER) x.holdAt (s.rd SPN.THETA) else s
  if pred then t.ergOutcome (t.windowsAt l x.holdAt) x.holdLow else t

/-- The hold bits cleared. -/
def State.clearHold (s : State) (l : Loop) : State :=
  s.wrAll [(lf l FOC.HOLD_PRED TRK.HOLD_PRED, 0), (lf l FOC.HOLD_DROP TRK.HOLD_DROP, 0)]

/-! ### A layer jump (R152) -/

/-- The kick begins: tracking holds its drive and reads JUMP, the focus integrator freezes. Log: 33 (DEDUCED). -/
def State.jumpStart (s : State) : State :=
  let t := (s.setLoopState .foc 6).setLoopState .trk (if s.loopState .trk = 4 || s.loopState .trk = 5 then 6 else s.loopState .trk)
  { t with opt := { t.opt with jump := some .kick, jumpRun := 0, jumpCross := false } }

/-- The jump ends in failure (R152). Log: 33 (DEDUCED). -/
def State.jumpFail (s : State) : State :=
  (({ s with opt := { s.opt with jump := none } }).goDone FOC.JUMP_GO).setLeaf Lf.SRV.LAYER_FAIL

/-- An accepted GO of JUMP_CTL acts (R152, R193). Log: 33 (DEDUCED). -/
def State.jumpGo (s : State) : State :=
  let st := s.loopState .foc
  if s.drv.layers ≠ 2 || (st ≠ 4 && st ≠ 5) then s.jumpFail
  else if st = 5 then { s with opt := { s.opt with jump := some .waiting } }
  else s.jumpStart

/-- A write of 1 to JUMP_CTL.GO by the host; while a seek runs it waits for the seek's end (R193). Log: 33 (DEDUCED). -/
def State.hostJump (s : State) : State :=
  let (t, starts) := s.goWrite FOC.JUMP_GO
  if !starts then t
  else if s.drv.seek.isSome then { t with opt := { t.opt with jumpWait := true } }
  else t.jumpGo

/-- The drive of the focus loop in a jump: base drive and the kick or the brake (R152). Log: 33 (DEDUCED). -/
def State.jumpDrive (s : State) (theta : Nat) : Int :=
  let base := (s.loop .foc).integ / 256 + s.ff .foc theta + s.rdInt FOC.OFFSET
  let k : Int := (if s.is FOC.JUMP_DIR then -1 else 1) * (s.rd FOC.KICK : Int)
  let m : Int := s.rd FOC.DRV_MAX
  clampInt (-m) m (match s.opt.jump with
    | some .kick => base + k
    | some .brake => base - k
    | _ => base)

/-! ### One sample of a loop (R142) -/

/-- The closed loop's computation: the new drive and the filter's new state. Log: 28 (DESIGN CHOICE). -/
def State.filter (s : State) (l : Loop) (theta : Nat) (e : Int) : Int × LoopSt :=
  let x := s.loop l
  let (y1, b1) := biquad (s.coeffs l 0) x.bq1 (e * 128)
  let (y2, b2) := biquad (s.coeffs l 5) x.bq2 y1
  let m : Int := s.rd (lf l FOC.DRV_MAX TRK.DRV_MAX)
  let ki : Int := s.rd (lf l FOC.KI TRK.KI)
  let lim : Int := (s.rd (lf l FOC.I_LIM TRK.I_LIM) : Int) * 256
  let stuck := (x.u = m && 0 < ki * e) || (x.u = -m && ki * e < 0)
  let integ := if stuck then x.integ else clampInt (-lim) lim (x.integ + Config.quot 4 (ki * e) (2 ^ 15))
  let p := (s.rd (lf l FOC.GAIN TRK.GAIN) : Int) * y2
  let sum := Config.quot 5 (p + integ * 2 ^ 14) (2 ^ 22)
  let u := clampInt (-m) m (sum + s.ff l theta + s.rdInt (lf l FOC.OFFSET TRK.OFFSET))
  (u, { x with bq1 := b1, bq2 := b2, integ := integ })

/-- A drive put out: DRIVE_NOW, the core result for the next update, the saturation run and the bins (R143, R157, R167). -/
def State.putDrive (s : State) (l : Loop) (theta : Nat) (e u : Int) (clean : Bool) : State :=
  let x := s.loop l
  let m : Int := s.rd (lf l FOC.DRV_MAX TRK.DRV_MAX)
  let atLim := u = m || u = -m
  let x := { x with u := u, e := some e, satRun := if atLim then x.satRun + 1 else 0, satSeen := x.satSeen && atLim }
  let t := s.setLoop l (x.record theta (u - s.ff l theta) u clean)
  let t := t.wrInt (lf l FOC.DRIVE TRK.DRIVE) u
  { t with loopResult := setAt t.loopResult (if l = Loop.foc then 0 else 1) u }

/-- A ramp moved toward an end by RATE, in 1/1,125 codes per sample (R147, R150). -/
def rampTo (r goal : Int) (rate : Nat) : Int := if r < goal then min goal (r + rate) else max goal (r - rate)

/-- The ramp of a release. -/
def State.releaseSample (s : State) (l : Loop) (theta : Nat) (e : Int) : State :=
  let x := s.loop l
  let r := rampTo x.ramp 0 (s.rd FOC.RATE)
  (s.setLoop l { x with ramp := r }).putDrive l theta e (Config.quot 6 r 1125) false

/-- A sample in a hold (R160, R161). -/
def State.holdSample (s : State) (l : Loop) (theta sum : Nat) (e : Int) : State :=
  let low := s.sumBelow sum FOC.DROP_FR
  let x := s.loop l
  let t := s.setLoop l { x with goodRun := if low then 0 else x.goodRun + 1, holdLow := x.holdLow || low, holdRun := x.holdRun + 1 }
  let t := if s.windowsAt l theta ≠ [] then t.wr (lf l FOC.HOLD_PRED TRK.HOLD_PRED) 1 else t
  let t := if low then t.wr (lf l FOC.HOLD_DROP TRK.HOLD_DROP) 1 else t
  t.putDrive l theta e (t.playback l theta) false

/-- Whether a closed loop's sample begins a hold, and by which sources (R159). -/
def State.holdSources (s : State) (l : Loop) (theta sum : Nat) : Bool × Bool :=
  if s.is (lf l FOC.HOLD_EN TRK.HOLD_EN) then (s.windowsAt l theta ≠ [], s.sumBelow sum FOC.DROP_FR) else (false, false)

/-- The mean of the SUM samples that SUM_AVG covers (R141). Log: 29 (DESIGN CHOICE). -/
def State.addSum (s : State) (sum : Nat) : State :=
  let l := (sum :: s.opt.sums).take 4096
  let avg := (Config.quot 7 (l.foldl (· + ·) 0 : Nat) l.length).toNat
  ({ s with opt := { s.opt with sums := l } }).wr FOC.SUM_AVG avg

/-- SUM_AVG seeded with the capture sample (R141). Log: 29 (DESIGN CHOICE). -/
def State.seedSum (s : State) (sum : Nat) : State := ({ s with opt := { s.opt with sums := [] } }).addSum sum

/-- The sweep of an acquisition, and its capture (R150). Log: 30 (DEDUCED). -/
def State.sweepSample (s : State) (theta sum : Nat) (e : Int) : State :=
  let x := s.opt.foc
  let lo := (s.rdInt FOC.OFFSET - s.rd FOC.SPAN) * 1125
  let hi := (s.rdInt FOC.OFFSET + s.rd FOC.SPAN) * 1125
  if x.down then
    let r := rampTo x.ramp lo (s.rd FOC.RATE)
    (s.setLoop .foc { x with ramp := r, down := r ≠ lo, sweeps := if r = lo then x.sweeps + 1 else x.sweeps }).putDrive .foc theta e
      (Config.quot 6 r 1125) false
  else if s.rd FOC.SUM_ACQ ≤ sum && (x.e.getD 0) < 0 && 0 ≤ e then
    (((s.putDrive .foc theta e x.u false).closeLoop .foc theta).seedSum sum).setLeaf Lf.SRV.FOC_ACQ
  else
    let r := rampTo x.ramp hi (s.rd FOC.RATE)
    let again := r = hi && x.sweeps < s.rd FOC.TRIES
    (s.setLoop .foc { x with ramp := r, down := again }).putDrive .foc theta e (Config.quot 6 r 1125) false

/-- One focus sample with its SUM and FE, by STATE. -/
def State.focusSample (s : State) (theta sum : Nat) (fe : Int) : State :=
  match s.loopState .foc with
  | 1 => s.releaseSample .foc theta fe
  | 3 => s.sweepSample theta sum fe
  | 4 =>
    let (pred, drop) := s.holdSources .foc theta sum
    if pred || drop then
      let t := s.enterHold .foc theta pred drop
      t.putDrive .foc theta fe (t.playback .foc theta) false
    else
      let t := s.addSum sum
      let run := if s.sumBelow sum FOC.LOSS_FR then s.opt.foc.lossRun + 1 else 0
      let (u, x) := t.filter .foc theta fe
      let t := (t.setLoop .foc { x with lossRun := run }).putDrive .foc theta fe u true
      if t.opt.jump = some .settle then
        { t with opt := { t.opt with jumpRun := if s.sumBelow sum FOC.DROP_FR then 0 else t.opt.jumpRun + 1 } }
      else t
  | 5 => s.holdSample .foc theta sum fe
  | 6 =>
    let prev := s.opt.foc.e.getD 0
    let cross := s.opt.jump = some .coast && s.rd FOC.SUM_ACQ ≤ sum && ((prev < 0 && 0 ≤ fe) || (0 < prev && fe ≤ 0))
    let t := if cross then { s with opt := { s.opt with jump := some .brake } } else s
    t.putDrive .foc theta fe (t.jumpDrive theta) false
  | _ => s.putDrive .foc theta fe 0 false

/-- The TE mode in use: 0 3BEAM, 1 DPP, 2 DPD (R140). -/
def State.teMode (s : State) : Nat :=
  if s.rd TRK.TE_MODE ≠ 3 then s.rd TRK.TE_MODE
  else
    let d := s.rd LDR.DISC
    if 1 ≤ d && d ≤ 3 then 0
    else if d = 4 || d = 5 then 2
    else if 6 ≤ d && d ≤ 9 then 1
    else if s.rd LPC.LIT = 1 then 0 else 1

/-- TE and the denominator that ERR_NOW shows (R139, R171): words A to H, and the measured phase difference. Log: 35
(DESIGN CHOICE). -/
def State.trackError (s : State) (w : List Nat) (dpd : Int) : Int × Nat :=
  let g := fun (i : Nat) => (((w[i]?).getD 0 : Nat) : Int)
  let sum := g 0 + g 1 + g 2 + g 3
  match s.teMode with
  | 0 => (ratioQ15 (g 4 - g 5) (g 4 + g 5).toNat, (g 4 + g 5).toNat)
  | 1 =>
    let main := ratioQ15 ((g 0 + g 3) - (g 1 + g 2)) sum.toNat
    let side := ratioQ15 ((g 4 + g 6) - (g 5 + g 7)) (g 4 + g 5 + g 6 + g 7).toNat
    (clampInt (-32768) 32767 (main - Config.quot 8 (Config.kDppNum * side) (Config.kDppDen + 1)), sum.toNat)
  | _ => (clampInt (-32768) 32767 dpd, 0)

/-- POS after full crossings (R153). Log: 30 (DEDUCED). -/
def State.countCross (s : State) (cross : Int) : State :=
  if s.loopState .foc = 4 || s.loopState .foc = 5 then
    s.wrInt TRK.POS (clampInt (-8388607) 8388607 (s.rdInt TRK.POS + cross))
  else s

/-- One tracking sample with its TE, by STATE; `period` is the last crossing period in µs. Log: 30 (DEDUCED). -/
def State.trackSample (s : State) (theta sum : Nat) (te cross : Int) (period : Nat) : State :=
  let x := s.opt.trk
  match s.loopState .trk with
  | 1 => s.releaseSample .trk theta te
  | 3 =>
    if s.rd TRK.PULLIN_US ≤ period && (x.e.getD 0) < 0 && 0 ≤ te then (s.putDrive .trk theta te 0 false).closeLoop .trk theta
    else s.putDrive .trk theta te 0 false
  | 4 =>
    let (pred, drop) := s.holdSources .trk theta sum
    if pred || drop then
      let t := s.enterHold .trk theta pred drop
      t.putDrive .trk theta te (t.playback .trk theta) false
    else
      let s := if cross = 0 then s
        else
          let t := (s.add TRK.SLIPS 1).setLeaf Lf.SRV.TRK_SLIP
          { t with drv := { t.drv with slip := if t.is DEM.ADDR_VALID then some ((t.rd DEM.ADDR + 1) % 2 ^ 24) else t.drv.slip } }
      let big := s.rd TRK.LOSS_FR * 128 < te.natAbs
      let lock := te.natAbs < s.rd TRK.LOCK_THR
      let (u, y) := s.filter .trk theta te
      (s.setLoop .trk { y with lossRun := if big then x.lossRun + 1 else 0, lockRun := if lock then x.lockRun + 1 else 0 }).putDrive
        .trk theta te u true
  | 5 => s.holdSample .trk theta sum te
  | 6 => s.putDrive .trk theta te x.u false
  | _ => s.putDrive .trk theta te 0 false

/-- θ at a sample: the commutation count and the elapsed fraction num ÷ den of the present interval (R181). Log: 36 (DESIGN
CHOICE). -/
def State.thetaAt (s : State) (num den : Nat) : Nat :=
  let n := 6 * s.rd SPN.POLE_PAIRS
  (4096 * (s.drv.comm % n * den + num) / (n * den) + s.drv.angleOfs) % 4096

/-- θ of a sample published; at a wrap the revolution's bins await FF_LEARN_WRAP (R157). -/
def State.noteTheta (s : State) (theta : Nat) : State :=
  let t := if theta < s.rd SPN.THETA then
      { s with opt := { s.opt with foc := { s.opt.foc with ended := some s.opt.foc.bins, bins := [] },
                                   trk := { s.opt.trk with ended := some s.opt.trk.bins, bins := [] } } }
    else s
  t.wr SPN.THETA theta

/-- The trace payload of a focus or tracking sample (R502). -/
def State.loopPayload (s : State) (l : Loop) : List Byte :=
  leBytes 2 (s.rd (lf l FOC.ERR TRK.ERR)) ++ leBytes 2 (toCode 16 (s.rdInt (lf l FOC.DRIVE TRK.DRIVE))) ++
    leBytes 2 (s.rd (lf l FOC.SUM TRK.SUM)) ++ leBytes 2 (s.rd SPN.THETA + s.loopState l * 4096)

/-- Loops sample while REFCLK runs and the analogue parts are powered (R97). -/
def State.sampling (s : State) : Bool := s.pow.phase == .run && s.pow.refclk && s.rd TIME.STATE ≤ 1

/-- FOCUS_TRACKING_SAMPLE (R139 to R162): the words A to H after offset trimming, the phase difference of DPD, the elapsed
fraction of the commutation interval, the full crossings since the last sample and the last crossing period. Log: 36
(DESIGN CHOICE). -/
def execFocusTrackingSample (w : List Nat) (dpd : Int) (num den : Nat) (cross : Int) (period : Nat) (s : State) :
    Host.Outcome State Fault Refusal :=
  if !s.sampling then done s
  else
    let theta := s.thetaAt num den
    let t := (s.noteTheta theta).commitPage 0x04
    let t := t.commitPage 0x05
    let (t, wf) := (t.mirStage 0x04).injectSample 0x04 12 w
    let (t, wt) := (t.mirStage 0x05).injectSample 0x05 12 w
    let g := fun (i : Nat) => (wf[i]?).getD 0
    let sum := g 0 + g 1 + g 2 + g 3
    let fe := ratioQ15 (((g 0 + g 2 : Nat) : Int) - ((g 1 + g 3 : Nat) : Int)) sum
    let (te, den) := t.trackError wt dpd
    let focOk := !t.pageDown 0x04
    let trkOk := !t.pageDown 0x05
    let t := if focOk then (t.wr FOC.SUM sum).wrInt FOC.ERR fe else t
    let t := if trkOk then ((t.wr TRK.SUM den).wrInt TRK.ERR te).countCross cross else t
    let t := if focOk then t.focusSample theta sum fe else t
    let t := if trkOk then t.trackSample theta sum te cross period else t
    let t := t.traceSample 0 (t.loopPayload .foc)
    done (t.traceSample 1 (t.loopPayload .trk))

/-- ACQ_SWEEP_EXHAUSTED (R150). -/
def execAcqSweepExhausted (s : State) : Host.Outcome State Fault Refusal :=
  if s.loopState .foc = 3 && s.rd FOC.TRIES ≤ s.opt.foc.sweeps then
    let t := s.setLoop .foc { s.opt.foc with latched := true }
    done (((t.loopRelease .foc).add FOC.ACQ_FAILS 1).setLeaf Lf.SRV.FOC_ACQ_FAIL)
  else done s

/-- FOCUS_LOSS (R151). -/
def execFocusLoss (s : State) : Host.Outcome State Fault Refusal :=
  if s.loopState .foc = 4 && s.rd FOC.LOSS_N ≤ s.opt.foc.lossRun then done (s.focusLost 1) else done s

/-- TRK_PULLIN_TIMEOUT (R154). -/
def execTrkPullinTimeout (s : State) : Host.Outcome State Fault Refusal :=
  if s.loopState .trk = 3 then
    done (((s.setLoop .trk { s.opt.trk with latched := true }).loopRelease .trk).setLeaf Lf.SRV.TRK_PULLIN_FAIL)
  else done s

/-- TRACKING_LOCK (R154). -/
def execTrackingLock (s : State) : Host.Outcome State Fault Refusal :=
  if s.loopState .trk = 4 && 64 ≤ s.opt.trk.lockRun && !s.is TRK.LOCKED then
    done ((s.wr TRK.LOCKED 1).setLeaf Lf.SRV.TRK_LOCK)
  else done s

/-- TRACKING_LOSS (R155). -/
def execTrackingLoss (s : State) : Host.Outcome State Fault Refusal :=
  if s.loopState .trk = 4 && s.rd TRK.LOSS_N ≤ s.opt.trk.lossRun then done ((s.loopRelease .trk).loopLoss .trk 7) else done s

/-- A hold ends and the loop goes on closed, without a step in its output; a jump that waited for it starts (R152, R161). -/
def State.holdEnd (s : State) (l : Loop) : State :=
  let theta := s.rd SPN.THETA
  let t := (s.reportHold l).clearHold l
  let t := (t.presetInteg l (t.playback l theta) (t.otherTerms l theta)).setLoopState l 4
  if l = .foc && t.opt.jump = some .waiting then t.jumpStart else t

/-- DUNE_HOLD_EXIT (R161). -/
def execDuneHoldExit (loop : Loop) (s : State) : Host.Outcome State Fault Refusal :=
  let l := if loop = .foc then Loop.foc else .trk
  if s.loopState l = 5 && s.rd (lf l FOC.RECOVER_N TRK.RECOVER_N) ≤ (s.loop l).goodRun && s.windowsAt l (s.rd SPN.THETA) = [] then
    done (s.holdEnd l)
  else done s

/-- DUNE_HOLD_MAX (R161): the loop resumes when SUM is back, and is lost with cause 2 otherwise. -/
def execDuneHoldMax (loop : Loop) (s : State) : Host.Outcome State Fault Refusal :=
  let l := if loop = .foc then Loop.foc else .trk
  if s.loopState l = 5 then
    let low := s.sumBelow (s.rd FOC.SUM) FOC.DROP_FR
    let t := s.setLeaf (if l = .foc then Lf.SRV.FOC_DUNE_LONG else Lf.SRV.TRK_DUNE_LONG)
    if !low then done (t.holdEnd l)
    else
      let t := (t.reportHold l).clearHold l
      done (if l = .foc then t.focusLost 2 else (t.loopRelease .trk).loopLoss .trk 2)
  else done s

/-- The entries that one loop learns at a wrap (R157). -/
def State.learn (s : State) (l : Loop) : State :=
  let x := s.loop l
  match x.ended with
  | none => s
  | some bins =>
    let mean := fun (v : Int) (n : Nat) => Config.quot 9 v n
    let rev := (List.range 256).map fun k => (k, match bins.find? fun e => e.1 == k with
      | some (_, _, tot, n, _) => mean tot n
      | none => x.lastAt k)
    let t := s.setLoop l { x with ended := none, lastRev := rev }
    let clean := bins.filter fun (_, _, _, _, c) => c
    if !s.is (lf l FOC.LEARN_EN TRK.LEARN_EN) || clean = [] then t
    else
      let shift := 2 ^ s.rd (lf l FOC.LEARN_SHIFT TRK.LEARN_SHIFT)
      let ff := lf l FOC.FF TRK.FF
      let t := clean.foldl (fun (t : State) (k, fb, _, n, _) =>
        t.wrInt (ff.at k) (clampInt (-8192) 8192 (t.rdInt (ff.at k) + Config.quot 10 (mean fb n) shift))) t
      let resid := clean.foldl (fun (m : Nat) (_, fb, _, n, _) => max m (mean fb n).natAbs) 0
      let t := (t.wr (lf l FOC.RESID TRK.RESID) resid).add (lf l FOC.REVS TRK.REVS) 1
      let doneRun := if resid < s.rd (lf l FOC.DONE_THR TRK.DONE_THR) then x.doneRun + 1 else 0
      let learned := s.is (lf l FOC.LEARNED TRK.LEARNED)
      let driftRun := if learned && s.rd (lf l FOC.DRIFT_THR TRK.DRIFT_THR) < resid then x.driftRun + 1 else 0
      let t := t.setLoop l { t.loop l with doneRun := doneRun, driftRun := driftRun }
      if !learned && 2 ≤ doneRun then
        (t.wr (lf l FOC.LEARNED TRK.LEARNED) 1).setLeaf (if l = .foc then Lf.SRV.FOC_FF_LEARNED else Lf.SRV.TRK_FF_LEARNED)
      else if learned && 4 ≤ driftRun then
        (t.wr (lf l FOC.LEARNED TRK.LEARNED) 0).setLeaf (if l = .foc then Lf.SRV.FOC_FF_DRIFT else Lf.SRV.TRK_FF_DRIFT)
      else t

/-- The squared difference between a revolution's tracking drive and LAST_REV turned by an offset (R181). Log: 37
(DEDUCED). -/
def LoopSt.misfit (x : LoopSt) (bins : List (Nat × Int × Int × Nat × Bool)) (ofs : Nat) : Nat :=
  bins.foldl (fun (a : Nat) (k, _, tot, n, _) =>
    a + (Config.quot 9 tot n - interp x.lastAt ((k * 16 + ofs) % 4096)).natAbs ^ 2) 0

/-- BEMF alignment at the end of the first revolution after LOCKED (R181). Log: 37 (DEDUCED). -/
def State.angleAlign (s : State) : State :=
  match s.opt.trk.ended with
  | none => s
  | some bins =>
    if !s.is SPN.SENSE || s.is SPN.ANGLE_OK || !s.drv.alignDue then s
    else
      let pp := s.rd SPN.POLE_PAIRS
      let ofs := fun (j : Nat) => (4096 * j + pp / 2) / pp
      let best := (List.range pp).foldl (fun (b : Nat) j =>
        if s.opt.trk.misfit bins (ofs j) < s.opt.trk.misfit bins (ofs b) then j else b) 0
      ({ s with drv := { s.drv with angleOfs := (s.drv.angleOfs + ofs best) % 4096, alignDue := false } }).wr SPN.ANGLE_OK 1

/-- FF_LEARN_WRAP (R157, R158, R181): θ has wrapped. -/
def execFfLearnWrap (s : State) : Host.Outcome State Fault Refusal :=
  let t := s.angleAlign
  done ((t.learn .foc).learn .trk)

/-- LAYER_JUMP_GO (R152). -/
def execLayerJumpGo (s : State) : Host.Outcome State Fault Refusal :=
  if s.pageDown 0x04 then done s else done s.hostJump

/-- LAYER_JUMP_KICK_END (R152). -/
def execLayerJumpKickEnd (s : State) : Host.Outcome State Fault Refusal :=
  if s.opt.jump = some .kick then done { s with opt := { s.opt with jump := some .coast } } else done s

/-- LAYER_JUMP_BRAKE_END (R152): the focus loop closes, and tracking pulls in. -/
def execLayerJumpBrakeEnd (s : State) : Host.Outcome State Fault Refusal :=
  if s.opt.jump = some .brake then
    let t := (s.closeLoop .foc (s.rd SPN.THETA)).setLeaf Lf.SRV.FOC_ACQ
    let t := t.seedSum (s.rd FOC.SUM)
    let t := if t.loopState .trk = 6 then t.loopStart .trk else t
    done { t with opt := { t.opt with jump := some .settle, jumpRun := 0 } }
  else done s

/-- LAYER_JUMP_TIMEOUT (R152). -/
def execLayerJumpTimeout (s : State) : Host.Outcome State Fault Refusal :=
  if s.opt.jump = some .coast then done (s.jumpFail.focusLost 1) else done s

/-- LAYER_JUMP_SETTLED (R152): a jump that the running seek asked for lets the seek go on to its verification. -/
def execLayerJumpSettled (s : State) : Host.Outcome State Fault Refusal :=
  if s.opt.jump = some .settle && 256 ≤ s.opt.jumpRun then
    let t := (({ s with opt := { s.opt with jump := none } }).goDone FOC.JUMP_GO).setLeaf Lf.SRV.LAYER_DONE
    done (if t.rd SLD.STATE = 2 then t.wr SLD.STATE 4 else t)
  else done s

/-- LOOP_RELEASE_DONE (R147). -/
def execLoopReleaseDone (loop : Loop) (s : State) : Host.Outcome State Fault Refusal :=
  let l := if loop = .foc then Loop.foc else .trk
  if s.loopState l = 1 then done (s.loopOpen l) else done s

/-! ### The laser power loop (R163 to R166) -/

/-- A field of the lit wavelength. -/
def State.wl (s : State) (f780 f650 : Fld) : Fld := if s.rd LPC.LIT = 2 then f650 else f780

/-- One 8-fraction-bit ramp step of target_now: TARGET over RAMP_US, a sample lasting 32/9 µs. -/
def State.rampStep (s : State) : Int :=
  Config.quot 11 ((s.rd (s.wl LPC.TARGET_780 LPC.TARGET_650) : Int) * 256 * 32) (9 * (s.rd LPC.RAMP_US : Int))

/-- Seconds lit and the mean drive of the last second lit, of the wavelength that is lit (R166, R172). -/
def State.noteLit (s : State) (drive : Nat) : State :=
  let second := 281250
  let red := s.rd LPC.LIT = 2
  let l := (drive :: (if red then s.opt.drv650 else s.opt.drv780)).take second
  let n := (if red then s.opt.lit650 else s.opt.lit780) + 1
  let t := s.wr (s.wl LPC.DRV_AVG_780 LPC.DRV_AVG_650) (Config.quot 12 (l.foldl (· + ·) 0 : Nat) l.length).toNat
  let t := if red then { t with opt := { t.opt with drv650 := l, lit650 := n % second } }
    else { t with opt := { t.opt with drv780 := l, lit780 := n % second } }
  if n = second then t.add (s.wl LPC.LIT_780_S LPC.LIT_650_S) 1 else t

/-- DRV_AVG above I_REF by more than DEG_FR, once per capture (R166). -/
def State.noteDegrade (s : State) : State :=
  let red := s.rd LPC.LIT = 2
  let iref := s.rd (s.wl LPC.I_REF_780 LPC.I_REF_650)
  let high := iref * (256 + s.rd LPC.DEG_FR) < s.rd (s.wl LPC.DRV_AVG_780 LPC.DRV_AVG_650) * 256
  let captured := !(if red then s.opt.cap650 else s.opt.cap780)
  if high && captured && !(if red then s.opt.deg650 else s.opt.deg780) then
    ({ s with opt := { s.opt with deg780 := s.opt.deg780 || !red, deg650 := s.opt.deg650 || red } }).setLeaf
      (if red then Lf.SRV.LPC_DEGRADE_650 else Lf.SRV.LPC_DEGRADE_780)
  else s

/-- I_REF captured at a LOCKED sample when one is due (R166). -/
def State.captureRef (s : State) (drive : Nat) : State :=
  let red := s.rd LPC.LIT = 2
  if s.rd LPC.STATE = 3 && (if red then s.opt.cap650 else s.opt.cap780) then
    let t := s.wr (s.wl LPC.I_REF_780 LPC.I_REF_650) drive
    let (t, again) := if s.is LPC.REF_CAPTURE then t.goEnd LPC.REF_CAPTURE else (t, false)
    let t := if red then { t with opt := { t.opt with cap650 := false, deg650 := false } }
      else { t with opt := { t.opt with cap780 := false, deg780 := false } }
    if again then { t with opt := { t.opt with cap780 := true, cap650 := true } } else t
  else s

/-- The laser latches off (R164). -/
def State.laserLatch (s : State) (cause : Nat) (l : Leaf) : State :=
  let t := s.laserOff cause
  (({ t with opt := { t.opt with laserLatched := true } }).add LPC.TRIPS 1).setLeaf l

/-- The trace payload of a laser sample (R502). -/
def State.lpcPayload (s : State) : List Byte :=
  leBytes 2 (s.rd LPC.MON) ++ leBytes 2 (s.rd LPC.DRIVE) ++ leBytes 2 (s.opt.target / 256).toNat ++
    leBytes 2 (s.rd LPC.STATE + s.rd LPC.LIT * 16)

/-- The computation of R163 with a corrected MON. -/
def State.laserSample (s : State) (mon : Nat) : State :=
  if s.rd (s.wl LPC.TRIP_780 LPC.TRIP_650) ≤ mon then s.laserLatch 2 Lf.SRV.LPC_TRIP
  else
    let goal : Int := (s.rd (s.wl LPC.TARGET_780 LPC.TARGET_650) : Int) * 256
    let target := match s.rd LPC.STATE with
      | 1 => min goal (s.opt.target + s.rampStep)
      | 4 => max 0 (s.opt.target - s.rampStep)
      | _ => goal
    let err := Config.quot 13 (target - (mon : Int) * 256) 256
    let m : Int := s.rd (s.wl LPC.DRV_MAX_780 LPC.DRV_MAX_650)
    let integ := clampInt 0 (m * 256) (s.opt.integ + (s.rd LPC.KI : Int) * err)
    let drive := (clampInt 0 m (Config.quot 14 ((s.rd LPC.KP : Int) * err + integ) 256)).toNat
    let tgt : Int := s.rd (s.wl LPC.TARGET_780 LPC.TARGET_650)
    let tol := tgt * s.rd LPC.TOL
    let ok := err.natAbs * 256 ≤ tol.natAbs
    let locked := s.rd LPC.STATE = 3
    let t := { s with
      opt := { s.opt with
        target := target, integ := integ, okRun := if ok then s.opt.okRun + 1 else 0
        limRun := if (drive : Int) = m && (mon : Int) * 2 < tgt then s.opt.limRun + 1 else 0
        overRun := if locked && tgt * 256 + tol < (mon : Int) * 256 then s.opt.overRun + 1 else 0
        underRun := if locked && (mon : Int) * 256 < tgt * 256 - tol then s.opt.underRun + 1 else 0 }
      loopResult := setAt s.loopResult 2 drive }
    let t := t.wr LPC.DRIVE drive
    ((t.captureRef drive).noteLit drive).noteDegrade

/-- LPC_SAMPLE (R163, R164): the raw monitor word. -/
def execLpcSample (mon : Nat) (s : State) : Host.Outcome State Fault Refusal :=
  if !s.sampling || s.pageDown 0x08 then done s
  else
    let t := s.commitPage 0x08
    let (t, w) := (t.mirStage 0x08).injectSample 0x08 12 [mon]
    let gain := t.rd (t.wl CAL.GAIN_780 CAL.GAIN_650)
    let m := (Config.quot 15 ((w.headD 0 * gain : Nat) : Int) 4096).toNat
    let t := t.wr LPC.MON (min 0xFFF m)
    let t := if t.rd LPC.STATE = 0 then t else t.laserSample m
    done (t.traceSample 2 t.lpcPayload)

/-- LASER_MON_FAIL (R164). -/
def execLaserMonFail (s : State) : Host.Outcome State Fault Refusal :=
  if s.rd LPC.STATE ≠ 0 && 64 ≤ s.opt.limRun then done (s.laserLatch 3 Lf.SRV.LPC_MON_FAIL) else done s

/-- LASER_LOCKED (R163, R170). -/
def execLaserLocked (s : State) : Host.Outcome State Fault Refusal :=
  if s.rd LPC.STATE = 2 && 64 ≤ s.opt.okRun then
    let t := s.wr LPC.STATE 3
    done (if s.opt.switched then ({ t with opt := { t.opt with switched := false } }).setLeaf Lf.SRV.LPC_SWITCHED else t)
  else done s

/-- LASER_RAMP_DONE (R163, R207): the laser is lit at TARGET, or it is off. -/
def execLaserRampDone (s : State) : Host.Outcome State Fault Refusal :=
  match s.rd LPC.STATE with
  | 1 =>
    let t := s.wr LPC.STATE 2
    done ({ t with opt := { t.opt with target := (s.rd (s.wl LPC.TARGET_780 LPC.TARGET_650) : Int) * 256, okRun := 0 } }).formatChange
  | 4 => done (s.laserOff (s.rd LPC.LAST_OFF))
  | _ => done s

/-- LPC_OVER_UNDER (R165). -/
def execLpcOverUnder (s : State) : Host.Outcome State Fault Refusal :=
  if s.rd LPC.STATE = 3 && (281 ≤ s.opt.overRun || 281 ≤ s.opt.underRun) then
    let l := if 281 ≤ s.opt.overRun then Lf.SRV.LPC_OVER else Lf.SRV.LPC_UNDER
    done ((({ s with opt := { s.opt with okRun := 0, overRun := 0, underRun := 0 } }).wr LPC.STATE 2).setLeaf l)
  else done s

/-- DAC_FAULT (R167): the loop releases at once with cause 6 and latches off. -/
def execDacFault (loop : Loop) (s : State) : Host.Outcome State Fault Refusal :=
  let l := if loop = .foc then Loop.foc else .trk
  if !s.sampling then done s
  else
    let st := s.loopState l
    let t := s.setLoop l { s.loop l with latched := true }
    let t := if st = 0 || st = 2 then t else (t.loopOpen l).loopLoss l 6
    let trk := t.loopState .trk
    let t := if l = .foc && st ≠ 0 && st ≠ 2 && trk ≠ 0 && trk ≠ 1 && trk ≠ 2 then (t.loopRelease .trk).loopLoss .trk 3 else t
    done (t.setLeaf (if l = .foc then Lf.SRV.FOC_DAC_FAULT else Lf.SRV.TRK_DAC_FAULT))

/-- DRIVE_SAT_RUN (R167). -/
def execDriveSatRun (loop : Loop) (s : State) : Host.Outcome State Fault Refusal :=
  let l := if loop = .foc then Loop.foc else .trk
  let x := s.loop l
  if 1024 ≤ x.satRun && !x.satSeen then
    done (((s.setLoop l { x with satSeen := true }).add (lf l FOC.SATS TRK.SATS) 1).setLeaf
      (if l = .foc then Lf.SRV.FOC_SAT else Lf.SRV.TRK_SAT))
  else done s

/-- A loop's feed-forward table, LAST_REV and LEARNED cleared (R158). -/
def State.ffClear (s : State) (l : Loop) : State :=
  let t := (List.range 256).foldl (fun t k => t.wr ((lf l FOC.FF TRK.FF).at k) 0) s
  let t := t.wr (lf l FOC.LEARNED TRK.LEARNED) 0
  t.setLoop l { t.loop l with lastRev := [], bins := [], ended := none, doneRun := 0, driftRun := 0 }

/-- FF_CLEAR (R158). -/
def execFfClear (loop : Loop) (s : State) : Host.Outcome State Fault Refusal :=
  let l := if loop = .foc then Loop.foc else .trk
  if s.pageDown (if l = .foc then 0x04 else 0x05) then done s else done (s.ffClear l)

/-- CROSS_CLEAR (R153). -/
def execCrossClear (s : State) : Host.Outcome State Fault Refusal :=
  if s.pageDown 0x05 then done s else done (s.wr TRK.POS 0)

/-- REF_CAPTURE written 1 (R166): I_REF is captured at the next LOCKED sample. -/
def State.refCapture (s : State) : State :=
  let t := (s.goWrite LPC.REF_CAPTURE).1
  { t with opt := { t.opt with cap780 := true, cap650 := true } }

/-- REF_CAPTURE (R166). -/
def execRefCapture (s : State) : Host.Outcome State Fault Refusal :=
  if s.pageDown 0x08 then done s else done s.refCapture

end Sys2Proof.Machine
end

