-- ==== Sys2Proof/Machine/Sha.lean ====
section
/-! DEFINITION. SHA-256, which forms the disc identity (R460). -/

namespace Sys2Proof.Machine

/-- The round constants of SHA-256. -/
def shaK : List Nat :=
  [0x428a2f98, 0x71374491, 0xb5c0fbcf, 0xe9b5dba5, 0x3956c25b, 0x59f111f1, 0x923f82a4, 0xab1c5ed5] ++
  [0xd807aa98, 0x12835b01, 0x243185be, 0x550c7dc3, 0x72be5d74, 0x80deb1fe, 0x9bdc06a7, 0xc19bf174] ++
  [0xe49b69c1, 0xefbe4786, 0x0fc19dc6, 0x240ca1cc, 0x2de92c6f, 0x4a7484aa, 0x5cb0a9dc, 0x76f988da] ++
  [0x983e5152, 0xa831c66d, 0xb00327c8, 0xbf597fc7, 0xc6e00bf3, 0xd5a79147, 0x06ca6351, 0x14292967] ++
  [0x27b70a85, 0x2e1b2138, 0x4d2c6dfc, 0x53380d13, 0x650a7354, 0x766a0abb, 0x81c2c92e, 0x92722c85] ++
  [0xa2bfe8a1, 0xa81a664b, 0xc24b8b70, 0xc76c51a3, 0xd192e819, 0xd6990624, 0xf40e3585, 0x106aa070] ++
  [0x19a4c116, 0x1e376c08, 0x2748774c, 0x34b0bcb5, 0x391c0cb3, 0x4ed8aa4a, 0x5b9cca4f, 0x682e6ff3] ++
  [0x748f82ee, 0x78a5636f, 0x84c87814, 0x8cc70208, 0x90befffa, 0xa4506ceb, 0xbef9a3f7, 0xc67178f2]

/-- The initial hash value of SHA-256. -/
def shaInit : List Nat :=
  [0x6a09e667, 0xbb67ae85, 0x3c6ef372, 0xa54ff53a, 0x510e527f, 0x9b05688c, 0x1f83d9ab, 0x5be0cd19]

/-- A 32-bit word rotated right. -/
def rotr (n v : Nat) : Nat := (v / 2 ^ n + v * 2 ^ (32 - n)) % 2 ^ 32

/-- The message schedule of a block, extended word by word to 64. -/
def shaExtend : Nat → List Nat → List Nat
  | 0, w => w
  | n + 1, w =>
    let g := fun (i : Nat) => (w[i]?).getD 0
    let i := w.length
    let a := g (i - 15)
    let b := g (i - 2)
    let s0 := rotr 7 a ^^^ rotr 18 a ^^^ (a / 2 ^ 3)
    let s1 := rotr 17 b ^^^ rotr 19 b ^^^ (b / 2 ^ 10)
    shaExtend n (w ++ [(g (i - 16) + s0 + g (i - 7) + s1) % 2 ^ 32])

/-- One round over the working variables a to h. -/
def shaRound (v : List Nat) (kw : Nat) : List Nat :=
  let g := fun (i : Nat) => (v[i]?).getD 0
  let e := g 4
  let a := g 0
  let ch := (e &&& g 5) ^^^ ((2 ^ 32 - 1 - e) &&& g 6)
  let t1 := (g 7 + (rotr 6 e ^^^ rotr 11 e ^^^ rotr 25 e) + ch + kw) % 2 ^ 32
  let maj := (a &&& g 1) ^^^ (a &&& g 2) ^^^ (g 1 &&& g 2)
  let t2 := ((rotr 2 a ^^^ rotr 13 a ^^^ rotr 22 a) + maj) % 2 ^ 32
  [(t1 + t2) % 2 ^ 32, a, g 1, g 2, (g 3 + t1) % 2 ^ 32, e, g 5, g 6]

/-- One block of 64 bytes taken into the hash. -/
def shaBlock (h : List Nat) (b : List Byte) : List Nat :=
  let w := shaExtend 48 ((List.range 16).map fun i => beAt b (4 * i) 4)
  let v := (List.range 64).foldl (fun v i => shaRound v ((shaK[i]?).getD 0 + (w[i]?).getD 0)) h
  (List.range 8).map fun i => ((h[i]?).getD 0 + (v[i]?).getD 0) % 2 ^ 32

/-- A message with its padding. -/
def shaPad (m : List Byte) : List Byte :=
  m ++ [0x80] ++ List.replicate ((119 - m.length % 64) % 64) 0 ++ beBytes 8 (8 * m.length)

/-- The 32 bytes of the digest. -/
def sha256 (m : List Byte) : List Byte :=
  let p := shaPad m
  let h := (List.range (p.length / 64)).foldl (fun h i => shaBlock h (slice p (64 * i) 64)) shaInit
  h.flatMap (beBytes 4)

end Sys2Proof.Machine
end

