-- ==== Sys2Proof/Machine/MechOps.lean ====
section
/-! DEFINITION. What loader, disc and seek events share: unit attention, pending events, the seek slot, ejects and the
loss of a disc (R184 to R193, R358, R360, R361). -/

namespace Sys2Proof.Machine

/-! ### Unit attention and pending events (R358, R361) -/

/-- The bound slices, slice 0 among them (R377). -/
def State.boundSlices (s : State) : List Nat := (List.range 64).filter s.bound

/-- A slice's unit attention flag sets: 1 after a bind or reset, 2 after a medium change, which the former outlasts (R358). -/
def State.setUa (s : State) (i why : Nat) : State :=
  let x := s.sl i
  let t := s.setSl { x with ua := if x.ua = 1 then 1 else why }
  (t.setMapBit CMD.UA_MAP_LO CMD.UA_MAP_HI i true).setLeaf Lf.CMD.UNIT_ATTENTION

/-- The leaf of an event class (R361). -/
def eventLeaf : Nat → Leaf
  | 1 => Lf.CMD.OPER_EVENT | 2 => Lf.CMD.POWER_EVENT | 3 => Lf.CMD.EXT_REQ_EVENT | 4 => Lf.CMD.MEDIA_EVENT
  | _ => Lf.CMD.BUSY_EVENT

/-- An event of a class posted to every bound slice, replacing an unreported one (R361). Log: 45 (PRESUMED). -/
def State.postEvent (s : State) (cls code : Nat) : State :=
  let t := s.boundSlices.foldl (fun (t : State) i =>
    let x := t.sl i
    t.setSl { x with events := (cls, code) :: x.events.filter fun e => e.1 ≠ cls }) s
  t.setLeaf (eventLeaf cls)

/-- The profile of LDR DISC (R360). -/
def profileOf : Nat → Nat
  | 1 => 0x0008 | 2 => 0x0009 | 3 => 0x000A | 4 => 0x0010 | 5 => 0x0010 | 6 => 0x0011 | 7 => 0x0014 | 8 => 0x001B
  | 9 => 0x001A | _ => 0x0000

/-- CMD.CONFIG_CHANGED when the current profile changes (R360). -/
def State.noteProfile (s : State) : State :=
  let p := profileOf (s.rd LDR.DISC)
  if p = s.que.profile then s else ({ s with que := { s.que with profile := p } }).setLeaf Lf.CMD.CONFIG_CHANGED

/-! ### Cached sectors and the disc's identity -/

/-- Cached sectors that a test picks are dropped; pages that hold none any more are freed (R338). -/
def State.dropCached (s : State) (p : Cached → Bool) : State :=
  let t := { s with mem := { s.mem with sectors := s.mem.sectors.filter fun c => !p c } }
  let used := fun (g : Nat) => t.mem.sectors.any fun c => c.off / 0x1000 == g
  ((t.mem.owners.filter fun o => o.2 == .cache && !used o.1).map Prod.fst).foldl State.freePage t

/-- The identity gone: nothing is advertised or borrowed under it (R460). -/
def State.dropIdent (s : State) : State :=
  let t := { s with drv := { s.drv with discId := none, lastId := if s.drv.discId = none then s.drv.lastId else s.drv.discId } }
  (List.range 4).foldl (fun t k => t.wr (RYL.IDENT.at k) 0) (t.wrAll [(RYL.PARTIAL, 0), (RYL.ID_OK, 0)])

/-- MEDIA_CHANGE (R190, R191, R338, R358). Log: 45 (PRESUMED). -/
def State.mediaChange (s : State) : State :=
  let t := (s.add LDR.CHANGES 1).setLeaf Lf.LDR.MEDIA_CHANGE
  let t := t.dropCached fun c => c.ns == 1
  t.boundSlices.foldl (fun t i => t.setUa i 2) t

/-- An Erg map saved under the identity when SAVE_EN is 1 and the library is mounted (R243). -/
def State.ergSave (s : State) : State :=
  match s.drv.discId with
  | none => s
  | some d =>
    if s.is ERG.SAVE_EN && s.rd OAS.STATE = 4 then
      ({ s with maps := { ident := d, segs := s.erg.segs } :: s.maps.filter fun m => m.ident ≠ d }).setLeaf Lf.ERG.MAP_SAVED
    else s

/-- The disc is absent (R158, R183, R191, R243, R361). -/
def State.discAbsent (s : State) : State :=
  let t := s.wrAll [(LDR.DISC, 0), (LDR.BLANK, 0), (LDR.UPSIDE, 0), (DEM.ADDR_VALID, 0), (ERG.LEARNED, 0)]
  let t := { t with drv := { t.drv with unbal := 0, ripples := 0, demand := false, toc := {}, layers := 0, otp := false } }
  let t := ((t.ffClear .foc).ffClear .trk).ergEmpty.setLeaf Lf.ERG.MAP_CLEARED
  let t := (t.dropIdent.noteProfile.setLeaf Lf.LDR.DISC_ABSENT).mediaChange
  t.postEvent 4 3

/-! ### The seek slot (R184, R188) -/

/-- A seek asked for by disc work; a second request for the same target joins the first. -/
def State.askSeek (s : State) (a layer : Nat) : State :=
  let r : SeekReq := { byGo := false, addr := a % 2 ^ 24, layer := layer }
  if s.drv.seek = some r || s.drv.seeks.contains r then s else { s with drv := { s.drv with seeks := s.drv.seeks ++ [r] } }

/-- The end of the running seek: its slot is free, its GO field ends, and a host jump that waited acts (R184, R193). -/
def State.seekEnd (s : State) (result : Nat) (l : Leaf) : State :=
  match s.drv.seek with
  | none => s
  | some r =>
    let t := s.wrAll [(SLD.STATE, 0), (SLD.LAST_RESULT, result)]
    let t := { t with drv := { t.drv with seek := none, seekAbort := false, fixing := false, slip := none } }
    let t := if r.byGo then
        let (u, again) := t.goEnd SLD.SEEK_GO
        if again then { u with drv := { u.drv with seeks := u.drv.seeks ++ [{ byGo := true, addr := u.rd SLD.TARGET, layer := u.rd SLD.LAYER }] } }
        else u
      else t
    let t := if result = 2 then t.add SLD.FAILS 1 else t
    let t := t.setLeaf l
    if t.opt.jumpWait then ({ t with opt := { t.opt with jumpWait := false } }).jumpGo else t

/-- The running seek aborted at its step boundary (R188). -/
def State.seekAborted (s : State) : State := s.seekEnd 3 Lf.MOT.SLD_ABORTED

/-! ### The loader (R189, R190) -/

/-- LDR_LIM_A and LDR_LIM_B active by their polarity. -/
def State.limAct (s : State) (b : Bool) : Bool :=
  let pol := bit (s.rd LDR.LIM_POL) (if b then 1 else 0)
  (if b then s.drv.limB else s.drv.limA) == pol

/-- STATE from the limits (R194). Log: 44 (DEDUCED). -/
def State.loaderRecompute (s : State) : State :=
  let a := s.limAct false
  let b := s.limAct true
  s.wr LDR.STATE (if a && !b then 3 else if b && !a then 1 else 0)

/-- The bridge is driven. -/
def State.loaderMoving (s : State) : Bool := s.rd LDR.STATE = 2 || s.rd LDR.STATE = 4

/-- Motion outward (R189). -/
def State.moveOut (s : State) : State := { s.wr LDR.STATE 4 with drv := { s.drv with outward := true } }

/-- Motion inward (R189). -/
def State.moveIn (s : State) : State := { s.wr LDR.STATE 2 with drv := { s.drv with outward := false } }

/-- The end of a loader GO field whose motion has ended; one that waited retries from FAULT, and is illegal elsewhere (R45,
R189). Log: 44 (DEDUCED). -/
def State.loaderEndOf (s : State) (f : Fld) (retry : State → State) : State :=
  if !s.is f then s
  else
    let (t, again) := s.goEnd f
    if !again then t else if t.rd LDR.STATE = 7 then retry t else (t.goDone f).setLeaf Lf.LDR.STATE_ERR

/-- Loader GO fields whose motion has ended. Log: 44 (DEDUCED). -/
def State.loaderGoEnd (s : State) : State :=
  (s.loaderEndOf LDR.OPEN fun t => ((t.setLeaf Lf.LDR.EJECT_REQ).postEvent 3 3).moveOut).loaderEndOf LDR.CLOSE fun t =>
    (t.add LDR.LOADS 1).moveIn

/-- Detection begins (R189, R191): it demands spin (R178), toward the rpm of its first step in RPM mode. Log: 46 (DEDUCED). -/
def State.detectStart (s : State) : State :=
  let rpm := min (s.rd SPN.RPM_MAX) detectRpm
  let t := s.wrAll [(LDR.STATE, 5), (SPN.RATE_MODE, 0)]
  let t := if s.rd SPN.STATE = 3 && rpmMoved s.drv.target rpm then t.wr SPN.STATE 4 else t
  { t with drv := { t.drv with detect := 1, demand := true, parked := false, target := rpm } }

/-- The accumulator and what waits for it freed: AVERAGE no longer works (R245, R248). -/
def State.avgFree (s : State) : State :=
  let t := { s with avg := {}, mem := { s.mem with wait := s.mem.wait.filter fun (r : PageReq) => r.use != PageUse.accum } }
  let t := ((t.mem.owners.filter fun (o : Nat × PageUse) => o.2 == PageUse.accum).map Prod.fst).foldl State.freePage t
  t.wrAll [(AVG.HELD, 0), (AVG.BUSY, 0), (AVG.STATE, 0)]

/-! ### The mechanism and power (R102, R105, R108, R110) -/

/-- Disc work restarts the mechanism: it is no longer parked, and a disc in the drive demands spin. Log: 19 (DEDUCED). -/
def State.mechRestart (s : State) : State :=
  { s with drv := { s.drv with parked := false, demand := s.drv.demand || s.rd LDR.STATE = 6 || s.rd LDR.STATE = 5 } }

/-- A DOZE entry parks the mechanism: the permits fall with the entry, and the spindle brakes (R102). Log: 19 (DEDUCED). -/
def State.dozePark (s : State) : State := { s with drv := { s.drv with demand := false } }

/-- A power failure: the laser, the loops and the motors follow from POWER_FAIL_N; the loader's drive goes off (R108, R193). -/
def State.mechSafe (s : State) : State :=
  { s with drv := { s.drv with moveHeld := s.loaderMoving } }

end Sys2Proof.Machine
end

