-- ==== Sys2Proof/Machine/OasOps.lean ====
section
/-! DEFINITION. Discovery, counts, the library map, commits, the shadow store and mounts as shared operations
(15_oasis_library.md). -/

namespace Sys2Proof.Machine

/-! ### Discovery (R404, R405, R426) -/

/-- Whether a part lies inside the subset of R404. -/
def nandFits (p : NandPart) : Bool :=
  p.dies ≤ 4 && p.dataBytes = 16384 && 2144 ≤ p.spare && 64 ≤ p.pages && p.pages ≤ 1024 && 1024 ≤ p.blocks &&
    p.tprogUs ≤ 1200 && p.trUs ≤ 200 && p.tbersMs ≤ 10

/-- The part of a chip enable that may be used. -/
def nandUsable : NandFind → Option NandPart
  | .part p => if nandFits p then some p else none
  | _ => none

/-- Whether two parts report one geometry. -/
def sameGeom (p q : NandPart) : Bool := p.dies == q.dies && p.blocks == q.blocks && p.pages == q.pages && p.spare == q.spare

/-- Dies in index order until their raw capacity totals 1 TiB (R404). -/
def takeDies (cap : Nat) : Nat → List Nat → List Nat
  | _, [] => []
  | used, d :: r => if 2 ^ 40 ≤ used then [] else d :: takeDies cap (used + cap) r

/-- The part in use and its dies (R405): the die index is 4 × chip enable + die (R81). -/
def nandSelect (ce0 ce1 : NandFind) : Option (NandPart × List Nat) :=
  let at0 := fun (p : NandPart) => List.range p.dies
  let at1 := fun (p : NandPart) => (List.range p.dies).map (4 + ·)
  let cut := fun (p : NandPart) (l : List Nat) => some (p, takeDies (p.blocks * p.pages * 16384) 0 l)
  match nandUsable ce0, nandUsable ce1 with
  | none, none => none
  | some p, none => cut p (at0 p)
  | none, some q => cut q (at1 q)
  | some p, some q =>
    if sameGeom p q then cut { p with failModes := p.failModes ++ q.failModes } (at0 p ++ at1 q) else cut p (at0 p)

/-- The timing modes that may be tried, highest first (R405). -/
def State.nandModes (s : State) (p : NandPart) : List (Bool × Nat) :=
  let lim := s.rd OAS.TIMING_MAX
  let down := fun (ddr : Bool) (m : Nat) => ((List.range (min m lim + 1)).reverse).map fun k => (ddr, k)
  (match p.ddrMax with
    | some m => if s.is OAS.IFACE then down true m else []
    | none => []) ++ down false p.sdrMax

/-- A NAND island cycle in ns: the clock of an NV-DDR mode, or the read cycle of an SDR mode, by ONFI. Log: 105 (PRESUMED). -/
def nandCycle : Bool × Nat → Nat
  | (true, m) => ([50, 30, 20, 15, 12, 10][m]?).getD 10
  | (false, m) => ([100, 50, 35, 30, 25, 20][m]?).getD 20

/-- A page transfer in ns (R432). Log: 105 (PRESUMED). -/
def transferNs (mode : Bool × Nat) : Nat := (if mode.1 then 9300 else 18564) * nandCycle mode

/-- The geometry and times shown for the part in use. -/
def State.showPart (s : State) : State :=
  match s.nand.part with
  | none => s
  | some p =>
    let modes := s.nandModes p
    let mode := (modes.find? fun m => !p.failModes.contains m).getD (false, 0)
    s.wrAll [(OAS.DIES, s.nand.dies.length), (OAS.DDR, b2n mode.1), (OAS.MODE, mode.2), (OAS.BLOCKS_PER_DIE, p.blocks),
      (OAS.PAGES_PER_BLOCK, p.pages), (OAS.TR_US, p.trUs), (OAS.TPROG_US, p.tprogUs), (OAS.SPARE_BYTES, p.spare),
      (OAS.TBERS_MS, p.tbersMs), (OAS.FLUSH_BOUND_US, ceilDiv (3 * transferNs mode + 2000 * p.tprogUs) 1000)]

/-- Discovery (R405): leaves, geometry, timing mode, and the flush bound of R426. Log: 141 (DESIGN CHOICE). -/
def State.nandDiscover (s : State) (ce0 ce1 : NandFind) : State :=
  let bad := ce0 = .paramBad || ce1 = .paramBad
  match nandSelect ce0 ce1 with
  | none => ({ s with nand := { s.nand with part := none, dies := [] } }.wr OAS.STATE 0).leafIf bad Lf.NAND.PARAM_CRC
  | some (p, dies) =>
    let t := { s with nand := { s.nand with part := some p, dies := dies } }.showPart.wr OAS.STATE 2
    let fell := ((t.nandModes p).head?.map p.failModes.contains).getD false
    t.setLeaves ((if bad then [Lf.NAND.PARAM_CRC] else []) ++ (if fell then [Lf.NAND.TIMING_FALLBACK] else []))

/-! ### Blocks, spares and space (R410, R415) -/

/-- A value kept by die and block; an unlisted one is 0. -/
def dbGet (l : List ((Nat × Nat) × Nat)) (d b : Nat) : Nat := ((l.find? fun e => e.1 == (d, b)).map Prod.snd).getD 0

/-- A value kept by die and block replaced. -/
def dbSet (l : List ((Nat × Nat) × Nat)) (d b v : Nat) : List ((Nat × Nat) × Nat) :=
  let r := l.filter fun e => e.1 ≠ (d, b)
  if v = 0 then r else sortBy (fun e => e.1.1 * 2 ^ 16 + e.1.2) (((d, b), v) :: r)

/-- The present geometry. -/
def State.geomNow (s : State) : Nat × Nat × Nat := (s.rd OAS.DIES, s.rd OAS.BLOCKS_PER_DIE, s.rd OAS.PAGES_PER_BLOCK)

/-- Blocks of a die that were good at the format: not factory bad. -/
def State.dieGood (s : State) (d : Nat) : Nat := s.rd OAS.BLOCKS_PER_DIE - (s.nand.bad.filter fun b => b.1 == d).length

/-- Spares of a die: 2 %, and at least 8 (R410). -/
def State.dieSpares (s : State) (d : Nat) : Nat := max 8 (Config.quot 70 (2 * s.dieGood d : Nat) 100).toNat

/-- Spares of a die not used yet. -/
def State.sparesLeft (s : State) (d : Nat) : Nat :=
  s.dieSpares d - ((s.nand.sparesUsed.find? fun e => e.1 == d).map Prod.snd).getD 0

/-- Free blocks of a die: good, not held as spares, and with nothing programmed since their erase. -/
def State.dieFree (s : State) (d : Nat) : Nat :=
  s.dieGood d - s.sparesLeft d - (s.nand.ptrs.filter fun e => e.1.1 == d).length

/-- USABLE_SECTORS (R415). Log: 107 (DEDUCED). -/
def State.usable (s : State) : Nat :=
  let good := (s.nand.dies.map s.dieGood).foldl (· + ·) 0
  let spares := (s.nand.dies.map s.dieSpares).foldl (· + ·) 0
  let raw := (good - spares - Config.systemBlocks) * s.rd OAS.PAGES_PER_BLOCK * 8
  (Config.quot 71 (raw * (100 - s.rd OAS.OP_PCT) : Nat) 100).toNat - s.rd OAS.SHADOW_MIB * 512

/-- The sum of the sizes in force. -/
def State.assigned (s : State) : Nat := ((List.range 16).map fun k => s.rd (OAS.NS_SIZE.at k)).foldl (· + ·) 0

/-- The counts of space, blocks and erases, with the leaves that they cross (R412, R415, R437). Log: 107 (DEDUCED). -/
def State.oasCounts (s : State) : State :=
  if s.rd OAS.STATE ≠ 4 then s
  else
    let n := s.nand
    let usable := s.usable
    let free := usable - n.lib.length
    let most := (n.erases.map Prod.snd).foldl max 0
    let sum := (n.erases.map Prod.snd).foldl (· + ·) 0
    let blocks := n.dies.length * s.rd OAS.BLOCKS_PER_DIE
    let t := s.wrAll [(OAS.USABLE_SECTORS, usable), (OAS.FREE_SECTORS, free),
      (OAS.FREE_BLOCKS, min 0xFFFF ((n.dies.map s.dieFree).foldl (· + ·) 0)),
      (OAS.SPARE_BLOCKS, min 0xFFFF ((n.dies.map s.sparesLeft).foldl (· + ·) 0)), (OAS.ERASE_MAX, min 0xFFFF most),
      (OAS.ERASE_AVG, min 0xFFFF (Config.quot 72 (sum : Nat) blocks).toNat), (OAS.LIB_ID, n.libId),
      (OAS.SEQ_LO, n.committed % 2 ^ 32), (OAS.SEQ_HI, n.committed / 2 ^ 32 % 2 ^ 16)]
    let low := fun (u : State) => u.rd OAS.FREE_SECTORS * 100 < u.rd OAS.SPACE_LOW_PCT * u.rd OAS.USABLE_SECTORS
    let life := (n.part.map NandPart.endurance).getD 0
    let worn := fun (u : State) => u.rd OAS.WEAR_PCT * life < 100 * u.rd OAS.ERASE_MAX
    t.setLeaves ((if low t && !low s then [Lf.OAS.SPACE_LOW] else []) ++ (if worn t && !worn s then [Lf.OAS.WEAR_HIGH] else []))

/-- A block's pointer replaced (R417). -/
def State.setPtr (s : State) (d b p : Nat) : State := { s with nand := { s.nand with ptrs := dbSet s.nand.ptrs d b p } }

/-- A block erased: its pointer returns to 0 and its erase is counted. Log: 111 (DEDUCED). -/
def State.erased (s : State) (d b : Nat) : State :=
  { s with nand := { s.nand with ptrs := dbSet s.nand.ptrs d b 0, erases := dbSet s.nand.erases d b (dbGet s.nand.erases d b + 1) } }

/-- Whether a block's pointer is known: always while mounted (R417, R419). -/
def State.ptrKnown (s : State) (d b : Nat) : Bool := s.rd OAS.STATE == 4 || s.lib.known.contains (d, b)

/-! ### Failures (R411, R412) -/

/-- The run of failed operations of a die. -/
def State.failRunOf (s : State) (d : Nat) : Nat := ((s.lib.failRun.find? fun e => e.1 == d).map Prod.snd).getD 0

/-- A die fails: it is not addressed again until the next mount (R412). -/
def State.dieFail (s : State) (d : Nat) : State :=
  if s.lib.dead.contains d then s
  else ({ s with lib := { s.lib with dead := s.lib.dead ++ [d] } }).setLeaf (Lf.NAND.DIE_FAIL_0.plus d)

/-- An operation of a die ended well or ill; 16 ill ones in a row fail the die (R412). -/
def State.dieOp (s : State) (d : Nat) (ok : Bool) : State :=
  let n := if ok then 0 else s.failRunOf d + 1
  let t := { s with lib := { s.lib with failRun := (d, n) :: s.lib.failRun.filter fun e => e.1 ≠ d } }
  if 16 ≤ n then t.dieFail d else t

/-- A block retired after a failure, a spare in its place; `false` when the die has none (R411). -/
def State.retire (s : State) (d b : Nat) : State × Bool :=
  let had := s.sparesLeft d
  let t := { s with nand := { s.nand with bad := s.nand.bad ++ [(d, b)] } }
  let t := (t.add OAS.GROWN_BAD 1).setLeaf Lf.NAND.BAD_BLOCK_NEW
  if had = 0 then (t, false)
  else
    let used := ((s.nand.sparesUsed.find? fun e => e.1 == d).map Prod.snd).getD 0
    let t := { t with nand := { t.nand with sparesUsed := (d, used + 1) :: t.nand.sparesUsed.filter fun e => e.1 ≠ d } }
    let thr := s.rd OAS.SPARE_LOW_THR
    ((t.leafIf (thr ≤ had && had - 1 < thr) Lf.OAS.SPARE_LOW).oasCounts, true)

/-! ### The map and commits (R416, R420 to R423) -/

/-- The newest committed copy of a block. -/
def State.libGet (s : State) (ns block : Nat) : Option LibBlock := s.nand.lib.find? fun b => b.ns == ns && b.block == block

/-- A committed copy put into the map. -/
def Nand.put (n : Nand) (b : LibBlock) : Nand :=
  { n with lib := (n.lib.filter fun c => !(c.ns == b.ns && c.block == b.block)) ++ [b] }

/-- Sectors `from_` to `from_ + k - 1` of a write committed. -/
def Nand.commitSectors (n : Nand) (w : LibWrite) (from_ k die : Nat) : Nand :=
  (List.range k).foldl (fun n i =>
    n.put { ns := w.ns, block := w.block + from_ + i, seq := w.seq, die := die, data := slice w.data (2048 * (from_ + i)) 2048 }) n

/-- Sectors of a write committed, and the cached copies of their blocks replaced (R337). -/
def State.commitSectors (s : State) (w : LibWrite) (from_ k die : Nat) : State :=
  (List.range k).foldl (fun t i => t.recache (0x10 + w.ns) (w.block + from_ + i) (slice w.data (2048 * (from_ + i)) 2048))
    { s with nand := s.nand.commitSectors w from_ k die }

/-- A write replaced by its sequence number. -/
def Nand.setWrite (n : Nand) (w : LibWrite) : Nand := { n with writes := n.writes.map fun v => if v.seq == w.seq then w else v }

/-- The running write of a tag. -/
def State.writeOf (s : State) (tag : Nat) : Option LibWrite :=
  (s.nand.writes.find? fun w => w.live && w.tag == tag).filter fun _ =>
    s.que.cmds.any fun c => c.tag == tag && c.stage ≠ .ended

/-- A write has committed whole: it leaves the list, COMMITS counts it, and its command ends (R421, R422). -/
def State.writeDone (s : State) (w : LibWrite) : State :=
  let t := { s with nand := { s.nand with writes := s.nand.writes.filter fun v => v.seq ≠ w.seq,
                                          committed := max s.nand.committed w.seq } }
  let t := (t.add OAS.COMMITS 1).oasCounts
  t.finishFull w.tag w.status w.specific w.residual none

/-- An atomic write or a trim commits by its record (R416, R421). Log: 110 (DEDUCED). -/
def State.commitAtomic (s : State) (w : LibWrite) : State :=
  let inRange := fun (ns b : Nat) => ns == w.ns && w.block ≤ b && b < w.block + w.count
  let t := if w.trim then
      ({ s with nand := { s.nand with lib := s.nand.lib.filter fun b => !inRange b.ns b.block } }).dropCached fun c =>
        0x10 ≤ c.ns && inRange (c.ns - 0x10) c.block
    else s.commitSectors w 0 w.count w.die
  t.writeDone w

/-- A journal page programmed: every atomic write whose data pages have all programmed commits, at most 1,024 (R421). -/
def State.journal (s : State) (mark : Nat) : State :=
  let ready := (s.nand.writes.filter fun w => (s.writeOf w.tag == some w) && (w.trim || (w.atomic && w.programmed == w.count))).take 1024
  ready.foldl State.commitAtomic { s with nand := { s.nand with mark := mark } }

/-- A write or trim started under the next sequence number (R420); its pages are units of the NAND engine (R432). Log: 110
(DEDUCED). -/
def State.startWrite (s : State) (c : Cmd) (w : LibWrite) : State :=
  let w := { w with seq := s.nand.seq + 1, tag := c.tag }
  let t := { s with nand := { s.nand with seq := s.nand.seq + 1, writes := s.nand.writes ++ [w] } }
  t.request 1 { slice := c.slice, tag := c.tag, credits := 1, units := if w.trim then 1 else ceilDiv w.count 8, bytes := 0, since := some s.elapsed }

/-! ### The shadow store (R234, R239, R428 to R430) -/

/-- The shadowed copy of a sector of an identity, while the library is mounted. -/
def State.shadowGet (s : State) (ident : List Byte) (layer addr : Nat) : Option ShadowSec :=
  if s.rd OAS.STATE ≠ 4 then none
  else s.nand.shadow.find? fun x => x.ident == ident && x.layer == layer && x.addr == addr

/-- The shadowed copy of a sector of the disc in the drive. Log: 109 (DEDUCED). -/
def State.shadowNow (s : State) (layer addr : Nat) : Option ShadowSec :=
  match s.drv.discId with
  | none => none
  | some d => s.shadowGet d layer addr

/-- A recovered sector queued for the shadow store, or skipped (R239). -/
def State.queueShadow (s : State) (layer addr : Nat) (data : List Byte) : State :=
  match s.drv.discId with
  | none => (s.add ECD.SHADOW_SKIPPED 1).setLeaf Lf.ECC.SHADOW_SKIP
  | some d =>
    if s.rd OAS.STATE ≠ 4 then (s.add ECD.SHADOW_SKIPPED 1).setLeaf Lf.ECC.SHADOW_SKIP
    else
      let x : ShadowSec := { ident := d, layer := layer, addr := addr, dvd := s.isDvd, data := data }
      ({ s with lib := { s.lib with shadowQ := s.lib.shadowQ ++ [x] } }.add ECD.SHADOW_QUEUED 1).setLeaf Lf.ECC.SHADOW_QUEUED

/-- Shadow sectors that the store holds at most: two 2 KiB slots each (R428). Log: 109 (DEDUCED). -/
def State.shadowCap (s : State) : Nat := s.rd OAS.SHADOW_MIB * 512 / 2

/-- A queued sector refused by the store (R429). -/
def State.shadowRefuse (s : State) : State := (s.add ECD.SHADOW_SKIPPED 1).setLeaf Lf.ECC.SHADOW_SKIP

/-- A sector put into the shadow store, evicting the oldest of other identities when it is full (R428, R429, R435). -/
def State.shadowPut (s : State) (x : ShadowSec) : State :=
  let n := s.nand
  if n.shadow.any fun y => y.ident == x.ident && y.layer == x.layer && y.addr == x.addr then s
  else if s.rd OAS.STATE ≠ 4 && s.rd OAS.STATE ≠ 5 then s.shadowRefuse
  else if 16384 ≤ (n.shadow.filter fun y => y.ident == x.ident).length then s.shadowRefuse
  else
    let full := s.shadowCap ≤ n.shadow.length
    let victim := if full && s.is OAS.SHADOW_EVICT then n.shadow.find? fun y => some y.ident ≠ s.drv.discId else none
    let t := match victim with
      | some v => (({ s with nand := { n with shadow := n.shadow.filter (· ≠ v) } }).add OAS.SHADOW_EVICTS 1).setLeaf Lf.OAS.SHADOW_EVICT
      | none => s
    if full && victim.isNone then s.shadowRefuse
    else
      let t := { t with nand := { t.nand with shadow := t.nand.shadow ++ [x] } }
      if t.shadowCap ≤ t.nand.shadow.length && !t.lib.shadowFull then
        ({ t with lib := { t.lib with shadowFull := true } }).setLeaf Lf.OAS.SHADOW_FULL
      else t

/-! ### Formats and mounts (R414, R424, R425) -/

/-- The sizes in force shown, as the library holds them. -/
def State.showSizes (s : State) : State :=
  (List.range 16).foldl (fun t k => t.wr (OAS.NS_SIZE.at k) (((s.nand.sizes.find? fun e => e.1 == k).map Prod.snd).getD 0)) s

/-- Namespace `k` formatted: its blocks become unwritten and its size takes the smaller of NS_SECTORS and what is
unassigned (R414). -/
def State.formatNs (s : State) (k : Nat) : State :=
  let room := s.usable - (s.assigned - s.rd (OAS.NS_SIZE.at k))
  let size := min (s.rd (OAS.NS_SECTORS.at k)) room
  let t := s.wr (OAS.NS_SIZE.at k) size
  ({ t with nand := { t.nand with lib := t.nand.lib.filter fun b => b.ns ≠ k, mark := 0,
                                  sizes := (k, size) :: t.nand.sizes.filter fun e => e.1 ≠ k } }).oasCounts

/-- A full format: every good block is erased and the system area written anew; the library is mounted (R410, R414). Log:
140 (DESIGN CHOICE). -/
def State.formatAll (s : State) (bad : List (Nat × Nat)) : State :=
  let (id, s) := s.free (2 ^ 32)
  let n := s.nand
  let blocks := n.dies.flatMap fun d => (List.range (s.rd OAS.BLOCKS_PER_DIE)).map fun b => (d, b)
  let good := blocks.filter fun e => !bad.contains e
  let t := { s with nand := { n with formatted := true, libId := id, geom := s.geomNow, sizes := [], lib := [], writes := [],
                                     mark := 0, shadow := [], ptrs := [], bad := bad, sparesUsed := [],
                                     erases := good.map fun e => (e, dbGet n.erases e.1 e.2 + 1) }
                    maps := []
                    lib := { s.lib with dead := [], failRun := [], shadowFull := false } }
  (t.wr OAS.STATE 4).showSizes.oasCounts

/-- A mount starts (R424). -/
def State.mountStart (s : State) : State := s.wr OAS.STATE 3

/-- A mount ends (R424, R425, R113): `noSuper` says that no superblock was found valid, and `fail` stands for a failure
that is neither that nor a changed geometry. Log: 110 (DEDUCED). -/
def State.mountEnd (s : State) (noSuper fail : Bool) : State :=
  let n := s.nand
  if !n.formatted || noSuper then (s.wr OAS.STATE 1).setLeaf Lf.OAS.FORMAT_NEEDED
  else if n.geom ≠ s.geomNow then (s.wr OAS.STATE 6).setLeaf Lf.OAS.GEOMETRY_CHANGE
  else if fail then (s.wr OAS.STATE 6).setLeaf Lf.OAS.MOUNT_FAIL
  else
    let torn := (n.writes.filter fun w => w.atomic && 0 < w.programmed).length
    let t := { s with nand := { n with writes := [] }, lib := { s.lib with dead := [], failRun := [], known := [] } }
    let t := if torn = 0 then t else (t.add OAS.TORN torn).setLeaf Lf.OAS.TORN_DISCARDED
    let t := (t.setLeaf Lf.OAS.REPLAY_DONE).setLeaf Lf.SYS.RECOVERY_DONE
    let t := t.leafIf (n.mark = 0) Lf.PWR.FLUSH_SHORT
    ((t.wr OAS.STATE 4).showSizes.oasCounts).setLeaf Lf.OAS.MOUNT_DONE

/-! ### Power and resets (R108, R110, R424, R426, R434) -/

/-- The NAND island started: discovery, and the mount when MOUNT_AUTO is 1 (R86, R424). -/
def State.oasStart (s : State) (ce0 ce1 : NandFind) : State :=
  let t := s.nandDiscover ce0 ce1
  if t.rd OAS.STATE = 2 && t.is OAS.MOUNT_AUTO then t.mountStart else t

/-- The end of the power-fail flush: the journal page with its commit records and the flush marker (R426). -/
def State.oasPowerFlushed (s : State) : State := if s.rd OAS.STATE = 4 then s.journal 2 else s

/-- Power is back: held writes restart from their first page with new sequence numbers (R110, R426). -/
def State.oasPowerBack (s : State) : State :=
  (s.nand.writes.filter fun w => w.live && !(w.trim || w.programmed == w.count)).foldl (fun t w =>
    { t with nand := { t.nand with seq := t.nand.seq + 1,
                                   writes := (t.nand.writes.filter fun v => v.seq ≠ w.seq) ++
                                     (if w.atomic && 0 < w.programmed then [{ w with live := false }] else []) ++
                                     [{ w with seq := t.nand.seq + 1, programmed := 0 }] } }) s

/-- After a forced reset or gate of OAS: the geometry is shown again, and the mount runs when MOUNT_AUTO is 1 (R434). -/
def State.oasAfterReset (s : State) : State :=
  let t := { s with lib := {} }
  if t.nand.part.isNone then t
  else
    let t := t.showPart.wr OAS.STATE 2
    if t.is OAS.MOUNT_AUTO then t.mountStart else t

end Sys2Proof.Machine
end

