-- ==== Sys2Proof/Machine/RylOps.lean ====
section
/-! DEFINITION. Ryrram ports, caravans, routes and transactions as shared operations (R439 to R446, R453, R94). -/

namespace Sys2Proof.Machine

/-! ### Sizes (R442, R445) -/

/-- LEN of a payload; where the spec gives no layout, the fields that it names, in whole bytes, padded to 4. Log: 112
(DESIGN CHOICE). -/
def payloadLen : Payload → Nat
  | .hello .. => 12
  | .elect .. => 12
  | .joinReq _ _ path => 12 + 4 * ceilDiv path.length 16
  | .joinGrant _ _ path => 12 + 4 * ceilDiv path.length 16
  | .neigh _ => 32
  | .roster _ es gone => 4 + 32 * (es.length + gone.length)
  | .syncReq => 0
  | .rosterFull _ es => 4 + 32 * es.length
  | .nsReq _ => 64
  | .nsData d => 4 * ceilDiv d.length 4
  | .nsDone .. => 12
  | .progress => 0
  | .borrowReq .. => 24
  | .borrowData d => 4 * ceilDiv d.length 4
  | .borrowDone _ => 4
  | .reserved => 0

/-- The credits that a caravan takes (R445). Log: 112 (DESIGN CHOICE). -/
def carCredits (c : Caravan) : Nat := ceilDiv (payloadLen c.body + 20) 512

/-- Types that travel one link, toward the elder by port, or down the tree: DST is ignored (R442, R444). -/
def linkKind (k : Nat) : Bool := k ≤ 3 || k == 5 || k == 15

/-! ### Ports -/

/-- This node's SYS.UNIQUE. -/
def ownUnique : Nat := 2 ^ 32 * Config.uniqueHi.toNat + Config.uniqueLo.toNat

/-- A port beside PORT_STAT. -/
def State.rport (s : State) (x : Nat) : RPort := (s.ryl.ports[x]?).getD {}

/-- A port replaced. -/
def State.setRport (s : State) (x : Nat) (p : RPort) : State := { s with ryl := { s.ryl with ports := setAt s.ryl.ports x p } }

/-- The block works: engines released, not reset or gated (R466). -/
def State.rylUp (s : State) : Bool := s.pow.phase == .run && !s.pageDown 0x13

/-- Ports whose links are up. -/
def State.upPorts (s : State) : List Nat := (List.range 3).filter fun x => s.is (RYL.UP.at x)

/-- A link control symbol. -/
def State.sym (s : State) (x kind v : Nat) : State := s.emit (.linkSym x kind v)

/-- The credits of a caravan given back on the port it came from (R445, R446). -/
def State.creditBack (s : State) (q : QCar) : State := match q.came with
  | some y => s.sym y 2 (carCredits q.c)
  | none => s

/-- A link goes down (R440, R446): routed caravans are held for the next route, the others are lost. -/
def State.linkDown (s : State) (x : Nat) : State :=
  let p := s.rport x
  let keep := (p.unacked ++ p.queue).filter fun q => !linkKind q.c.body.kind
  let t := s.setRport x {}
  let t := { t with ryl := { t.ryl with held := t.ryl.held ++ keep } }
  let was := s.is (RYL.UP.at x)
  let t := t.wrAll [(RYL.UP.at x, 0), (RYL.NEIGH_VALID.at x, 0), (RYL.NEIGH_ID.at x, 0), (RYL.CREDITS.at x, 0)]
  t.leafIf was (Lf.RYP.LINK_DOWN_A.plus x)

/-- One caravan put on the wire under the next LSEQ, with what Mirage does to it (R445, R523). -/
def State.transmit (s : State) (x : Nat) (q : QCar) : State :=
  let p := s.rport x
  let c := { q.c with lseq := p.txSeq }
  let t := s.setRport x { p with txSeq := (p.txSeq + 1) % 256, unacked := p.unacked ++ [{ q with c := c }], lastFwd := q.came.isSome }
  let t := (t.wr (RYL.CREDITS.at x) (t.rd (RYL.CREDITS.at x) - carCredits c)).add RYL.CARAVANS_TX 1
  match t.mirEvent 0x13 4 (fun n => t.rd (MIR.SEL.at n) % 4 == x || t.rd (MIR.SEL.at n) % 4 == 3) with
  | (u, none) => u.emit (.caravan x c false)
  | (u, some n) =>
    match u.rd (MIR.SEL.at n) / 4 % 4 with
    | 2 => u
    | 3 => u.linkDown x
    | _ => u.emit (.caravan x c true)

/-- The next caravan of an output queue: forwarded and local ones alternate, a forwarded one first on a tie (R446). -/
def pickNext (p : RPort) : Option QCar :=
  let fwd := p.queue.find? fun q => q.came.isSome
  let own := p.queue.find? fun q => q.came.isNone
  if p.lastFwd then own.orElse fun _ => fwd else fwd.orElse fun _ => own

/-- Bytes that a replay buffer holds. -/
def heldBytes (l : List QCar) : Nat := (l.map fun q => payloadLen q.c.body + 20).foldl (· + ·) 0

/-- The output queue sent as far as credits and the replay buffer of 16 KiB allow (R445). Log: 120 (DESIGN CHOICE). -/
def State.pump (s : State) (x : Nat) : Nat → State
  | 0 => s
  | n + 1 =>
    let p := s.rport x
    match pickNext p with
    | none => s
    | some q =>
      if s.rd (RYL.CREDITS.at x) < carCredits q.c || 16384 < heldBytes p.unacked + payloadLen q.c.body + 20 then s
      else ((s.setRport x { p with queue := p.queue.erase q }).transmit x q).pump x n

/-- A caravan put into an output queue. Log: 120 (DESIGN CHOICE). -/
def State.enqueue (s : State) (x : Nat) (q : QCar) : State :=
  let p := s.rport x
  (s.setRport x { p with queue := p.queue ++ [q] }).pump x (p.queue.length + 1)

/-- A caravan of this node's own sent on a port. -/
def State.sendOn (s : State) (x : Nat) (c : Caravan) : State :=
  s.enqueue x { c := { c with src := if s.is RYL.ID_VALID then s.rd RYL.NODE_ID else 0 }, since := s.elapsed }

/-- A port begins to train: numbers restart, and HELLO goes out (R440, R441, R445). Log: 115 (DEDUCED). -/
def State.train (s : State) (x : Nat) : State :=
  let t := (s.setRport x { sentHello := true }).wrAll [(RYL.CREDITS.at x, 32), (RYL.LOOP.at x, 0)]
  t.sendOn x { body := .hello ownUnique (if s.is RYL.ID_VALID then some (s.rd RYL.NODE_ID) else none) x }

/-- Every enabled port trains. Log: 115 (DEDUCED). -/
def State.trainAll (s : State) : State := (setBits 3 (s.rd RYL.PORT_EN)).foldl (fun t x => if t.is (RYL.UP.at x) then t else t.train x) s

/-! ### Routes (R446, R453) -/

/-- The port of the route to a node. -/
def State.routeTo (s : State) (d : Nat) : Option (Nat × Nat) := (s.ryl.routes.find? fun r => r.1 == d).map Prod.snd

/-- The route is there and its link is up. -/
def State.routeUp (s : State) (d : Nat) : Option Nat := ((s.routeTo d).map Prod.fst).filter fun x => s.is (RYL.UP.at x)

/-- A caravan of this node's own sent to a node; without a route it is not sent. -/
def State.sendTo (s : State) (d : Nat) (c : Caravan) : State := match s.routeUp d with
  | some x => s.sendOn x { c with dst := d }
  | none => s

/-- A caravan for another node forwarded, or discarded and counted (R446). Log: 120 (DESIGN CHOICE). -/
def State.forward (s : State) (q : QCar) : State :=
  let drop := (s.creditBack q).add RYL.FWD_DROPS 1
  if q.c.hops = 0 then drop
  else match s.routeTo q.c.dst with
    | none => drop
    | some (x, _) =>
      if s.is (RYL.UP.at x) then
        (s.enqueue x { q with c := { q.c with hops := q.c.hops - 1 } }).add RYL.FORWARDED 1
      else { s with ryl := { s.ryl with held := s.ryl.held ++ [{ q with c := { q.c with hops := q.c.hops - 1 } }] } }

/-- One layer of the breadth-first search: nodes with the port that leads to them, in port order. -/
def bfsLayer (es : List RosterEnt) (seen : List (Nat × Nat × Nat)) (front : List (Nat × Nat)) : List (Nat × Nat) :=
  front.foldl (fun (acc : List (Nat × Nat)) f =>
    match es.find? fun e => e.id == f.1 with
    | none => acc
    | some e => (e.neigh.filterMap id).foldl (fun (a : List (Nat × Nat)) n =>
        if (seen.any fun r => r.1 == n) || (a.any fun r => r.1 == n) || !(es.any fun g => g.id == n) then a else a ++ [(n, f.2)]) acc) []

/-- The search from a frontier, layer by layer. -/
def bfsGo (es : List RosterEnt) : Nat → Nat → List (Nat × Nat) → List (Nat × Nat × Nat) → List (Nat × Nat × Nat)
  | 0, _, _, seen => seen
  | n + 1, hops, front, seen =>
    let next := sortBy Prod.snd (bfsLayer es seen front)
    if next = [] then seen else bfsGo es n (hops + 1) next (seen ++ next.map fun r => (r.1, r.2, hops + 1))

/-- The routes of a node: equal ones take the lower port letter (R453). -/
def routesOf (es : List RosterEnt) (own : Nat) : List (Nat × Nat × Nat) :=
  match es.find? fun e => e.id == own with
  | none => []
  | some e =>
    let first := (List.range 3).foldl (fun (a : List (Nat × Nat)) x =>
      match (e.neigh[x]?).getD none with
      | some n => if n == own || (a.any fun r => r.1 == n) || !(es.any fun g => g.id == n) then a else a ++ [(n, x)]
      | none => a) []
    (bfsGo es es.length 1 first ((own, 0, 0) :: first.map fun r => (r.1, r.2, 1))).drop 1

/-! ### Receiving (R443, R445, R446) -/

/-- A caravan arrives whole: `true` when it is taken (R440, R441, R445). -/
def State.rxGate (s : State) (x : Nat) (c : Caravan) : State × Bool :=
  let p := s.rport x
  let hello := c.body.kind == 0
  if !s.rylUp || !bit (s.rd RYL.PORT_EN) x || (!hello && (!s.is (RYL.UP.at x) || s.is (RYL.LOOP.at x))) then (s, false)
  else if c.lseq ≠ p.rxNext then (s.sym x 0 ((p.rxNext + 255) % 256), false)
  else (((s.setRport x { p with rxNext := (p.rxNext + 1) % 256 }).sym x 0 c.lseq).add RYL.CARAVANS_RX 1, true)

/-- Whether a routed caravan is for this node (R446). -/
def State.isMine (s : State) (c : Caravan) : Bool := s.is RYL.ID_VALID && c.dst == s.rd RYL.NODE_ID

/-- A received caravan: handed on where it is for this node or for its links, else forwarded. -/
def State.rx (s : State) (x : Nat) (c : Caravan) (h : State → State) : State :=
  let (t, ok) := s.rxGate x c
  if !ok then t
  else
    let q : QCar := { c := c, came := some x, since := s.elapsed }
    if linkKind c.body.kind || t.isMine c then h (t.creditBack q) else t.forward q

/-! ### Transactions (R93, R94) -/

/-- The lowest tag that is neither open nor quarantined. -/
def State.freeCtag (s : State) : Nat :=
  let used := s.ryl.opens.map RylOpen.ctag ++ s.quarantine.map Quarantined.tag
  ((List.range (used.length + 1)).find? fun n => !used.contains n).getD 0

/-- A transaction opened toward a node, with its request (R442). -/
def State.openTo (s : State) (d : Nat) (cmd : Option Nat) (unit : Option (Nat × Nat)) (body : Payload) : State :=
  let e := s.rd (Hdr.EPOCH 0x13)
  let n := s.freeCtag
  let t := { s with ryl := { s.ryl with opens := s.ryl.opens ++ [RylOpen.mk n e d cmd unit] } }
  t.sendTo d { tag := n, epoch := e, body := body }

/-- Transactions that a test picks closed; without their replies their tags are quarantined (R94). -/
def State.closeOpens (s : State) (p : RylOpen → Bool) (quarantine : Bool) : State :=
  let gone := s.ryl.opens.filter p
  { s with ryl := { s.ryl with opens := s.ryl.opens.filter fun o => !p o }
           quarantine := s.quarantine ++
             (if quarantine then gone.map (fun o => Quarantined.mk o.ctag o.epoch s.now) else []) }

/-- The open transaction that a reply answers (R93). -/
def State.openOf (s : State) (c : Caravan) : Option RylOpen :=
  s.ryl.opens.find? fun o => o.ctag == c.tag && o.epoch == c.epoch && c.epoch == s.rd (Hdr.EPOCH 0x13)

/-- A reply that nothing awaits is discarded; it frees its quarantined tag (R93, R94). -/
def State.discardReply (s : State) (c : Caravan) (final : Bool) : State :=
  let t := if final then { s with quarantine := s.quarantine.filter fun q => !(q.tag == c.tag && q.epoch == c.epoch) } else s
  t.setLeaf Lf.SYS.EPOCH_DISCARD

/-! ### Peers of a borrow (R249, R461) -/

/-- Whether the bits of an identity are set in a Bloom word (R451). -/
def bloomHas (bloom tag : Nat) : Bool := bit bloom (tag % 64) && bit bloom (tag / 64 % 64)

/-- The Bloom word of shadow identities (R451). -/
def State.bloom (s : State) : Nat :=
  ((s.nand.shadow.map fun x => leAt x.ident 0 4).foldl (fun m t => m ||| 2 ^ (t % 64) ||| 2 ^ (t / 64 % 64)) 0)

/-- Peers that advertise the identity of the disc in the drive: the fewest hops first, then the lowest node ID (R249). -/
def State.borrowPeers (s : State) : List Nat :=
  if !s.is RYL.ID_OK || s.is RYL.PARTIAL then []
  else
    let t := s.rd (RYL.IDENT.at 0)
    let es := s.ryl.roster.filter fun e => e.id ≠ s.rd RYL.NODE_ID && (e.discTag == t || bloomHas e.bloom t) && (s.routeTo e.id).isSome
    (sortBy (fun e => ((s.routeTo e.id).map Prod.snd).getD 0 * 2 ^ 16 + e.id) es).map RosterEnt.id

/-! ### Remote namespaces (R455) -/

/-- The namespace that a command names once its own node's remote form is read as the local one. -/
def State.localNs (s : State) (ns : Nat) : Nat :=
  if 0x80000000 ≤ ns && s.is RYL.ID_VALID && bits ns 8 16 = s.rd RYL.NODE_ID && bits ns 24 7 = 0 then ns % 256 else ns

/-- A remote NSID: bit 31, a node and a local NSID. -/
def isRemote (ns : Nat) : Bool := 0x80000000 ≤ ns && bits ns 24 7 == 0 && (ns % 256 == 1 || (0x10 ≤ ns % 256 && ns % 256 ≤ 0x1F))

/-- The node of a remote NSID. -/
def remoteNode (ns : Nat) : Nat := bits ns 8 16

end Sys2Proof.Machine
end

