-- ==== Sys2Proof/Machine/LadderOps.lean ====
section
/-! DEFINITION. Cached sectors, units, the levels of the recovery ladder, averaging and borrowing as shared operations
(R228 to R252, R336 to R338). -/

namespace Sys2Proof.Machine

/-! ### Blocks of the disc namespace and sector addresses -/

/-- The sector address and layer of a block of the disc: the LBA of a CD, the PSN of a DVD (R173). Log: 66 (PRESUMED). -/
def State.discAddr (s : State) (block : Nat) : Nat × Nat :=
  let i := s.drv.toc
  if !s.isDvd then (block % 2 ^ 24, 0)
  else
    let p := i.firstPsn + block
    if p ≤ i.lastPsn then (p % 2 ^ 24, 0)
    else
      let past := p - i.lastPsn - 1
      ((if s.drv.otp then 2 ^ 24 - 1 - i.lastPsn + past else i.firstPsn + past) % 2 ^ 24, 1)

/-- The block at a sector address and layer. Log: 66 (PRESUMED). -/
def State.discBlock (s : State) (a layer : Nat) : Nat :=
  let i := s.drv.toc
  if !s.isDvd then a
  else if layer = 0 then a - i.firstPsn
  else (i.lastPsn + 1 - i.firstPsn) + (a - (if s.drv.otp then 2 ^ 24 - 1 - i.lastPsn else i.firstPsn))

/-- The first address of the unit that holds a sector (R228). Log: 66 (PRESUMED). -/
def State.unitAddr (s : State) (a : Nat) : Nat := if s.isDvd then a - a % 16 else a

/-! ### Cached sectors (R336, R338) -/

/-- The cached copy of a block. -/
def State.cachedAt (s : State) (ns block : Nat) : Option Cached := s.mem.sectors.find? fun c => c.ns == ns && c.block == block

/-- A cached copy marked as the most recently used. -/
def State.touchCached (s : State) (ns block : Nat) : State :=
  { s with mem := { s.mem with useCount := s.mem.useCount + 1,
                               sectors := s.mem.sectors.map fun c =>
                                 if c.ns == ns && c.block == block then { c with used := s.mem.useCount + 1 } else c } }

/-- Whether a running command names a block: its cached copy is not evicted (R338). -/
def State.blockHeld (s : State) (ns block : Nat) : Bool :=
  s.que.cmds.any fun c => c.stage ≠ .ended && c.ranges.any fun r => s.localNs r.ns == ns && r.lo ≤ block && block < r.hi

/-- The least recently used cached sectors that no command holds give up their page: one page at most (R338). -/
def State.evictPage (s : State) : State :=
  let loose := s.mem.sectors.filter fun c => !s.blockHeld c.ns c.block &&
    s.mem.sectors.all fun d => d.off / 0x1000 ≠ c.off / 0x1000 || !s.blockHeld d.ns d.block
  match sortBy Cached.used loose with
  | [] => s
  | c :: _ =>
    let p := c.off / 0x1000
    let t := { s with mem := { s.mem with sectors := s.mem.sectors.filter fun d => d.off / 0x1000 ≠ p } }
    t.freePage p

/-- Cached sectors evicted until `need` pages are free or none can go. -/
def State.evictFor (s : State) (need : Nat) : Nat → State
  | 0 => s
  | n + 1 =>
    if need ≤ s.freePages.length then s
    else
      let t := s.evictPage
      if t.mem.sectors.length < s.mem.sectors.length then t.evictFor need n else t

/-- Room for one cached sector: the free half of a page of 2,048-byte sectors, or a page of its own (R336); none when no
page can be had. Log: 65 (DESIGN CHOICE). -/
def State.cacheRoom (s : State) (raw : Bool) : State × Option Nat :=
  let halves := if raw then [] else
    (s.mem.owners.filter fun o => o.2 == .cache).flatMap fun o => [o.1 * 0x1000, o.1 * 0x1000 + 0x800]
  let freeHalf := halves.find? fun off =>
    (s.mem.sectors.any fun c => c.off / 0x1000 == off / 0x1000 && !c.raw) && s.mem.sectors.all fun c => c.off ≠ off
  match freeHalf with
  | some off => (s, some off)
  | none =>
    if !s.allocOk then (s, none)
    else
      let t := if s.freePages = [] then s.evictPage else s
      match t.grantPages .cache 1 with
      | (u, p :: _) => (u, some (p * 0x1000))
      | (u, []) => (u, none)

/-- A sector put into the cache under its namespace and block, with its info bits and ladder level; `false` when no page
can be had. Log: 65 (DESIGN CHOICE). -/
def State.cacheAdd (s : State) (ns block : Nat) (raw : Bool) (info level : Nat) (data : List Byte) : State × Bool :=
  let s := s.dropCached fun c => c.ns == ns && c.block == block
  match s.cacheRoom raw with
  | (t, none) => (t, false)
  | (t, some off) =>
    let t := (t.cacheWrite 3 off data).1
    let c : Cached := { ns := ns, block := block, off := off, len := data.length, raw := raw, info := info, level := level,
                        used := t.mem.useCount + 1 }
    ({ t with mem := { t.mem with sectors := t.mem.sectors ++ [c], useCount := t.mem.useCount + 1 } }, true)

/-- A cached sector's bytes, read for an engine; none when a word is uncorrectable, which drops it (R272). -/
def State.cacheGet (s : State) (c : Cached) : State × Option (List Byte) :=
  (s.touchCached c.ns c.block).cacheRead 3 c.off c.len

/-- The info bit of an informational status 0x1001 + k (R351). -/
def infoBit (st : Nat) : Nat := 2 ^ (st - 0x1001)

/-! ### Units -/

/-- The unit at an address and layer. -/
def State.unitAt (s : State) (a layer : Nat) : Option EUnit := s.ecd.units.find? fun u => u.addr == a && u.layer == layer

/-- A unit replaced. -/
def State.setUnit (s : State) (u : EUnit) : State :=
  { s with ecd := { s.ecd with units := s.ecd.units.map fun v => if v.addr == u.addr && v.layer == u.layer then u else v } }

/-- A unit removed. -/
def State.dropUnit (s : State) (u : EUnit) : State :=
  { s with ecd := { s.ecd with units := s.ecd.units.filter fun v => !(v.addr == u.addr && v.layer == u.layer) } }

/-- LADDER_STAT: the climbing unit that holds the mechanism, else the first that climbs (R256). -/
def State.showLadder (s : State) : State :=
  let climbing := s.ecd.units.filter fun u => 1 ≤ u.level
  match (climbing.find? EUnit.holding).orElse fun _ => climbing.head? with
  | some u => s.wrAll [(ECD.ACTIVE, 1), (ECD.LEVEL, u.level), (ECD.ADDR, u.addr), (ECD.LAYER, u.layer)]
  | none => s.wrAll [(ECD.ACTIVE, 0), (ECD.LEVEL, 0)]

/-- A unit that a read needs joins the decode: a unit that climbs already is joined (R251), else its disc read is asked
for, with the Mirage event of a unit entering level 0 (R524). -/
def State.needSector (s : State) (a layer most tries : Nat) (direct : Bool) : State :=
  let base := s.unitAddr a
  let m := 2 ^ (a - base)
  match s.unitAt base layer with
  | some u => s.setUnit { u with need := u.need ||| m, most := max u.most most, tries := max u.tries tries,
                                     direct := u.direct && direct }
  | none =>
    let (t, hook) := s.mirEvent 0x0B 5 fun _ => true
    let forced := match hook with
      | some n => t.rd (MIR.ARG.at n) % 8
      | none => 0
    let u : EUnit := { addr := base, layer := layer, need := m, most := most, tries := tries, direct := direct, forced := forced }
    let t := { t with ecd := { t.ecd with units := t.ecd.units ++ [u] } }
    t.askSeek base layer

/-- The blocks of the disc that a unit's sectors are. -/
def State.unitBlocks (s : State) (u : EUnit) (mask : Nat) : List Nat := (setBits 16 mask).map fun i => s.discBlock (u.addr + i) u.layer

/-- Whether a command needs a block of the disc. -/
def State.needsBlock (s : State) (c : Cmd) (b : Nat) : Bool :=
  c.stage ≠ .ended && c.ranges.any fun r => s.localNs r.ns == 1 && r.lo ≤ b && b < r.hi

/-- Sectors that no command, no borrower and no play needs any more leave a unit (R233). -/
def State.trimNeed (s : State) (u : EUnit) : EUnit :=
  if u.direct then u
  else { u with need := ofBits ((setBits 16 u.need).filter fun i =>
    let b := s.discBlock (u.addr + i) u.layer
    (s.que.cmds.any fun c => s.needsBlock c b) ||
      s.ryl.bserves.any fun x => x.layer == u.layer && s.unitAddr x.addr == u.addr && bit x.need (u.addr + i - x.addr)) }

/-! ### The accumulator (R245, R247) -/

/-- The pages of the accumulator of a format. Log: 58 (DESIGN CHOICE). -/
def accKib (dvd : Bool) : Nat := if dvd then 1209 else 237
def accBits (dvd : Bool) : Nat := if dvd then 416 * 1488 else 206 * 588

/-- AVERAGE starts for a unit: the accumulator is asked for (R245). Log: 58 (DESIGN CHOICE). -/
def State.avgStart (s : State) (u : EUnit) : State :=
  let pages := ceilDiv (accKib s.isDvd) 4
  let t := { s with avg := {} }
  let t := t.wrAll [(AVG.BUSY, 1), (AVG.STATE, 1), (AVG.PASSES, 0), (AVG.RESTARTED, 0), (AVG.ADDR, u.addr), (AVG.LAYER, u.layer),
    (AVG.ACC_KIB, accKib s.isDvd), (AVG.BEST_SINGLE, 0), (AVG.COMBINED, 0)]
  let wait := t.mem.wait ≠ [] || t.freePages.length < pages + t.rd MEM.RSV_PAGES || !t.allocOk
  ({ t with mem := { t.mem with wait := t.mem.wait ++ [PageReq.mk .accum pages] } }).leafIf wait Lf.AVG.MEM_WAIT

/-- A sample's value: none for ERASURE (R210). -/
def softVal (v : Nat) : Option Int := if v = 0x20 then none else some (ofCode 6 v)

/-- A sample added to its grid bit; ERASURE adds nothing (R247). Log: 58 (DESIGN CHOICE). -/
def accAdd (l : List (Nat × Int × Nat)) (at_ : Nat) (v : Nat) : List (Nat × Int × Nat) :=
  match softVal v with
  | none => l
  | some x =>
    match l.find? fun e => e.1 == at_ with
    | some (_, sum, n) => l.map fun e => if e.1 == at_ then (at_, sum + x, n + 1) else e
    | none => insertBy Prod.fst (at_, x, 1) l

/-- Division of integers to the nearest, halves away from zero. -/
def roundHalfAway (num : Int) (den : Nat) : Int :=
  let q := (2 * num.natAbs + den) / (2 * den)
  if num < 0 then -(q : Int) else q

/-- The combined sample of a grid bit that holds N samples, N not 0 (R247). -/
def combined (sum : Int) (n : Nat) : Int := clampInt (-31) 31 (roundHalfAway (4 * sum) (n + 3))

/-! ### Levels (R233 to R239, R249) -/

/-- Whether a level runs for a unit now (R233, R234, R237, R249). Log: 60 (DEDUCED). -/
def State.levelRuns (s : State) (u : EUnit) (l : Nat) : Bool :=
  l ≤ u.most && match l with
    | 1 => s.is ECD.ERASURE_EN
    | 2 => s.is ECD.REREAD_EN && !u.direct
    | 3 => s.is ECD.AVERAGE_EN && !u.direct && !s.pageDown 0x0D
    | 4 => s.is ECD.BORROW_EN && !u.direct && s.rylUp && !s.is (Hdr.QUIESCE 0x13) && s.borrowPeers ≠ []
    | _ => false

/-- The leaf that a unit sets as it enters a level. -/
def levelLeaf : Nat → Leaf
  | 1 => Lf.ECC.LADDER_ERASURE | 2 => Lf.ECC.LADDER_REREAD | 3 => Lf.ECC.LADDER_AVERAGE | _ => Lf.ECC.LADDER_BORROW

/-- The mechanism passes to the next unit that waits for it, in failure order (R235). -/
def State.passHold (s : State) : State :=
  if s.ecd.units.any EUnit.holding then s
  else match s.ecd.units.find? fun u => u.level == 2 || u.level == 3 with
    | none => s
    | some u =>
      let t := (s.setUnit { u with holding := true }).askSeek u.addr u.layer
      if u.level = 3 then t.avgStart u else t

/-- The next peer of a unit at BORROW, asked for the sectors still missing (R249); none when the peers are exhausted. Log:
63 (DEDUCED). -/
def State.nextPeer (s : State) (u : EUnit) : Option Nat :=
  if s.rd ECD.BORROW_PEERS ≤ u.asked.length then none else s.borrowPeers.find? fun p => !u.asked.contains p

/-- A peer asked (R249). -/
def State.askPeer (s : State) (u : EUnit) (p : Nat) : State :=
  let ident := (List.range 4).flatMap fun k => leBytes 4 (s.rd (RYL.IDENT.at k))
  let t := s.setUnit { u with asked := u.asked ++ [p] }
  t.openTo p none (some (u.addr, u.layer)) (.borrowReq ident u.layer u.addr u.need)

/-- A sector taken for its unit at a level: cached, and no longer needed; recovered ones go to the shadow (R232, R239).
Log: 65 (DESIGN CHOICE). -/
def State.takeSector (s : State) (u : EUnit) (i kind level info : Nat) (data sub c2 : List Byte) : State × EUnit :=
  if !bit u.need i then (s, u)
  else
    let a := u.addr + i
    if u.direct then
      ({ s with ecd := { s.ecd with ready := s.ecd.ready ++ [ReadySec.mk a data sub c2] } }, { u with need := clearBits u.need (2 ^ i) })
    else
      let raw := kind ≠ 4
      let bytes := if raw then padTo 2352 data ++ padTo 96 sub ++ padTo 294 c2 else slice data 12 2048
      let (t, ok) := s.cacheAdd 1 (s.discBlock a u.layer) raw info level bytes
      if !ok then (t, u)
      else
        let from_ := t.rd ECD.SHADOW_FROM
        let t := if (from_ = 1 && (level = 3 || level = 4)) || (from_ = 2 && level = 4) then
            let v := t.queueShadow u.layer a data
            { v with erg := { v.erg with segs := v.erg.segs.map fun g => if v.segCovers g a u.layer then { g with shadow := true } else g } }
          else t
        (t, { u with need := clearBits u.need (2 ^ i) })

/-- The counter of units recovered at a level. -/
def levelCount : Nat → Fld
  | 1 => ECD.BY_ERASURE | 2 => ECD.BY_REREAD | 3 => ECD.BY_AVERAGE | _ => ECD.BY_BORROW

/-- A unit ends: it leaves the ladder, and what it held passes on (R232, R235). -/
def State.unitGone (s : State) (u : EUnit) : State :=
  let t := if u.level = 3 && u.holding then s.avgFree else s
  let t := t.closeOpens (fun o => o.unit == some (u.addr, u.layer)) false
  ((t.dropUnit u).passHold).showLadder

/-- A unit ends in success at its level (R239). -/
def State.unitDone (s : State) (u : EUnit) : State :=
  let t := s.unitGone u
  if u.level = 0 then t else (t.add (levelCount u.level) 1).setLeaf Lf.ECC.RECOVERED

/-- A block of the disc has failed for the commands that need it (R238). -/
def State.blockFailed (s : State) (b : Nat) : State :=
  let cmds := s.que.cmds.map fun c =>
    if s.needsBlock c b && !c.failed.contains b then { c with failed := c.failed ++ [b] } else c
  { s with que := { s.que with cmds := cmds } }

/-! ### Concealment (R238) -/

/-- Whether a C2 flag covers 16-bit sample `i` of a sector. Log: 61 (PRESUMED). -/
def flaggedSample (c2 : List Byte) (i : Nat) : Bool :=
  let f := fun (b : Nat) => bit ((c2[b / 8]?).getD 0).toNat (7 - b % 8)
  f (2 * i) || f (2 * i + 1)

/-- The runs of flagged samples of a channel of 588: the first and the length of each. -/
def flaggedRuns (flags : List Bool) : List (Nat × Nat) :=
  ((List.range flags.length).foldl (fun (acc : List (Nat × Nat) × Bool) i =>
    if (flags[i]?).getD false then
      (if acc.2 then (match acc.1 with
          | (a, n) :: r => ((a, n + 1) :: r, true)
          | [] => ([(i, 1)], true))
        else ((i, 1) :: acc.1, true))
    else (acc.1, false)) ([], false)).1.reverse

/-- The sample that stands for place `k` of a run between two good ones: linear interpolation. Log: 62 (DESIGN CHOICE). -/
def between (before after : Int) (n k : Nat) : Int := before + Config.quot 73 ((after - before) * (k + 1)) (n + 1)

/-- One run of a channel concealed: interpolated when short, zeros when long. A run at an end of the sector has a good
sample on one side only, where the spec states no value. Log: 62 (DESIGN CHOICE). -/
def State.concealRun (s : State) (max_ : Nat) (xs : List Int) (r : Nat × Nat) : State × List Int :=
  let (a, n) := r
  if max_ < n then (s, (List.range n).foldl (fun l k => setAt l (a + k) 0) xs)
  else if a = 0 || xs.length ≤ a + n then
    (List.range n).foldl (fun (acc : State × List Int) k =>
      let (v, t) := acc.1.free 65536
      (t, setAt acc.2 (a + k) (ofCode 16 v))) (s, xs)
  else
    let b := (xs[a - 1]?).getD 0
    let e := (xs[a + n]?).getD 0
    (s, (List.range n).foldl (fun l k => setAt l (a + k) (between b e n k)) xs)

/-- A channel of a sector: 0 left, 1 right. -/
def channelOf (data : List Byte) (ch : Nat) : List Int := (List.range 588).map fun i => ofCode 16 (leAt data (4 * i + 2 * ch) 2)

/-- One channel of a sector concealed, with its runs. Log: 62 (DESIGN CHOICE). -/
def State.concealChannel (s : State) (data c2 : List Byte) (ch : Nat) : State × List Int × List (Nat × Nat) :=
  let runs := flaggedRuns ((List.range 588).map fun i => flaggedSample c2 (2 * i + ch))
  let (t, xs) := runs.foldl (fun (acc : State × List Int) r => acc.1.concealRun (s.rd ECD.CONCEAL_MAX) acc.2 r) (s, channelOf data ch)
  (t, xs, runs)

/-- A CD-DA sector concealed, with its leaves (R238). -/
def State.conceal (s : State) (x : SectorDec) : State × List Byte :=
  let (t, l, rl) := s.concealChannel x.data x.c2 0
  let (t, r, rr) := t.concealChannel x.data x.c2 1
  let bytes := (List.range 588).flatMap fun i => leBytes 2 (toCode 16 ((l[i]?).getD 0)) ++ leBytes 2 (toCode 16 ((r[i]?).getD 0))
  let runs := rl ++ rr
  let last := (runs.map fun q => q.1 + q.2).foldl max 0
  (t.setLeaves ((if runs ≠ [] then [Lf.ECC.CONCEAL_RUN] else []) ++ (if runs ≠ [] && last < 588 then [Lf.ECC.CONCEAL_END] else []) ++
    (if runs.any (fun q => s.rd ECD.CONCEAL_MAX < q.2) then [Lf.ECC.MUTE] else [])), bytes)

/-- A unit ends at CONCEAL or FAIL (R233, R237, R238). Log: 60 (DEDUCED). -/
def State.ladderEnd (s : State) (u : EUnit) : State :=
  if u.direct then
    let t := u.bad.foldl (fun (t : State) x => { t with ecd := { t.ecd with ready := t.ecd.ready ++ [ReadySec.mk (u.addr + x.index) x.data x.sub x.c2] } }) s
    t.unitGone u
  else
    let audio := u.bad.filter fun x => x.kind == 0 && bit u.need x.index
    let all := (setBits 16 u.need).all fun i => audio.any fun x => x.index == i
    if s.is ECD.CONCEAL_EN && all && 5 ≤ u.most then
      let t := s.setLeaf Lf.ECC.LADDER_CONCEAL
      let (t, v) := audio.foldl (fun (acc : State × EUnit) x =>
        let (t, d) := acc.1.conceal x
        t.takeSector acc.2 x.index x.kind 5 (infoBit stConcealed) d x.sub x.c2) (t, u)
      (t.add ECD.CONCEALED 1).unitGone v
    else
      let t := (s.unitBlocks u u.need).foldl State.blockFailed s
      let t := (t.add ECD.UNRECOVERED 1).wrAll [(ECD.LF_VALID, 1), (ECD.LF_LAYER, u.layer), (ECD.LF_ADDR, u.addr)]
      (t.setLeaf Lf.ECC.LADDER_FAIL).unitGone u

/-- A unit stopped by an accepted eject (R190, R251): the commands that need it end with NO_MEDIUM. Log: 40 (DEDUCED). -/
def State.unitStop (s : State) (u : EUnit) : State :=
  let hit := fun (c : Cmd) => !u.direct && c.failed == [] && (s.unitBlocks u u.need).any fun b => s.needsBlock c b
  let cmds := s.que.cmds.map fun c => if hit c then { c with status := stNoMedium } else c
  let t := { s with que := { s.que with cmds := cmds } }
  let t := if u.direct then t else (t.unitBlocks u u.need).foldl State.blockFailed t
  (t.unitGone u).leafIf (1 ≤ u.level) Lf.ECC.LADDER_ABORT

/-- A unit that fails at its level is passed on to the next one that runs, or ends (R233, R235). -/
def State.climb (s : State) (u : EUnit) : State :=
  let u := s.trimNeed u
  if u.need = 0 then (s.unitGone u).leafIf (1 ≤ u.level) Lf.ECC.LADDER_ABORT
  else if s.drv.ejecting then s.unitStop u
  else
    let s := if u.level = 3 && u.holding then s.avgFree else s
    match [1, 2, 3, 4].find? fun l => u.level < l && s.levelRuns u l with
    | none => s.ladderEnd u
    | some 1 => ((s.setUnit { u with level := 1 }).setLeaf Lf.ECC.LADDER_ERASURE).showLadder
    | some 4 =>
      let v := { u with level := 4, holding := false }
      let t := ((s.setUnit v).passHold).setLeaf Lf.ECC.LADDER_BORROW
      match t.nextPeer v with
      | some p => (t.askPeer v p).showLadder
      | none => t.ladderEnd v
    | some l =>
      let free := u.holding || !s.ecd.units.any EUnit.holding
      let v := { u with level := l, holding := free }
      let t := (s.setUnit v).setLeaf (levelLeaf l)
      let t := if free then t.askSeek u.addr u.layer else t
      (if free && l = 3 then t.avgStart v else t).showLadder

/-- A unit at BORROW moves to the next peer, or its peers are exhausted (R249). Log: 63 (DEDUCED). -/
def State.borrowNext (s : State) (u : EUnit) : State :=
  match s.nextPeer u with
  | some p => s.askPeer u p
  | none => s.climb u

/-- Sectors that a unit took went to the borrowers that wait for them: what remains is served by `Ryl`. A unit whose need
is empty has succeeded. -/
def State.unitSettle (s : State) (u : EUnit) : State := if u.need = 0 then s.unitDone u else s.setUnit u

/-! ### Ejecting (R190, R193, R251) -/

/-- An eject accepted: a seek ends as under R188, units that it serves or that climb stop, and the play ends. Disc commands
that execute at level 0 complete first; then the optics park, the spindle brakes, and motion waits for the stop. Log: 40
(DEDUCED). -/
def State.ejectAccept (s : State) : State :=
  let stops := s.ecd.units.filter fun u => u.direct || 1 ≤ u.level ||
    (s.drv.seek.any fun r => !r.byGo && r.addr == u.addr && r.layer == u.layer)
  let t := { s with drv := { s.drv with ejecting := true } }
  let t := if t.drv.seek.isSome then t.seekAborted else t
  (stops.foldl State.unitStop t).playStop stGood

/-- An eject request (R190); `true` when it is accepted. CMD.OPEN ignores PREVENT. Log: 40 (DEDUCED). -/
def State.ejectRequest (s : State) (ignorePrevent : Bool) : State × Bool :=
  let t := (s.setLeaf Lf.LDR.EJECT_REQ).postEvent 3 3
  if t.is LDR.PREVENT && !ignorePrevent then (t.setLeaf Lf.LDR.EJECT_LOCKED, false)
  else if (t.rd LDR.STATE = 6 || (t.rd LDR.STATE = 3 && !t.is LDR.MODE)) && !t.drv.ejecting then (t.ejectAccept, true)
  else (t.setLeaf Lf.LDR.STATE_ERR, false)

end Sys2Proof.Machine
end

