-- ==== Sys2Proof/Machine/WakeOps.lean ====
section
/-! DEFINITION. Waking, and the work that wakes (R104 to R107). -/

namespace Sys2Proof.Machine

/-- The leaf of a wake source by its code (R104); POWER_CMD and other work have none. -/
def wakeLeaf (code : Nat) : List Leaf :=
  if 1 ≤ code ∧ code ≤ 8 then [Lf.PWR.DOORBELL_WAKE.plus (code - 1)] else []

/-- An exit starts from DOZE or NAP under a source's code (R104, R105). -/
def State.beginExit (s : State) (code : Nat) : State :=
  let t := { s with pow := { s.pow with exit := some code, exitFrom := s.rd TIME.STATE, exitStart := s.elapsed } }
  let t := (t.wr TIME.MOVING 1).setLeaves (wakeLeaf code)
  if s.rd TIME.STATE = 1 then (t.mechRestart).postEvent 6 1 else t

/-- A STANDBY exit starts (R106 step 2, R78): PWR_EN high, and the wake hold when WAKE_NOTIFY is 1. -/
def State.beginStandbyExit (s : State) (code : Nat) : State :=
  let t := { s with pow := { s.pow with phase := .held, kind := .stby, pwrEn := true, exit := some code, exitFrom := 3,
                                        exitStart := s.elapsed, wakePend := none } }
  if s.is ATN.WAKE_NOTIFY then t.wr ATN.WAKE_HOLD 1 else t

/-- A wake event (R102, R104): an entry not yet done is abandoned first; after STANDBY commits it waits for the discharge. -/
def State.wake (s : State) (code : Nat) : State :=
  match s.pow.phase with
  | .standby =>
    if s.pow.wakePend ≠ none then s
    else if s.pow.discharged then s.beginStandbyExit code
    else { s with pow := { s.pow with wakePend := some code } }
  | .run =>
    let t := if s.pow.entry = none then s
      else ({ s with pow := { s.pow with entry := none } }).wr TIME.MOVING 0
    let t := if s.pow.entry = some .doze then t.mechRestart else t
    if t.rd TIME.STATE ≠ 0 && t.pow.exit = none then t.beginExit code else t
  | _ => s

/-- A host write of IDLE_CTL or of an idle time has been made: a running timer restarts, or stops (R100, R116). -/
def State.idleWritten (s : State) : State :=
  if s.pow.timer = none then s
  else ({ s with pow := { s.pow with timer := none } }).setLeaf Lf.PWR.TIMER_RESTART

/-- Work that needs the disc (R100, R104, R105): it ends DOZE or NAP under a code, or restarts a parked mechanism. -/
def State.discWork (s : State) (code : Nat) : State :=
  if s.pow.phase ≠ .run then s
  else if s.rd TIME.STATE ≠ 0 || s.pow.entry = some .doze then s.wake code
  else s.mechRestart

/-- Work that needs a resource removed in NAP only (R97, R104). Log: 86 (DEDUCED). -/
def State.coreWork (s : State) (code : Nat) : State :=
  if s.pow.phase = .run && (2 ≤ s.rd TIME.STATE || s.pow.entry = some .nap || s.pow.entry = some .standby) then s.wake code else s

end Sys2Proof.Machine
end

