-- ==== Sys2Proof/Machine/Ladder.lean ====
section
/-! DEFINITION. Decodes, re-reads, averaging, borrowing and the Erg map's commands (09_recovery_ladder.md). -/

namespace Sys2Proof.Machine

/-! ### Codewords (R229, R230) -/

/-- A codeword within the capacity `cap` of its code and at most `emax` errors is corrected. -/
def Codeword.fits (cap emax : Nat) (w : Codeword) : Bool := 2 * w.e + w.f ≤ cap && w.e ≤ emax

/-- What a decode counts, at a level: its failed codewords by kind, and all of them. -/
structure DecodeStat where
  c1Bad : Nat
  c2Bad : Nat
  l2Bad : Nat
  piFirstBad : Nat
  piBad : Nat
  poBad : Nat
  /-- bytes corrected, and errors corrected outside erasures -/
  corrected : Nat
  errors : Nat
  /-- a codeword has more erasures than its code can fill -/
  past : Bool
  /-- a C2 or PO codeword is corrected at full capacity -/
  full : Bool
  deriving DecidableEq, Repr

/-- The codewords of a decode judged (R229). Log: 56 (DESIGN CHOICE). -/
def State.judge (s : State) (level : Nat) (d : Decode) : DecodeStat :=
  let deep := 1 ≤ level
  let c1 := fitsC 4 (s.rd ECD.C1_ERR_MAX)
  let c2 := fitsC 4 (if deep then 2 else 1)
  let l2 := fitsC 2 1
  let pi := fitsC 10 (if deep then 5 else s.rd ECD.PI_ERR_MAX)
  let po := fitsC 16 (if deep then 8 else 4)
  let bad := fun (p : Codeword → Bool) (l : List Codeword) => (l.filter fun w => !p w).length
  let good := d.c1.filter c1 ++ d.c2.filter c2 ++ d.l2.filter l2 ++ d.pi.filter pi ++ d.po.filter po
  { c1Bad := bad c1 d.c1, c2Bad := bad c2 d.c2, l2Bad := bad l2 d.l2, piFirstBad := bad pi d.piFirst, piBad := bad pi d.pi,
    poBad := bad po d.po
    corrected := (good.map fun w => w.e + w.f).foldl (· + ·) 0
    errors := (good.map Codeword.e).foldl (· + ·) 0
    past := (d.c1 ++ d.c2).any (fun w => 4 < w.f) || d.l2.any (fun w => 2 < w.f) || d.pi.any (fun w => 10 < w.f) ||
      d.po.any (fun w => 16 < w.f)
    full := (d.c2.filter c2).any (fun w => 2 * w.e + w.f == 4) || (d.po.filter po).any (fun w => 2 * w.e + w.f == 16) }
where
  fitsC (cap emax : Nat) (w : Codeword) : Bool := Codeword.fits cap emax w

/-- Whether every codeword reports success. -/
def DecodeStat.clean (x : DecodeStat) : Bool := x.c1Bad == 0 && x.c2Bad == 0 && x.l2Bad == 0 && x.piBad == 0 && x.poBad == 0

/-- Whether a sector of a decode succeeds (R230). Log: 56 (DESIGN CHOICE). -/
def sectorGood (st : DecodeStat) (x : SectorDec) : Bool :=
  match x.kind with
  | 0 => st.c2Bad == 0
  | 3 => st.c2Bad == 0 && (x.edc || x.edcZero)
  | 4 => x.edc && x.ied
  | _ => x.edc

/-- The EDC of a sector is checked and fails (R230). Log: 56 (DESIGN CHOICE). -/
def edcFails (x : SectorDec) : Bool := match x.kind with
  | 0 => false
  | 3 => !x.edc && !x.edcZero
  | _ => !x.edc

/-- The level 0 events of Mirage on C1 codewords or PI rows: bytes complemented, which are errors or, when they are flagged
as well, erasures (R523). Log: 57 (DESIGN CHOICE). -/
def State.injectCodewords (s : State) (l : List Codeword) : State × List Codeword :=
  l.foldl (fun (acc : State × List Codeword) w =>
    match acc.1.mirEvent 0x0B 4 (fun _ => true) with
    | (t, none) => (t, acc.2 ++ [w])
    | (t, some n) =>
      let k := t.rd (MIR.AMOUNT.at n) % 256
      (t, acc.2 ++ [if t.rd (MIR.SEL.at n) % 2 = 1 then { w with f := w.f + k } else { w with e := w.e + k }])) (s, [])

/-- The injections of a level 0 decode. Log: 57 (DESIGN CHOICE). -/
def State.injectDecode (s : State) (d : Decode) : State × Decode :=
  let (t, c1) := s.injectCodewords d.c1
  let (t, pi) := t.injectCodewords d.piFirst
  (t, { d with c1 := c1, piFirst := pi })

/-- The leaves and counters of a decode (R253). -/
def State.noteDecode (s : State) (u : EUnit) (d : Decode) (st : DecodeStat) : State :=
  let l0 := u.level = 0
  let mis := st.clean && d.sectors.any fun x => bit u.need x.index && edcFails x
  let failing := d.sectors.filter fun x => !sectorGood st x
  let erg := !l0 && d.frames.any fun f => s.segsNow.any fun g => s.segCovers g u.addr u.layer &&
    arcsMeet g.tStart (arcLen g.tStart g.tEnd) f.1 (arcLen f.1 f.2)
  let t := (s.add ECD.UNITS 1).add ECD.CORRECTED st.corrected
  let t := if mis then t.add ECD.MISCORRECTS 1 else t
  t.setLeaves ((if l0 && s.rd ECD.C1_THR < st.c1Bad then [Lf.ECC.C1_OVER] else []) ++
    (if 0 < st.c2Bad then [Lf.ECC.C2_OVER] else []) ++
    (if failing.any (fun x => x.kind == 0) then [Lf.ECC.CIRC_FAIL] else []) ++
    (if d.sectors.any (fun x => (x.kind == 1 || x.kind == 2) && !x.edc) then [Lf.ECC.CD_EDC_FAIL] else []) ++
    (if 0 < st.l2Bad then [Lf.ECC.CD_L2_FAIL] else []) ++
    (if d.sectors.any (fun x => x.kind == 3 && edcFails x) then [Lf.ECC.FORM2_EDC] else []) ++
    (if l0 && s.rd ECD.PI_THR < st.piFirstBad then [Lf.ECC.PI_OVER] else []) ++
    (if 0 < st.poBad then [Lf.ECC.PO_OVER] else []) ++
    (if 0 < st.poBad + st.piBad then [Lf.ECC.RSPC_FAIL] else []) ++
    (if d.sectors.any (fun x => x.kind == 4 && !x.edc) then [Lf.ECC.DVD_EDC_FAIL] else []) ++
    (if mis then [Lf.ECC.MISCORRECT] else []) ++
    (if erg then [Lf.ECC.ERASURE_USED] else []) ++
    (if st.past then [Lf.ECC.ERASURE_OVER] else []) ++
    (if !l0 && 4 ≤ st.errors then [Lf.ECC.ERASURE_MISS] else []))

/-- A unit has failed level 0: its count, its rate, and its report to the Erg map (R241, R253). -/
def State.failedL0 (s : State) (u : EUnit) (d : Decode) : State :=
  let sec := s.now / 1000000
  let n := if s.ecd.failSec = sec then s.ecd.fails + 1 else 1
  let due := s.rd ECD.FAIL_RATE_THR < n && !(s.ecd.failSec = sec && s.ecd.failSet)
  let t := { s with ecd := { s.ecd with failSec := sec, fails := n, failSet := due || (s.ecd.failSec = sec && s.ecd.failSet) } }
  let t := (t.add ECD.FAILS_L0 1).leafIf due Lf.ECC.FAIL_RATE
  match d.failed with
  | some (a, b) => if arcLen a b < 4096 then t.ergReport 2 u.addr u.layer a b else t
  | none => t

/-- A decode of a unit at its level: the sectors that it takes, and the unit with what is left (R230, R232, R524). Log: 56
(DESIGN CHOICE). -/
def State.decodeUnit (s : State) (u : EUnit) (d : Decode) : State × EUnit × DecodeStat :=
  let (s, d) := if u.level = 0 then s.injectDecode d else (s, d)
  let st := s.judge u.level d
  let t := s.noteDecode u d st
  let good := fun (x : SectorDec) => u.forced ≤ u.level && sectorGood st x
  let (t, v) := (d.sectors.filter good).foldl (fun (acc : State × EUnit) x =>
    acc.1.takeSector acc.2 x.index x.kind u.level 0 x.data x.sub x.c2) (t, u)
  (t, { v with bad := d.sectors.filter fun x => !good x && bit v.need x.index }, st)

/-! ### Borrowers served from the disc (R461) -/

/-- One sector of a borrow sent: 2,352 or 2,064 bytes; a DVD sector is rebuilt only from the shadow or the drive. -/
def State.sendBorrow (s : State) (b : BServe) (i : Nat) (data : List Byte) : State :=
  s.sendTo b.src { tag := b.tag, epoch := b.epoch, param := i, body := .borrowData data }

/-- A borrow that this node serves goes on: sectors that have come are sent, those whose unit has ended are missing, and
BORROW_DONE ends it. -/
def State.bserveStep (s : State) (b : BServe) : State :=
  let (t, b) := (setBits 16 b.need).foldl (fun (acc : State × BServe) i =>
    let (t, b) := acc
    let a := b.addr + i
    let m := clearBits b.need (2 ^ i)
    match t.cachedAt 1 (t.discBlock a b.layer), t.shadowNow b.layer a with
    | _, some x => ((t.sendBorrow b i x.data), { b with need := m, sent := true })
    | some c, none =>
      match t.cacheGet c with
      | (u, some l) => (u.sendBorrow b i (if c.raw then l.take 2352 else padTo 2064 (List.replicate 12 0 ++ l)), { b with need := m, sent := true })
      | (u, none) => (u, b)
    | none, none =>
      if (t.unitAt (t.unitAddr a) b.layer).isSome then (t, b) else (t, { b with need := m, missing := b.missing ||| 2 ^ i })) (s, b)
  let rest := t.ryl.bserves.filter fun x => !(x.src == b.src && x.tag == b.tag && x.epoch == b.epoch)
  if b.need = 0 then
    let t := { t with ryl := { t.ryl with bserves := rest } }
    let t := t.sendTo b.src { tag := b.tag, epoch := b.epoch, body := .borrowDone b.missing }
    if b.sent then (t.add RYL.BORROWS_SERVED 1).setLeaf Lf.RYL.BORROW_SERVED else (t.add RYL.BORROW_MISSES 1).setLeaf Lf.RYL.BORROW_MISS
  else { t with ryl := { t.ryl with bserves := rest ++ [b] } }

/-- Every borrow that waits for this drive's units goes on. -/
def State.serveBorrowers (s : State) : State := s.ryl.bserves.foldl State.bserveStep s

/-! ### Averaging (R245 to R248) -/

/-- AVG_MAX and AVG_MIN: 16 is written as 0. -/
def State.avgMax (s : State) : Nat := if s.rd AVG.AVG_MAX = 0 then 16 else s.rd AVG.AVG_MAX
def State.avgMin (s : State) : Nat := if s.rd AVG.AVG_MIN = 0 then 16 else s.rd AVG.AVG_MIN

/-- The unit that AVERAGE works on. -/
def State.avgUnit (s : State) : Option EUnit :=
  if s.is AVG.BUSY then (s.unitAt (s.rd AVG.ADDR) (s.rd AVG.LAYER)).filter fun u => u.level == 3 && u.holding else none

/-- After a pass that was not combined, or a combine that did not decode: the next pass, a restart, or the end in failure
(R248). -/
def State.avgNext (s : State) (u : EUnit) : State :=
  if s.is AVG.EARLY_STOP && 2 ≤ s.avg.flat then
    if s.is AVG.RESTART_EN && !s.is AVG.RESTARTED then
      ({ s with avg := {} }.wrAll [(AVG.PASSES, 0), (AVG.RESTARTED, 1), (AVG.STATE, 2)]).setLeaf Lf.AVG.RESTART
    else s.climb u
  else if s.avgMax ≤ s.avg.taken then (s.setLeaf Lf.AVG.PASS_LIMIT).climb u
  else s.wr AVG.STATE 2

/-- Whether a frame of a pass is added, and whether its sync re-anchors it (R246). Log: 59 (DEDUCED). -/
def State.frameAdded (s : State) (first : Bool) (f : PassFrame) : Bool :=
  f.found || first || (f.ofs.natAbs ≤ s.rd AVG.ALIGN_WIN && s.rd AVG.ALIGN_THR ≤ f.corr)
/-- Log: 59 (DEDUCED). -/
def State.frameSlips (s : State) (f : PassFrame) : Bool := f.found && f.ofs ≠ 0 && f.ofs.natAbs ≤ s.rd AVG.ALIGN_WIN

/-- A frame's samples added at their grid bits (R247). Log: 58 (DESIGN CHOICE). -/
def addFrame (acc : List (Nat × Int × Nat)) (f : PassFrame) : List (Nat × Int × Nat) :=
  ((List.range f.samples.length).zip f.samples).foldl (fun a x => accAdd a (f.at_ + x.1) x.2) acc

/-- A share in 1/1,024 of the bits of the unit. -/
def State.perK (s : State) (n : Nat) : Nat := (Config.quot 74 (1024 * n : Nat) (accBits s.isDvd)).toNat

/-- A combine over the accumulator, with its leaves (R247, R248, R255). -/
def State.combine (s : State) : State :=
  let vals := s.avg.acc.map fun e => combined e.2.1 e.2.2
  let total := accBits s.isDvd
  let erased := total - vals.length
  let clips := (vals.filter fun v => v.natAbs == 31).length
  let mags := (vals.map Int.natAbs).foldl (· + ·) 0
  let gain : Bool := match s.avg.last with
    | some l => decide (erased < l)
    | none => true
  let t := { s with avg := { s.avg with last := some erased, flat := if gain then 0 else s.avg.flat + 1 } }
  let t := (t.add AVG.COMBINES 1).wrAll [(AVG.STATE, 4), (AVG.COMBINED, s.perK erased)]
  t.setLeaves ([Lf.AVG.COMBINE_DONE] ++
    (if erased < s.avg.best.getD total then [Lf.AVG.IMPROVED] else []) ++
    (if gain then [] else [Lf.AVG.NO_GAIN]) ++
    (if s.rd AVG.CLIP_FR * total < 256 * clips then [Lf.AVG.SOFT_CLIP] else []) ++
    (if mags < s.rd AVG.CONF_THR * vals.length then [Lf.AVG.CONF_LOW] else []))

/-- A pass that is not combined: no sync, another unit's address, or more than half of its frames left out (R246). -/
def State.passSkipped (s : State) (u : EUnit) (noSync wrong : Bool) : State :=
  let t := (s.add AVG.SKIPS 1).setLeaves ((if noSync then [Lf.AVG.ALIGN_SYNC_LOST] else []) ++ [Lf.AVG.REV_SKIP] ++
    (if wrong then [Lf.AVG.DISC_SLIP] else []))
  let t := if wrong then t.askSeek u.addr u.layer else t
  (t.avgNext u).serveBorrowers

/-- A pass added to the accumulator, and the combine that follows from the second one (R247). -/
def State.passAdded (s : State) (u : EUnit) (added : List PassFrame) : State :=
  let good := (added.map fun f => (f.samples.filter fun v => v ≠ 0x20).length).foldl (· + ·) 0
  let erased := accBits s.isDvd - good
  let best := min erased (s.avg.best.getD erased)
  let t := { s with avg := { s.avg with acc := added.foldl addFrame s.avg.acc, best := some best } }
  let t := t.wrAll [(AVG.PASSES, t.rd AVG.PASSES + 1), (AVG.BEST_SINGLE, t.perK best)]
  if t.avgMin ≤ t.rd AVG.PASSES then t.combine else (t.avgNext u).serveBorrowers

/-- The counts and leaves of a pass (R246, R255). -/
def State.notePass (s : State) (p : Pass) (out : Nat) : State :=
  let t := { s with avg := { s.avg with taken := s.avg.taken + 1 } }
  ((t.add AVG.PASS_COUNT 1).add AVG.ALIGN_FAILS out).setLeaves ([Lf.AVG.PASS_DONE] ++
    (if 0 < out then [Lf.AVG.ALIGN_FAIL] else []) ++ (if p.frames.any s.frameSlips then [Lf.AVG.ALIGN_SLIP] else []))

/-- A pass of the unit that AVERAGE works on. -/
def State.takePass (s : State) (u : EUnit) (p : Pass) : State :=
  let first : Bool := s.rd AVG.PASSES == 0
  let added := p.frames.filter (s.frameAdded first)
  let out := p.frames.length - added.length
  let noSync := !p.frames.any PassFrame.found
  let wrong : Bool := match p.addr with
    | some a => s.unitAddr a != u.addr
    | none => false
  let t := s.notePass p out
  if noSync || wrong || decide (p.frames.length < 2 * out) then t.passSkipped u noSync wrong else t.passAdded u added

/-- AVG_PASS_END (R246 to R248). -/
def execAvgPassEnd (p : Pass) (s : State) : Host.Outcome State Fault Refusal :=
  match s.avgUnit with
  | none => done s
  | some u => if s.rd AVG.STATE ≠ 2 || s.pageDown 0x0D then done s else done ((s.mirStage 0x0D).takePass u p)

/-- AVG_ACCUMULATOR_GRANT (R245, R275): the accumulator is the request that the allocator serves next, and it fits. -/
def execAvgAccumulatorGrant (s : State) : Host.Outcome State Fault Refusal :=
  match s.mem.wait with
  | r :: rest =>
    let e := s.evictFor (r.pages + s.rd MEM.RSV_PAGES) 1536
    if r.use = .accum && s.rd AVG.STATE = 1 && s.allocOk && r.pages + s.rd MEM.RSV_PAGES ≤ e.freePages.length && !s.withheld 0x0E then
      let (t, _) := { e with mem := { e.mem with wait := rest } }.grantPages .accum r.pages
      done (t.wrAll [(AVG.HELD, 1), (AVG.STATE, 2)])
    else if r.use = .accum && s.rd AVG.STATE = 1 then done (s.mirGrant 0x0E).1
    else done s
  | [] => done s

/-- AVG_ALLOC_TIMEOUT (R245). -/
def execAvgAllocTimeout (s : State) : Host.Outcome State Fault Refusal :=
  match s.avgUnit with
  | some u => if s.rd AVG.STATE = 1 then done ((s.setLeaf Lf.AVG.BUF_FULL).climb u).serveBorrowers else done s
  | none => done s

/-- AVERAGE ends in failure, by ABORT or with its block (R251, R252). -/
def State.avgAbort (s : State) (l : List Leaf) : State := match s.avgUnit with
  | some u => ((s.setLeaves l).climb u).serveBorrowers
  | none => s

/-- AVG_ABORT (R251). -/
def execAvgAbort (s : State) : Host.Outcome State Fault Refusal :=
  if s.pageDown 0x0D then done s else done ((s.avgAbort [Lf.AVG.ABORTED]).goDone AVG.ABORT)

/-! ### Decodes and re-reads (R229 to R239) -/

/-- UNIT_DECODE_DONE (R229, R230, R232, R248): a decode at NORMAL or ERASURE, or of a combine. Log: 56 (DESIGN CHOICE). -/
def execUnitDecodeDone (d : Decode) (s : State) : Host.Outcome State Fault Refusal :=
  if s.pageDown 0x0B then done s
  else match s.unitAt d.addr d.layer with
  | none => done { s.add ECD.UNITS 1 with chn := { s.chn with entries := [] } }
  | some u =>
    let avg := u.level = 3 && u.holding && s.rd AVG.STATE = 4
    if !(u.level ≤ 1 || avg) then done s
    else
      let s := { s.mirStage 0x0B with chn := { s.chn with entries := [] } }
      let (t, v, st) := s.decodeUnit u d
      let t := t.setUnit v
      if v.need = 0 then
        let t := if avg then
            let n := t.rd AVG.PASSES
            (t.wr AVG.DECODED_AT n).setLeaf (Lf.AVG.DECODED_2.plus (n - 2))
          else t.leafIf (u.level = 0 && st.full) Lf.ECC.LOW_MARGIN
        done (t.unitDone v).serveBorrowers
      else if avg then done (t.avgNext v).serveBorrowers
      else
        let t := if u.level = 0 then t.failedL0 v d else t
        done (t.climb v).serveBorrowers

/-- REREAD_ATTEMPT_DONE (R233, R236). Log: 56 (DESIGN CHOICE). -/
def execRereadAttemptDone (d : Decode) (s : State) : Host.Outcome State Fault Refusal :=
  if s.pageDown 0x0B then done s
  else match s.unitAt d.addr d.layer with
  | none => done s
  | some u =>
    if u.level ≠ 2 || !u.holding then done s
    else
      let (t, v, _) := (s.mirStage 0x0B).decodeUnit u d
      let v := { v with attempts := v.attempts + 1 }
      let t := t.setUnit v
      if v.need = 0 then done (t.unitDone v).serveBorrowers
      else if min v.tries (t.rd ECD.REREAD_N) ≤ v.attempts then done ((t.setLeaf Lf.ECC.RETRY_LIMIT).climb v).serveBorrowers
      else done (t.askSeek v.addr v.layer)

/-! ### Borrowing (R249, R250) -/

/-- BORROW_DATA_RECEIVED (R250, R463, R467): whether the sector passes its check, which depends on its kind. Log: 63
(DEDUCED). -/
def execBorrowDataReceived (rport : Nat) (c : Caravan) (good : Bool) (s : State) : Host.Outcome State Fault Refusal :=
  done (s.rx rport c fun t =>
    match t.openOf c, c.body with
    | some o, .borrowData data =>
      match o.unit.bind fun k => t.unitAt k.1 k.2 with
      | none => t.discardReply c false
      | some u =>
        if !good then (t.add ECD.MISMATCHES 1).setLeaf Lf.ECC.BORROW_MISMATCH
        else
          let (t, v) := t.takeSector u c.param (if t.isDvd then 4 else 1) 4 (infoBit stBorrowed) data [] []
          (t.unitSettle v).serveBorrowers
    | _, _ => t.discardReply c false)

/-- BORROW_DONE_RECEIVED (R249): the peer named the sectors that it does not hold. Log: 63 (DEDUCED). -/
def execBorrowDoneReceived (rport : Nat) (c : Caravan) (s : State) : Host.Outcome State Fault Refusal :=
  done (s.rx rport c fun t =>
    match t.openOf c with
    | none => t.discardReply c true
    | some o =>
      let t := t.closeOpens (· == o) false
      match o.unit.bind fun k => t.unitAt k.1 k.2 with
      | some u => (t.borrowNext u).serveBorrowers
      | none => t)

/-- BORROW_TIMEOUT (R249): a peer does not answer within BORROW_MS and is passed over. -/
def execBorrowTimeout (addr layer : Nat) (s : State) : Host.Outcome State Fault Refusal :=
  match s.unitAt addr layer with
  | none => done s
  | some u =>
    if u.level = 4 && (s.ryl.opens.any fun o => o.unit == some (addr, layer)) then
      done ((s.closeOpens (fun o => o.unit == some (addr, layer)) false).borrowNext u).serveBorrowers
    else done s

/-! ### The Erg map (R243, R244, R257) -/

/-- ERG_CLEAR (R243, R251). -/
def execErgClear (s : State) : Host.Outcome State Fault Refusal :=
  if s.pageDown 0x0C then done s else done ((s.ergEmpty.setLeaf Lf.ERG.MAP_CLEARED).goDone ERG.CLEAR)

/-- ERG_SAVE (R243). -/
def execErgSave (s : State) : Host.Outcome State Fault Refusal :=
  if s.pageDown 0x0C then done s else done (s.ergSave.goDone ERG.SAVE)

/-- ERG_CMD.SCAN (R244): the scan is disc work. -/
def State.ergScan (s : State) : State :=
  if s.pageDown 0x0C then s
  else
    let (t, starts) := s.goWrite ERG.SCAN
    if starts then (t.wr ERG.SCANNING 1).discWork 10 else t

/-- ERG_SCAN (R244). -/
def execErgScan (s : State) : Host.Outcome State Fault Refusal := done s.ergScan

/-- ERG_SCAN_DONE (R244). -/
def execErgScanDone (s : State) : Host.Outcome State Fault Refusal :=
  if s.is ERG.SCANNING && !s.pageDown 0x0C then
    let (t, again) := ((s.wrAll [(ERG.SCANNING, 0), (ERG.LEARNED, 1)]).setLeaf Lf.ERG.LEARN_DONE).goEnd ERG.SCAN
    done (if again then t.wr ERG.SCANNING 1 else t)
  else done s

/-- The four words of a slot (R240). -/
def segWords : Option Seg → List Nat
  | none => [0, 0, 0, 0]
  | some g => [2 ^ 31 + g.layer * 2 ^ 30 + g.kind * 2 ^ 28 + g.aLo % 2 ^ 24, g.hits * 2 ^ 24 + g.aHi % 2 ^ 24,
      g.tEnd * 2 ^ 16 + g.tStart, b2n g.long * 1024 + b2n g.crack * 512 + b2n g.shadow * 256 + g.falseRun % 256]

/-- A read of SEG_DATA_0 copies the slot that SEG_INDEX names (R257). -/
def State.segHold (s : State) : State :=
  let ws := segWords (s.erg.segs.find? fun g => g.slot == s.rd ERG.SEG_INDEX)
  s.wrAll ((List.range 4).map fun k => (ERG.SEG_DATA.at k, (ws[k]?).getD 0))

/-- SEG_DATA_READ (R257). -/
def execSegDataRead (port : HostPort) (s : State) : Host.Outcome State Fault Refusal :=
  if s.pageDown 0x0C then done (s.emit (.regData port 0xC060 0))
  else
    let t := s.segHold
    done (t.emit (.regData port 0xC060 (t.rd (ERG.SEG_DATA.at 0))))

end Sys2Proof.Machine
end

