-- ==== Sys2Proof/Machine/RylNet.lean ====
section
/-! DEFINITION. Election, node IDs, the roster and its generations, node loss and remote commands as shared operations
(R447 to R464). -/

namespace Sys2Proof.Machine

/-! ### This node (R447, R451) -/

/-- A key better than another: the higher PRIORITY, then the lower UNIQUE (R447). -/
def keyBetter (p u q v : Nat) : Bool := q < p || (p == q && u < v)

/-- This node's candidate key. -/
def State.ownKey (s : State) : Nat × Nat := (s.rd RYL.PRIORITY, ownUnique)

/-- BEST: its key and its hop count. -/
def State.bestNow (s : State) : Nat × Nat × Nat := match s.ryl.best with
  | some b => (b.priority, b.unique, b.hops)
  | none => (s.ownKey.1, s.ownKey.2, 0)

/-- DISC_TAG of this node (R451). -/
def State.discTag (s : State) : Nat :=
  if (s.is RYL.EXPORT_DISC || s.is RYL.BORROW_SERVE) && s.is RYL.ID_OK && !s.is RYL.PARTIAL then s.rd (RYL.IDENT.at 0) else 0

/-- This node's roster entry as it is now (R451). -/
def State.ownEntry (s : State) : RosterEnt :=
  { unique := ownUnique, id := s.rd RYL.NODE_ID,
    neigh := (List.range 3).map fun x =>
      if s.is (RYL.UP.at x) && s.is (RYL.NEIGH_VALID.at x) then some (s.rd (RYL.NEIGH_ID.at x)) else none,
    elder := s.is RYL.ELDER, disc := s.rd LDR.DISC != 0, borrow := s.is RYL.BORROW_SERVE, priority := s.rd RYL.PRIORITY,
    libs := s.rd RYL.EXPORT_LIB, discTag := s.discTag, bloom := s.bloom }

/-- ELECT sent on every up port with BEST and one hop more (R447). -/
def State.sendElect (s : State) : State :=
  let (p, u, h) := s.bestNow
  s.upPorts.foldl (fun t x => t.sendOn x { body := .elect p u (h + 1) }) s

/-- BEST replaced: the node is no elder, and it waits for a ROSTER of the one that BEST names (R447, R448). Log: 113
(DEDUCED). -/
def State.setBest (s : State) (b : Option Best) : State :=
  let t := { s with ryl := { s.ryl with best := b, awaitElder := true, needSync := true, full := [] } }
  let t := t.wrAll [(RYL.ELDER, 0), (RYL.JOIN_STATE, 1), (RYL.ELDER_PORT, match b with | some x => x.port + 1 | none => 0),
    (RYL.HOPS, match b with | some x => x.hops | none => 0)]
  t.sendElect

/-- A caravan sent toward the elder: by its route, else by ELDER_PORT (R444). -/
def State.sendElder (s : State) (c : Caravan) : State :=
  match s.routeUp (s.rd RYL.ELDER_ID) with
  | some x => s.sendOn x { c with dst := s.rd RYL.ELDER_ID }
  | none =>
    let p := s.rd RYL.ELDER_PORT
    if p ≠ 0 && s.is (RYL.UP.at (p - 1)) then s.sendOn (p - 1) { c with dst := s.rd RYL.ELDER_ID } else s

/-- A caravan of the tree sent on every up port but one. -/
def State.broadcast (s : State) (but : Option Nat) (c : Caravan) : State :=
  (s.upPorts.filter fun x => some x ≠ but).foldl (fun t x => t.enqueue x { c := c, since := t.elapsed }) s

/-! ### Granting IDs (R449) -/

/-- The ID that the elder grants: the reserved one, the preferred one, the lowest free one, the one reserved the longest.
Log: 121 (DEDUCED). -/
def State.grantOfId (s : State) (unique : Nat) (pref : Option Nat) : Option Nat :=
  let used := (s.ryl.roster.filter fun e => e.unique ≠ unique).map RosterEnt.id
  let reserved := (s.ryl.reserved.filter fun e => e.1 ≠ unique).map Prod.snd
  let free := fun (n : Nat) => n < 0x10000 && !used.contains n && !reserved.contains n
  let mine := ((s.ryl.reserved.find? fun e => e.1 == unique).map Prod.snd).filter fun n => !used.contains n
  (mine.orElse fun _ => pref.filter free).orElse fun _ =>
    ((List.range (used.length + reserved.length + 1)).find? free).orElse fun _ => reserved.find? fun n => !used.contains n

/-- A grant noted: the ID is reserved for its UNIQUE. Log: 121 (DEDUCED). -/
def State.noteGrant (s : State) (unique id : Nat) : State :=
  { s with ryl := { s.ryl with reserved := (s.ryl.reserved.filter fun e => e.1 ≠ unique && e.2 ≠ id) ++ [(unique, id)] } }

/-- The ID that this node prefers (R449, R450). -/
def State.preferredId (s : State) : Option Nat :=
  if s.is RYL.ID_VALID then some (s.rd RYL.NODE_ID)
  else if s.is RYL.PREF_EN then some (s.rd RYL.PREF_ID) else s.ryl.lastId

/-- JOIN_REQ sent toward the elder (R449). -/
def State.sendJoin (s : State) : State :=
  let p := s.rd RYL.ELDER_PORT
  if p = 0 || !s.is RYL.JOIN_EN then s
  else (s.wr RYL.JOIN_STATE 2).sendOn (p - 1) { body := .joinReq ownUnique s.preferredId [] }

/-- HELLO sent on the up ports, so that the neighbours learn a new node ID (R441). Log: 114 (DEDUCED). -/
def State.sendHello (s : State) : State :=
  s.upPorts.foldl (fun t x => t.sendOn x { body := .hello ownUnique (some (t.rd RYL.NODE_ID)) x }) s

/-- The node holds an ID (R449, R450). Log: 114 (DEDUCED). -/
def State.takeId (s : State) (id : Nat) : State :=
  let t := { s with ryl := { s.ryl with lastId := some id, reported := none } }
  (t.wrAll [(RYL.ID_VALID, 1), (RYL.NODE_ID, id), (RYL.JOIN_STATE, 3)]).sendHello

/-! ### The roster (R451 to R453) -/

/-- Whether both ends report a link (R451). -/
def linked (e f : RosterEnt) : Bool := e.neigh.contains (some f.id) && f.neigh.contains (some e.id)

/-- The nodes that mutual links connect to those found so far. -/
def connected (es : List RosterEnt) : Nat → List RosterEnt → List RosterEnt
  | 0, seen => seen
  | n + 1, seen =>
    let next := es.filter fun e => !seen.contains e && seen.any fun f => linked e f
    if next = [] then seen else connected es n (seen ++ next)

/-- The roster that the elder's reports make: every node that reported links connect to it, with those links (R451). -/
def State.elderRoster (s : State) : List RosterEnt :=
  let own := s.ownEntry
  let es := own :: (s.ryl.reports.filter fun e => e.unique ≠ own.unique)
  let there := connected es es.length [own]
  sortBy RosterEnt.id (there.map fun e =>
    { e with elder := e.unique == own.unique,
             neigh := e.neigh.map fun o => o.filter fun n => there.any fun f => f.id == n && linked e f })

/-- ROSTER_HELD: the entries that the pages granted hold (R453). -/
def State.showHeld (s : State) : State :=
  s.wr RYL.ROSTER_HELD (min s.ryl.roster.length (128 * (s.mem.owners.filter fun o => o.2 == PageUse.roster).length))

/-- Pages asked for or freed as the roster grows or shrinks: one per 128 entries (R453). -/
def State.rosterPages (s : State) : State :=
  let need := ceilDiv s.ryl.roster.length 128
  let held := (s.mem.owners.filter fun o => o.2 == PageUse.roster).map Prod.fst
  let other := s.mem.wait.filter fun r => r.use != PageUse.roster
  let t := { s with mem := { s.mem with wait := other } }
  let t := if need < held.length then (held.drop need).foldl State.freePage t
    else if held.length < need then
      if other = [] && t.allocOk && need - held.length ≤ t.freePages.length then (t.grantPages .roster (need - held.length)).1
      else { t with mem := { t.mem with wait := other ++ List.replicate (need - held.length) (PageReq.mk .roster 1) } }
    else t
  t.showHeld

/-! ### Remote commands (R456 to R459) -/

/-- The bytes of a command's remote data that stand in a row from its start. -/
def remotePrefix (l : List (Nat × List Byte)) : Nat → Nat → Nat
  | 0, n => n
  | k + 1, n => match l.find? fun e => e.1 ≤ n && n < e.1 + e.2.length with
    | some e => remotePrefix l k (e.1 + e.2.length)
    | none => n
def Cmd.remoteLen (c : Cmd) : Nat := remotePrefix c.remote c.remote.length 0

/-- A remote command whose data goes to the host as it arrives: not VERIFY and not RIP. -/
def Cmd.remotePlain (c : Cmd) : Bool := c.isMmc || c.opcode == 0x10

/-- A remote command completes once NS_DONE and all its data have arrived (R458). -/
def State.remoteCheck (s : State) (tag : Nat) : State :=
  match s.cmd tag with
  | none => s
  | some c => match c.remoteDone with
    | none => s
    | some (specific, residual, status) =>
      if c.remotePlain && c.dlen - residual ≤ c.remoteLen then s.finishFull tag status specific residual none else s

/-- A command's open transactions closed without their replies: the tags are quarantined (R94). -/
def State.closeCmd (s : State) (tag : Nat) : State := s.closeOpens (fun o => o.cmd == some tag) true

/-- A remote command ends with a fabric status; RESIDUAL counts every byte from the first that has not come (R352). -/
def State.remoteFail (s : State) (tag status : Nat) : State :=
  match s.cmd tag with
  | none => s.closeCmd tag
  | some c => (s.closeCmd tag).finishFull tag status 0 (c.dlen - c.remoteLen) none

/-- NS_DONE sent for a request that this node served or refused (R457). -/
def State.nsReply (s : State) (src tag epoch status specific residual : Nat) : State :=
  s.sendTo src { tag := tag, epoch := epoch, body := .nsDone specific residual status }

/-! ### Node loss (R463) -/

/-- A request that this node serves ends without its reply: its tag returns (R463). -/
def State.serveEnd (s : State) (v : Serve) : State :=
  let t := { s with ryl := { s.ryl with serves := s.ryl.serves.filter (· ≠ v) }
                    que := { s.que with accepted := s.que.accepted.filter fun a => !(a.qp == 8 && a.index == v.key) } }
  (t.que.cmds.filter fun c => c.qp == 8 && c.sqHead == v.key).foldl State.recoverTag t

/-- What ends with a node (R463). -/
def State.nodeGone (s : State) (d : Nat) : State :=
  let opens := s.ryl.opens.filter fun o => o.node == d
  let tags := opens.filterMap RylOpen.cmd
  let t := tags.foldl (fun (t : State) g => t.remoteFail g stNodeGone) s
  let t := t.leafIf (tags ≠ []) Lf.RYL.NODE_GONE_INFLIGHT
  let t := (opens.filterMap RylOpen.unit).foldl (fun (t : State) k =>
    let t := t.closeOpens (fun o => o.unit == some k && o.node == d) true
    match t.unitAt k.1 k.2 with
    | some u => t.borrowNext u
    | none => t) t
  let mine := t.ryl.serves.filter fun v => v.src == d
  let bor := t.ryl.bserves.filter fun v => v.src == d
  let t := mine.foldl State.serveEnd t
  let t := { t with ryl := { t.ryl with bserves := t.ryl.bserves.filter fun v => v.src ≠ d } }
  t.add RYL.GONE_ENDED (mine.length + bor.length)

/-! ### Generations (R452, R453, R459, R463) -/

/-- The entry of a node in a roster. -/
def entryOf (es : List RosterEnt) (id : Nat) : Option RosterEnt := es.find? fun e => e.id == id

/-- The slices that may use the remote disc of a node take a unit attention (R459). -/
def State.remoteChange (s : State) (d : Nat) : State :=
  let ns := 0x80000000 + d * 0x100 + 1
  (s.boundSlices.filter fun i => s.mayAccess i ns).foldl (fun t i => t.setUa i 2) s

/-- A generation applied: the roster that it makes takes over (R452, R453, R459, R463). -/
def State.applyRoster (s : State) (gen : Nat) (new : List RosterEnt) : State :=
  let old := s.ryl.roster
  let own := s.rd RYL.NODE_ID
  let gone := old.filter fun e => e.id ≠ own && !new.any fun f => f.id == e.id && f.unique == e.unique
  let came := new.filter fun e => !old.any fun f => f.id == e.id && f.unique == e.unique
  let both := new.filterMap fun e => (entryOf old e.id).map fun f => (f, e)
  let tags := (both.filter fun q => q.1.discTag ≠ q.2.discTag).map fun q => q.2.id
  let libs := both.any fun q => q.1.libs ≠ q.2.libs
  let t := { s.wr RYL.GEN (gen % 2 ^ 32) with
    ryl := { s.ryl with roster := sortBy RosterEnt.id new, rebuilding := true, lossPending := s.ryl.lossPending || gone ≠ [] } }
  let t := gone.foldl (fun t e => t.nodeGone e.id) t
  let t := tags.foldl State.remoteChange t
  let t := t.setLeaves ([Lf.RYL.ROSTER_CHANGED] ++ (if came ≠ [] then [Lf.RYL.NODE_JOINED] else []) ++
    (if gone ≠ [] then [Lf.RYL.NODE_LEFT] else []) ++
    (if tags ≠ [] || libs then [Lf.RYL.REMOTE_NS_CHANGE] else []))
  t.rosterPages

/-- A delta over a roster: changed entries replace those of their node, and removed nodes leave. -/
def applyDelta (old es : List RosterEnt) (gone : List Nat) : List RosterEnt :=
  (old.filter fun e => !gone.contains e.id && !es.any fun f => f.id == e.id || f.unique == e.unique) ++ es

/-- The elder's roster brought up to what is reported: each change is a generation of at most 127 entries (R444, R452).
Log: 117 (DEDUCED). -/
def State.elderStep (s : State) : Nat → State
  | 0 => s
  | n + 1 =>
    let want := s.elderRoster
    let have_ := s.ryl.roster
    let gone := (have_.filter fun e => !want.any fun f => f.id == e.id).map RosterEnt.id
    let changed := want.filter fun e => !have_.contains e
    if gone = [] && changed = [] then s
    else
      let g := gone.take 127
      let es := changed.take (127 - g.length)
      let gen := (s.rd RYL.GEN + 1) % 2 ^ 32
      let t := s.broadcast none { src := s.rd RYL.NODE_ID, body := .roster gen es g }
      -- an ID that leaves the roster stays reserved, now as the newest reservation (R449)
      let left := t.ryl.reserved.filter fun (r : Nat × Nat) => g.contains r.2
      let t := { t with ryl := { t.ryl with reserved := (t.ryl.reserved.filter fun (r : Nat × Nat) => !g.contains r.2) ++ left } }
      (t.applyRoster gen (applyDelta have_ es g)).elderStep n

/-- The elder's roster brought up to date. Log: 118 (DEDUCED). -/
def State.elderUpdate (s : State) : State :=
  if s.is RYL.ELDER && s.is RYL.ID_VALID then s.elderStep (s.ryl.roster.length + s.ryl.reports.length + 2) else s

/-- What ends every event of the node: idle ports train, and a change of this node's own entry is reported (R440, R451).
Log: 115 (DEDUCED). -/
def State.rylReport (s : State) : State :=
  if !s.rylUp then s
  else
    let t := (setBits 3 (s.rd RYL.PORT_EN)).foldl (fun (t : State) x =>
      if t.is (RYL.UP.at x) || (t.rport x).sentHello then t else t.train x) s
    if t.is RYL.ELDER then t.elderUpdate
    else if t.is RYL.ID_VALID && !t.ryl.awaitElder && t.rd RYL.JOIN_STATE = 3 && t.ryl.reported ≠ some t.ownEntry then
      ({ t with ryl := { t.ryl with reported := some t.ownEntry } }).sendElder { body := .neigh t.ownEntry }
    else t

/-- A caravan's event as a whole. -/
def State.rxDone (s : State) (x : Nat) (c : Caravan) (h : State → State) : Host.Outcome State Fault Refusal :=
  done (s.rx x c h).rylReport

/-! ### Reset and gate of the node (R466) -/

/-- Everything of the node cleared: its links are down and it has left the roster. -/
def State.rylClear (s : State) : State :=
  let t := s.ryl.serves.foldl State.serveEnd s
  let t := (List.range 3).foldl State.linkDown t
  let pages := (t.mem.owners.filter fun o => o.2 == PageUse.roster).map Prod.fst
  let t := pages.foldl State.freePage { t with ryl := {}, mem := { t.mem with wait := t.mem.wait.filter fun r => r.use != PageUse.roster } }
  t.wrAll [(RYL.ROSTER_HELD, 0)]

end Sys2Proof.Machine
end

