-- ==== Sys2Proof/Machine/Memory.lean ====
section
/-! DEFINITION. The cache window, the fill, the scrubber, the tables, and the allocator (10_sector_cache.md). -/

namespace Sys2Proof.Machine

/-! ### Upsets, the fill and address parity (R262, R263) -/

/-- Stored bits that have flipped since the last access: a word and one of its bits each. Log: 67 (DESIGN CHOICE). -/
def State.upset (s : State) (l : List (Nat × Nat)) : State := l.foldl (fun t u => t.flipStored u.1 u.2) s

/-- The words that a list of flipped bits names, each once, in rising order. -/
def upsetWords (l : List (Nat × Nat)) : List Nat :=
  sortBy id (l.foldl (fun a u => if a.contains u.1 then a else a ++ [u.1]) [])

/-- The zero-fill ends (R263): every word holds zero with valid check bits but for the bits that did not take, and the
banks whose read-back met an uncorrectable word are retired. Log: 67 (DESIGN CHOICE), 69 (DEDUCED). -/
def State.memFilled (s : State) (upsets : List (Nat × Nat)) : State :=
  let t := ({ s with cells := [], ecc := [] }).upset upsets
  let bad := (upsetWords upsets).filter fun w => syndromeOf (t.synd w) = .bad
  let ok := (List.range 12).filter fun b => bad.all fun w => w / 65536 ≠ b
  let t := bad.foldl (fun (t : State) w => t.ueEvent w (t.synd w) 6) t
  ((t.wr MEM.BANKS_OK (ofBits ok)).leafIf (bad ≠ []) Lf.MEM.FILL_FAIL).setLeaf Lf.MEM.FILL_DONE

/-- The address parity of the next bank access fails. Log: 68 (DESIGN CHOICE). -/
def State.withParity (s : State) (par : Bool) : State := { s with mem := { s.mem with parityFaults := b2n par } }

/-- No access is left whose address parity fails. Log: 68 (DESIGN CHOICE). -/
def State.noParity (s : State) : State := { s with mem := { s.mem with parityFaults := 0 } }

/-! ### The cache window (R265, R268, R277 to R280, R287) -/

/-- The window accepts accesses: the engines are released and MEM is not quiesced (R279, R304). Log: 72 (DESIGN CHOICE). -/
def State.windowOpen (s : State) : Bool := s.pow.phase == .run && !s.is (Hdr.QUIESCE 0x0E)

/-- Bytes of the window, those past the array reading as zero (R35); none when a word is uncorrectable. -/
def State.windowRead (s : State) (req off len : Nat) : State × Option (List Byte) :=
  let n := min len (cacheBytes - off)
  let (t, r) := s.cacheRead req off n
  (t, r.map fun l => l ++ List.replicate (len - n) (0 : Byte))

/-- Whether a window write of a page lands (R277). -/
def State.windowLands (s : State) (off : Nat) : Bool := off < cacheBytes && (s.is MEM.WIN_WR_ANY || s.inHost off)

/-- Bytes written through the window, word by word; `false` when a merge was refused (R265, R268). -/
def State.windowWrite (s : State) (req off : Nat) (data : List Byte) (en : List Bool) : State × Bool :=
  ((wordsOf off data.length).filter fun w => s.windowLands (8 * w)).foldl (fun (acc : State × Bool) w =>
    let (t, ok) := acc.1.writeWord req w (bytesInWord off data en w)
    (t, acc.2 && ok)) (s, true)

/-- The lengths of a BAR4 read's completions: each ends at a 64-byte boundary or with the request, and none is longer than
256 bytes (R287). Log: 71 (DESIGN CHOICE). -/
def cutCompletions : Nat → Nat → Nat → List Nat
  | 0, _, _ => []
  | fuel + 1, off, len =>
    if len = 0 then []
    else
      let n := min len (256 - off % 64)
      if n = 0 then [] else n :: cutCompletions fuel (off + n) (len - n)

/-- The data completions of a BAR4 read sent. Log: 71 (DESIGN CHOICE). -/
def State.sendData (s : State) (off : Nat) (data : List Byte) : State :=
  ((cutCompletions data.length off data.length).foldl (fun (acc : State × Nat) n =>
    (acc.1.emit (.completion 0 (slice data acc.2 n) false), acc.2 + n)) (s, 0)).1

/-- BAR4_READ (R268, R277, R280, R287). Log: 70 (DEDUCED), 72 (DESIGN CHOICE). -/
def execBar4Read (off len : Nat) (hdr : List Nat) (par : Bool) (s : State) : Host.Outcome State Fault Refusal :=
  if s.rd HPT.DSTATE ≠ 0 then done (s.answerUr false hdr)
  else if s.pageDown 0x0E then done (s.answerCa hdr)
  else if !s.windowOpen then done s
  else match (s.mirStage 0x0E).withParity par |>.windowRead 0 off len with
    | (t, some data) => done (t.noParity.sendData off data)
    | (t, none) => done ((t.noParity.answerCa hdr).setLeaf Lf.SYS.RECOVERY_DONE)

/-- BAR4_WRITE (R265, R268, R277, R280, R287). Log: 70 (DEDUCED), 72 (DESIGN CHOICE). -/
def execBar4Write (off : Nat) (data : List Byte) (en : List Bool) (hdr : List Nat) (par : Bool) (s : State) :
    Host.Outcome State Fault Refusal :=
  if s.rd HPT.DSTATE ≠ 0 then done (s.answerUr true hdr)
  else if s.pageDown 0x0E || !s.windowOpen then done s
  else
    let (t, ok) := (s.mirStage 0x0E).withParity par |>.windowWrite 0 off data en
    done (t.noParity.leafIf (!ok) Lf.SYS.RECOVERY_DONE)

/-! ### The scrubber (R274) -/

/-- The scrubber runs (R274, R278, R280). -/
def State.scrubbing (s : State) : Bool :=
  s.is MEM.SCRUB_EN && s.pow.phase == .run && s.rd TIME.STATE ≤ 1 && s.windowOpen && !s.pageDown 0x0E

/-- The word at the scrub position read, and rewritten when it is correctable. Log: 68 (DESIGN CHOICE). -/
def State.scrubOne (s : State) (w : Nat) (par : Bool) : State :=
  if par then (s.setLeaf Lf.MEM.ADDR_PARITY).ueEvent w 0 5
  else match syndromeOf (s.synd w) with
    | .clean => s
    | .bit n =>
      let t := s.ceEvent w (s.synd w) n
      ((t.putWord w (correctBytes (s.wordBytes w) n) 0).add MEM.SCRUB_FIXES 1).setLeaf Lf.MEM.SCRUB_FIXED
    | .bad => (((s.ueEvent w (s.synd w) 5).add MEM.SCRUB_UES 1).setLeaf Lf.MEM.SCRUB_UE).dropSectorAt w

/-- The scrub position moved on; at the end of a pass it returns to word 0 (R274). -/
def State.scrubNext (s : State) : State :=
  let w := s.rd MEM.SCRUB_POS + 1
  if w < 786432 then s.wr MEM.SCRUB_POS w
  else
    let t := { s with mem := { s.mem with scrubLate := false } }
    ((t.wr MEM.SCRUB_POS 0).add MEM.SCRUB_PASSES 1).setLeaf Lf.MEM.SCRUB_DONE

/-- SCRUB_WORD (R262, R274). Log: 67 (DESIGN CHOICE). -/
def execScrubWord (upsets : List (Nat × Nat)) (par : Bool) (s : State) : Host.Outcome State Fault Refusal :=
  let t := s.upset upsets
  if t.scrubbing then done (t.scrubOne (t.rd MEM.SCRUB_POS) par).scrubNext else done t

/-- SCRUB_LATE (R274): the pass has run for more than twice SCRUB_S, reported once per pass. -/
def execScrubLate (s : State) : Host.Outcome State Fault Refusal :=
  if s.scrubbing && !s.mem.scrubLate then
    done (({ s with mem := { s.mem with scrubLate := true } }).setLeaf Lf.MEM.SCRUB_LATE)
  else done s

/-! ### The tables (R269, R270, R281, R283) -/

/-- The correctable table emptied. -/
def State.tblClearCe (s : State) : State :=
  if s.pageDown 0x0E then s else ({ s with mem := { s.mem with ceTab := [] } }).goDone MEM.CLEAR_CE

/-- The uncorrectable table emptied. -/
def State.tblClearUe (s : State) : State :=
  if s.pageDown 0x0E then s else ({ s with mem := { s.mem with ueTab := [] } }).goDone MEM.CLEAR_UE

/-- TBL_CLEAR_CE (R281). -/
def execTblClearCe (s : State) : Host.Outcome State Fault Refusal := done s.tblClearCe

/-- TBL_CLEAR_UE (R281). -/
def execTblClearUe (s : State) : Host.Outcome State Fault Refusal := done s.tblClearUe

/-- The entry that TBL_INDEX names. -/
def State.tblEntry (s : State) : Option TabEnt :=
  (if s.is MEM.TABLE then s.mem.ueTab else s.mem.ceTab).find? fun e => e.entry == s.rd MEM.ENTRY

/-- TBL_DATA_0 as it reads now (R283). -/
def State.tblData0 (s : State) : Nat := match s.tblEntry with
  | some e => 2 ^ 31 + b2n e.cleared * 2 ^ 30 + e.synd * 2 ^ 20 + e.word
  | none => 0

/-- A read of TBL_DATA_0 copies the rest of the entry into the holding register (R283). -/
def State.tblHold (s : State) : State :=
  match s.tblEntry with
  | some e => s.wrAll [(MEM.TD_COUNT, e.count), (MEM.TD_BIT, e.bit)]
  | none => s.wrAll [(MEM.TD_COUNT, 0), (MEM.TD_BIT, 0)]

/-- TBL_DATA_READ (R41, R283). -/
def execTblDataRead (port : HostPort) (k : Nat) (s : State) : Host.Outcome State Fault Refusal :=
  let down := s.is (Hdr.GATED 0x0E) || s.pow.resetting.contains 0x0E
  if k = 0 then
    let t := if down then s else s.tblHold
    done (t.emit (.regData port 0xE074 (if down then 0 else s.tblData0)))
  else done (s.emit (.regData port 0xE078 (if down then 0 else s.rd MEM.TD_COUNT * 65536 + s.rd MEM.TD_BIT)))

/-! ### The allocator and the host region (R271, R275, R276) -/

/-- A value of HOST_PAGES asked for: it waits until it may take effect (R276). -/
def State.askHostPages (s : State) (source v : Nat) : State :=
  let waits := v ≠ s.rd MEM.HOST_NOW
  ({ s with mem := { s.mem with hostPend := if waits then some (v, source) else none } }).wr MEM.HOST_PEND (b2n waits)

/-- A page range that a host-region user holds: its first byte and its length. -/
def State.hostUsers (s : State) : List (Nat × Nat) :=
  let loc := s.que.pairs.filter QPair.loc
  loc.map (fun p => (p.sqBase, 64 * p.depth)) ++ loc.map (fun p => (p.cqBase, 16 * p.depth)) ++
  (s.que.cmds.filter fun c => c.loc).map (fun c => (c.dptr, c.dlen)) ++
  (match s.lib.raw with
    | some _ => [(s.rd OAS.RAW_BUF * 0x1000, 0x5000)]
    | none => []) ++
  (if s.is AUD.SRC then [(s.rd AUD.RING_PAGE * 0x1000, s.rd AUD.RING_PAGES * 0x1000)] else []) ++
  (if s.is TRC.RUN && s.is TRC.LOC then
    [(s.rd TRC.BUF_BASE_LO * 64 + s.rd TRC.BUF_BASE_HI * 2 ^ 32, 2 ^ s.rd TRC.BUF_LOG2 * 16)] else [])

/-- Whether a size may take effect (R276): pages added are unallocated, and no user lies in a page removed. -/
def State.hostReady (s : State) (n : Nat) : Bool :=
  let now := s.rd MEM.HOST_NOW
  (s.mem.owners.all fun o => !(now ≤ o.1 && o.1 < n)) &&
    s.hostUsers.all fun u => u.2 = 0 || u.1 + u.2 ≤ n * 0x1000 || now * 0x1000 ≤ u.1

/-- HOST_PAGES_TAKE_EFFECT (R276, R50). -/
def execHostPagesTakeEffect (s : State) : Host.Outcome State Fault Refusal :=
  match s.mem.hostPend with
  | none => done s
  | some (n, source) =>
    if s.hostReady n && s.allocOk then
      let t := (({ s with mem := { s.mem with hostPend := none } }).wr MEM.HOST_NOW n).wr MEM.HOST_PEND 0
      done ((t.reclamp source OAS.RAW_BUF).reclamp source AUD.RING_PAGE)
    else done s

/-- PAGE_ALLOC_GRANT (R275, R338, R278, R280): the first waiting request but an accumulator's, which may pass one. -/
def State.allocGrant (s : State) : State :=
  match s.mem.wait.find? fun r => r.use != PageUse.accum with
  | none => s
  | some r =>
    if !s.allocOk then s
    else
      let (s, ok) := s.mirGrant 0x0E
      let t := if s.freePages.length < r.pages then s.evictFor r.pages 1536 else s
      if !ok || t.freePages.length < r.pages then s
      else
        let (t, _) := ({ t with mem := { t.mem with wait := t.mem.wait.erase r } }).grantPages r.use r.pages
        if r.use = .roster then t.showHeld else t

/-- PAGE_ALLOC_GRANT (R275). -/
def execPageAllocGrant (s : State) : Host.Outcome State Fault Refusal := done s.allocGrant

/-- PAGE_FREE (R271): the allocator takes back a cache page whose sectors no command holds. -/
def execPageFree (page : Nat) (s : State) : Host.Outcome State Fault Refusal :=
  let held := s.mem.sectors.any fun c => c.off / 0x1000 == page && s.blockHeld c.ns c.block
  if s.mem.owners.contains (page, .cache) && !held then
    done ((({ s with mem := { s.mem with sectors := s.mem.sectors.filter fun c => c.off / 0x1000 ≠ page } }).freePage page))
  else done s

end Sys2Proof.Machine
end

