-- ==== Sys2Proof/Machine/Time.lean ====
section
/-! DEFINITION. The timebase: the stage meter, REFCLK, the servo output latches and TIME.NOW (01_handshake_time.md). -/

namespace Sys2Proof.Machine

/-- The smallest of the region counts that are not zero; 0 when all are (R24). -/
def slowestCount (l : List Nat) : Nat :=
  (l.filter (· ≠ 0)).foldl (fun m c => if m = 0 || c < m then c else m) 0

/-- 1,000,000,000 divided by the count, rounded up to a whole picosecond (R24). -/
def stagePsOf (count : Nat) : Nat := ceilDiv 1000000000 count

/-- One µs passes: TIME.NOW advances while REFCLK is present outside a held core and STANDBY (R561). Log: 3 (DESIGN
CHOICE). -/
def State.tick (s : State) : State :=
  let runs := s.pow.refclk && (s.pow.phase == .boot || s.pow.phase == .run)
  { s with elapsed := s.elapsed + 1, now := if runs then s.now + 1 else s.now }

/-- The stage meter's fields after a window with at least one turning ring. A STAGE_PS past 16 bits is not stated. Log: 138
(DESIGN CHOICE). -/
def State.meter (s : State) (count : Nat) : State :=
  let (open16, t) := s.free 0x10000
  let ps := if stagePsOf count ≤ 0xFFFF then stagePsOf count else open16
  t.wrAll [(TIME.STAGE_COUNT, count), (TIME.STAGE_PS, ps), (TIME.MAX_PS, max (s.rd TIME.MAX_PS) ps),
    (TIME.MIN_PS, min (s.rd TIME.MIN_PS) ps)]

/-- CAL.DRIFT at a window's end (R135): armed again once a window shows a difference of at most half of LIMIT_PS. -/
def State.calDrift (s : State) : State :=
  let a := s.rd TIME.STAGE_PS
  let b := s.rd CAL.STAGE_AT_CAL
  let d := max a b - min a b
  if 2 * d ≤ s.rd CAL.LIMIT_PS then { s with cal := { s.cal with driftArmed := true } }
  else if s.is CAL.VALID && s.rd CAL.LIMIT_PS < d && s.cal.driftArmed then
    ({ s with cal := { s.cal with driftArmed := false } }).setLeaf Lf.CAL.DRIFT
  else s

/-- REFCLK_STOP (R562, R80): REF_OK clears, REF_LOST sets and a window under way is abandoned. -/
def execRefclkStop (s : State) : Host.Outcome State Fault Refusal :=
  if !s.pow.refclk then done s
  else
    let t := { s with pow := { s.pow with refclk := false, window := false, refWasLost := true } }
    let t := t.wrAll [(TIME.REF_OK, 0), (TIME.DLL_LOCK, 0), (TIME.REF_LOST, 1)]
    done (t.setLeaves (Lf.TMP.REF_LOST :: (if s.pow.window then [Lf.TMP.WINDOW_LOST] else [])))

/-- DLL_LOCK_ACQUIRED (R562, R80): REFCLK is present and its phases are locked, so REF_OK is 1 and a window starts. Log: 4
(DEDUCED). -/
def execDllLockAcquired (s : State) : Host.Outcome State Fault Refusal :=
  if s.is TIME.DLL_LOCK then done s
  else
    let t := { s with pow := { s.pow with refclk := true, window := true, refWasLost := false } }
    let t := t.wrAll [(TIME.DLL_LOCK, 1), (TIME.REF_OK, 1)]
    done (t.leafIf s.pow.refWasLost Lf.TMP.REF_BACK)

/-- DLL_UNLOCK (R80): DLL_LOCK falls while REFCLK is present, and REF_OK with it. -/
def execDllUnlock (s : State) : Host.Outcome State Fault Refusal :=
  if s.pow.refclk && s.is TIME.DLL_LOCK then
    done ((s.wrAll [(TIME.DLL_LOCK, 0), (TIME.REF_OK, 0)]).setLeaf Lf.TMP.DLL_UNLOCK)
  else done s

/-- A loop's place in the lists of results and outputs. -/
def loopIdx : Loop → Nat
  | .foc => 0 | .trk => 1 | .lpc => 2 | .sld => 3 | .spn => 4

/-- SERVO_UPDATE (R20, R22): the output latch takes the core result, or keeps its value when the result is late. -/
def execServoUpdate (loop : Loop) (late : Bool) (s : State) : Host.Outcome State Fault Refusal :=
  if !s.pow.refclk then done s
  else if late then done ((s.add TIME.SERVO_LATE 1).setLeaf Lf.SRV.UPDATE_LATE)
  else done { s with loopOut := setAt s.loopOut (loopIdx loop) ((s.loopResult[loopIdx loop]?).getD 0) }

/-- WATER_CLR (R32): a write of 1 to STAGE_CTL.WATER_CLR. -/
def execWaterClr (s : State) : Host.Outcome State Fault Refusal := done (s.goWrite TIME.WATER_CLR).1

/-- WATER_CLR_DONE (R32): MAX_PS and MIN_PS take their cleared values and the GO bit clears. -/
def execWaterClrDone (s : State) : Host.Outcome State Fault Refusal :=
  if s.is TIME.WATER_CLR then done ((s.wrAll [(TIME.MAX_PS, 0), (TIME.MIN_PS, 0xFFFF)]).goEnd TIME.WATER_CLR).1
  else done s

/-- A read of NOW_LO: the high half is captured in NOW_HI (R31). -/
def State.readNowLo (s : State) : State × Nat := (s.wr TIME.NOW_HI (s.now / 2 ^ 32), s.now % 2 ^ 32)

/-- NOW_LO_READ (R31). -/
def execNowLoRead (port : HostPort) (s : State) : Host.Outcome State Fault Refusal :=
  done (s.readNowLo.1.emit (.regData port 0x2054 s.readNowLo.2))

/-- OP_SECONDS_TICK (R500): a further 1,000,000 µs of TIME.NOW since the restore of the life counters. -/
def execOpSecondsTick (s : State) : Host.Outcome State Fault Refusal :=
  if s.recd.restored then done (s.add SYS.OP_SECONDS 1) else done s

end Sys2Proof.Machine
end

