-- ==== Sys2Proof/Machine/Audio.lean ====
section
/-! DEFINITION. Direct audio out: the frame clock, the FIFO, concealment, subcode, and the host path (17_audio_out.md). -/

namespace Sys2Proof.Machine

/-! ### Ramps (R478 to R480) -/

/-- A level one frame lower; from full the first of `ramp` steps down. -/
def rampDown (ramp : Nat) : Option Nat → Option Nat
  | none => some ramp
  | some n => some (n - 1)

/-- A level one frame higher; `ramp` + 1 is full. -/
def rampUp (ramp : Nat) : Option Nat → Option Nat
  | none => none
  | some n => if ramp < n + 1 then none else some (n + 1)

/-- The lower of two levels. -/
def lowerOf : Option Nat → Option Nat → Option Nat
  | none, b => b
  | a, none => a
  | some a, some b => some (min a b)

/-- A sample scaled by a level, rounded toward zero. -/
def scaleBy (ramp : Nat) (lvl : Option Nat) (x : Int) : Int := match lvl with
  | none => x
  | some n => (x * n).tdiv (ramp + 1)

/-! ### Frames of the FIFO (R477, R478) -/

/-- A frame: the samples of both channels and their C2 flags. -/
structure Frame where
  l : Int
  r : Int
  fl : Bool := false
  fr : Bool := false
  deriving DecidableEq, Repr

/-- Frame `i` of a sector. -/
def AudSec.frame (x : AudSec) (i : Nat) : Frame :=
  { l := ofCode 16 (leAt x.data (4 * i) 2), r := ofCode 16 (leAt x.data (4 * i + 2) 2),
    fl := flaggedSample x.c2 (2 * i), fr := flaggedSample x.c2 (2 * i + 1) }

/-- The next frames from a place in the first sector on, at most `n` of them. -/
def framesFrom : List AudSec → Nat → Nat → List Frame
  | _, _, 0 => []
  | [], _, _ => []
  | x :: rest, pos, n + 1 =>
    let here := (List.range (min (588 - pos) (n + 1))).map fun i => x.frame (pos + i)
    here ++ framesFrom rest 0 (n + 1 - here.length)

/-- Whole sectors not yet output (AUD.LEVEL). Log: 122 (DESIGN CHOICE). -/
def State.audLevel (s : State) : Nat := if s.aud.pos = 0 then s.aud.fifo.length else s.aud.fifo.length - 1

/-- The length of the run of set flags at a place. Log: 123 (DEDUCED). -/
def runAt (flags : List Bool) (i : Nat) : Nat := ((flags.drop i).takeWhile id).length

/-- Whether the run at a place is muted: longer than CONCEAL_MAX, or open at the end of the lookahead or of the play. Log:
123 (DEDUCED). -/
def mutedRun (max_ : Nat) (flags : List Bool) (i : Nat) : Bool :=
  let n := runAt flags i
  max_ < n || flags.length ≤ i + n

/-- The distance to the next frame from which a run of a channel is muted, within the ramp. Log: 123 (DEDUCED). -/
def nextMute (max_ ramp : Nat) (flags : List Bool) : Option Nat :=
  ((List.range ramp).map (· + 1)).find? fun d =>
    (flags[d]?).getD false && !(flags[d - 1]?).getD false && mutedRun max_ flags d

/-- One channel of a frame: its run goes on, begins or is over (R478). -/
structure ChanStep where
  run : Option AudRun
  good : Option Int
  out : Int
  /-- an interpolated run begins here -/
  begins : Bool := false
  deriving DecidableEq, Repr

/-- The interpolated sample at place `k` of a run, rounded toward zero. -/
def AudRun.value (r : AudRun) : Int := (r.before * (r.n + 1) + (r.after - r.before) * (r.k + 1)).tdiv (r.n + 1)

/-- A channel's step over its samples and flags within the lookahead. Log: 123 (DEDUCED). -/
def chanStep (max_ : Nat) (run : Option AudRun) (good : Option Int) (xs : List Int) (flags : List Bool) : ChanStep :=
  let x := xs.headD 0
  if !flags.headD false then { run := none, good := some x, out := x }
  else match run with
    | some r => let r := { r with k := r.k + 1 }
                { run := some r, good := good, out := if r.muted then 0 else r.value }
    | none =>
      let n := runAt flags 0
      match good, mutedRun max_ flags 0 with
      | some g, false =>
        let r : AudRun := { muted := false, before := g, after := (xs[n]?).getD 0, n := n }
        { run := some r, good := good, out := r.value, begins := true }
      | _, _ => { run := some { muted := true }, good := good, out := 0 }

/-! ### What leaves the pins (R472, R473, R482) -/

/-- A 16-bit sample in a word of the output width. -/
def State.audWord (s : State) (x : Int) : Nat := if s.is AUD.WIDTH then toCode 24 (x * 256) else toCode 16 x

/-- A word in its slot: 24-bit words are followed by 8 zero bits. -/
def State.audSlot (s : State) (w : Nat) : Nat := if s.is AUD.WIDTH then w * 256 else w

/-- A frame put out: AUD_SD through the de-emphasis filter when it is on, S/PDIF unfiltered with its validity bits. Log:
126 (DESIGN CHOICE). -/
def State.audOut (s : State) (l r : Int) (vl vr : Bool) : State :=
  let wl := s.audWord l
  let wr := s.audWord r
  let filt := s.is AUD.DEEMPH_EN && s.is AUD.EMPH
  let width := if s.is AUD.WIDTH then 2 ^ 24 else 2 ^ 16
  let (fl, t) := if filt then s.free width else (wl, s)
  let (fr, t) := if filt then t.free width else (wr, t)
  let pair := [t.audSlot fl, t.audSlot fr]
  let slots := if s.rd AUD.FORMAT = 2 then pair ++ (if s.is AUD.TDM_COPY then pair else [0, 0]) else pair
  t.emit (.audio slots (if s.is AUD.SPDIF_LIVE then some (wl, wr, vl, vr) else none))

/-- A frame of zeros. Log: 125 (DEDUCED). -/
def State.audZero (s : State) : State := (s.audOut 0 0 true true).wr AUD.MUTED 1

/-! ### The disc that feeds the FIFO (R476, R477) -/

/-- The next sector of the running burst asked of the decoder (R237). -/
def State.audAsk (s : State) : State :=
  match s.aud.play with
  | none => s
  | some p =>
    if p.reading && p.next < p.stop && p.ending.isNone then
      let (a, l) := s.discAddr p.next
      s.needSector a l (s.rd ECD.DIRECT_MAX) 255 true
    else s

/-- A play replaced. -/
def State.setPlay (s : State) (p : Play) : State := { s with aud := { s.aud with play := some p } }

/-- Output begins once START_FILL sectors are held, or as many as there will be (R476). Log: 124 (DEDUCED). -/
def State.audStart (s : State) (p : Play) : State :=
  let held := (s.aud.fifo.filter AudSec.fresh).length
  if s.rd AUD.STATE = 2 && (s.rd AUD.START_FILL ≤ held || p.next = p.stop || !p.reading || p.skip) then
    if s.is AUD.PAUSE then (s.wr AUD.STATE 4).setLeaves [Lf.AUD.PLAY_START, Lf.AUD.PLAY_PAUSE]
    else (s.wr AUD.STATE 3).setLeaf Lf.AUD.PLAY_START
  else s

/-- A sector put into the FIFO: what is left of the play before a skip goes, and reading stops at HIGH (R477, R484). Log:
122 (DESIGN CHOICE). -/
def State.audEnter (s : State) (p : Play) (x : ReadySec) : State :=
  let old := s.aud.fifo.filter fun y => !y.fresh
  let t := if old = [] then s else
    old.foldl (fun (t : State) _ => t.freeAudio false)
      { s with aud := { s.aud with fifo := [], pos := 0, runL := none, runR := none } }
  let q := qOfSub x.sub
  let sec : AudSec := { lba := p.next, data := x.data, c2 := x.c2, q := if qPasses q then some q else none }
  let t := { t with aud := { t.aud with fifo := t.aud.fifo ++ [sec] }, ecd := { t.ecd with ready := t.ecd.ready.filter (· ≠ x) } }
  let full := t.rd AUD.HIGH ≤ t.audLevel
  let p := { p with next := p.next + 1, reading := !full }
  let t := if t.rd AUD.STATE = 1 then t.wr AUD.STATE 2 else t
  ((((t.setPlay p).leafIf full Lf.AUD.FIFO_HIGH).audStart p)).audAsk

/-- AUDIO_SECTOR_ENTER (R275, R477, R487): the next sector of the play has been decoded, and a page holds it. -/
def execAudioSectorEnter (s : State) : Host.Outcome State Fault Refusal :=
  match s.aud.play with
  | none => done s
  | some p =>
    match s.ecd.ready.find? fun x => x.addr == (s.discAddr p.next).1 with
    | none => done s.audAsk
    | some x =>
      if !p.reading || p.ending.isSome || s.is (Hdr.QUIESCE 0x14) || s.pageDown 0x14 || !s.allocOk || s.withheld 0x14 then done s
      else
        let t := if s.freePages = [] then s.evictPage else s
        match t.grantPages .audio 1 with
        | (_, []) => done s
        | (u, _) => done ((u.mirStage 0x14).audEnter p x)

/-! ### Subcode of the sector being output (R481) -/

/-- The Q of a sector whose first frame is output. Log: 128 (DEDUCED), 145 (DEDUCED). -/
def State.audQ (s : State) (q : Option (List Byte)) : State :=
  match q with
  | none =>
    let n := s.aud.noQ + 1
    let t := { s with aud := { s.aud with noQ := n } }
    if n = 10 then (t.add AUD.SUBQ_GAPS 1).setLeaf Lf.AUD.SUBCODE_GAP else t
  | some q =>
    let s := { s with aud := { s.aud with noQ := 0 } }
    let b := beAt q 0 1
    let control := b / 16
    let e := bit control 0
    let c := bit control 1
    let t := s.wrAll [(AUD.CONTROL, control), (AUD.EMPH, b2n e), (AUD.COPY_OK, b2n c)]
    let l := (if e && !s.is AUD.EMPH then [Lf.AUD.EMPH_ON] else []) ++ (if !e && s.is AUD.EMPH then [Lf.AUD.EMPH_OFF] else []) ++
      (if c ≠ s.is AUD.COPY_OK then [Lf.AUD.COPY_CHANGE] else [])
    let tno := beAt q 1 1
    let idx := beAt q 2 1
    if b % 16 = 1 then
      (t.wrAll [(AUD.TNO, tno), (AUD.INDEX, idx)]).setLeaves (l ++
        (if tno ≠ s.rd AUD.TNO then [Lf.AUD.TRACK_CHANGE] else if idx ≠ s.rd AUD.INDEX then [Lf.AUD.INDEX_CHANGE] else []) ++
        (if idx = 0 && s.rd AUD.INDEX ≠ 0 then [Lf.AUD.PREGAP] else []))
    else if b % 16 = 3 then
      (t.wrAll [(AUD.ISRC_LO, leAt q 1 4), (AUD.ISRC_HI, leAt q 5 4)]).setLeaves (l ++ [Lf.AUD.ISRC_READY])
    else t.setLeaves l

/-! ### One frame of the direct path (R477 to R484) -/

/-- The first frame of a sector: its Q, its LBA, and the end of a skip. Log: 145 (DEDUCED). -/
def State.audSector (s : State) (p : Play) (x : AudSec) : State × Play :=
  let t := (s.audQ x.q).wrAll [(AUD.POS, x.lba), (AUD.PATH, 0)]
  if p.skip && x.fresh then (t.setLeaf Lf.AUD.SKIP_DONE, { p with skip := false }) else (t, p)

/-- The last frame of a sector has left: the sector is gone, and reading resumes at LOW. -/
def State.audPop (s : State) (p : Play) (x : AudSec) : State × Play :=
  let t := ({ s with aud := { s.aud with fifo := s.aud.fifo.drop 1, pos := 0 } }).freeAudio false
  let p := if x.fresh then { p with lastOut := some x.lba } else p
  let low := !p.reading && p.next < p.stop && t.audLevel ≤ t.rd AUD.LOW && p.ending.isNone
  if low then (t.setLeaf Lf.AUD.FIFO_LOW, { p with reading := true }) else (t, p)

/-- Frames left until the play's end, once its last sector is held. -/
def State.framesLeft (s : State) (p : Play) : Option Nat :=
  if p.next = p.stop && s.aud.fifo.all AudSec.fresh then some (588 * s.aud.fifo.length - s.aud.pos) else none

/-- The levels of the ramps for the next frame: pause, mute and stop go down while asked for and up again after. -/
def State.audRamps (s : State) (stopping : Bool) : State :=
  let r := s.rd AUD.RAMP
  let go := fun (down : Bool) (l : Option Nat) => if down then rampDown r l else rampUp r l
  let a := s.aud
  { s with aud := { a with pauseLvl := go (s.is AUD.PAUSE) a.pauseLvl, muteLvl := go (s.is AUD.MUTE) a.muteLvl,
                           stopLvl := go stopping a.stopLvl } }

/-- An empty frame (R477, R484): zeros, counted, and a ramp-up is due. Log: 125 (DEDUCED). -/
def State.audEmpty (s : State) (p : Play) : State :=
  let first := !s.aud.inGap
  let t := { s with aud := { s.aud with inGap := true, upLvl := some 0 } }
  if p.skip then
    ((t.setPlay { p with gap := true }).leafIf (!p.gap) Lf.AUD.SEEK_GAP).audZero
  else (((t.add AUD.UNDERRUNS 1).leafIf first Lf.AUD.UNDERRUN).audZero).add AUD.FRAMES 1

/-- A frame of samples put out at its level, with the marks of concealment and muting (R478). -/
def State.audFrame (s : State) (p : Play) (x : AudSec) : State :=
  let (t, p) := if s.aud.pos = 0 then s.audSector p x else (s, p)
  let cm := t.rd AUD.CONCEAL_MAX
  let r := t.rd AUD.RAMP
  let win := framesFrom t.aud.fifo t.aud.pos 256
  let fl := win.map Frame.fl
  let fr := win.map Frame.fr
  let cl := chanStep cm t.aud.runL t.aud.goodL (win.map Frame.l) fl
  let cr := chanStep cm t.aud.runR t.aud.goodR (win.map Frame.r) fr
  let isMuted := fun (c : ChanStep) => match c.run with
    | some x => x.muted
    | none => false
  let muted := isMuted cl || isMuted cr
  let up := if muted then some 0 else rampUp r t.aud.upLvl
  let near := lowerOf (nextMute cm r fl) (nextMute cm r fr)
  let last : Option Nat := if p.how = .range then none else (t.framesLeft p).filter fun d => d ≤ r
  let lvl := [near, last, t.aud.pauseLvl, t.aud.muteLvl, t.aud.stopLvl].foldl lowerOf up
  let ends := t.aud.inMute && !muted
  let begins := muted && !t.aud.inMute
  let starts := b2n cl.begins + b2n cr.begins
  let interp := fun (c : ChanStep) => c.run.isSome && !isMuted c
  let ramped := lvl ≠ none
  let v := fun (c : ChanStep) => ramped || (interp c && t.is AUD.V_CONCEAL)
  let t := t.audOut (scaleBy r lvl cl.out) (scaleBy r lvl cr.out) (v cl) (v cr)
  let t := (t.wr AUD.MUTED (b2n (lvl == some 0))).add AUD.FRAMES 1
  let t := (t.add AUD.CONCEALS starts).add AUD.MUTES (b2n begins)
  let t := t.setLeaves ((if 0 < starts then [Lf.AUD.CONCEAL] else []) ++ (if begins then [Lf.AUD.MUTE_ON] else []) ++
    (if ends then [Lf.AUD.MUTE_OFF] else []))
  let p := { p with concealed := p.concealed || muted || interp cl || interp cr }
  let t := { t with aud := { t.aud with runL := cl.run, runR := cr.run, goodL := cl.good, goodR := cr.good, inMute := muted,
                                        inGap := false, hostOn := false, upLvl := up, pos := t.aud.pos + 1 } }
  let (t, p) := if t.aud.pos = 588 then t.audPop p x else (t, p)
  let t := (t.setPlay p).audAsk
  if t.aud.pos = 0 && x.fresh && x.lba + 1 = p.stop then
    t.playEnd stGood ((match p.how with
      | .range => []
      | .data => [Lf.AUD.DATA_TRACK]
      | .leadOut => [Lf.AUD.END_OF_DISC]) ++ [Lf.AUD.PLAY_STOP])
  else t

/-- One frame boundary of a play. -/
def State.directFrame (s : State) (p : Play) : State :=
  let st := s.rd AUD.STATE
  let t := s.audRamps p.ending.isSome
  match p.ending with
  | some status =>
    if t.aud.stopLvl = some 0 then t.playEnd status [Lf.AUD.PLAY_STOP]
    else match t.aud.fifo with
      | [] => t.audEmpty p
      | x :: _ => t.audFrame p x
  | none =>
    if st = 4 && t.aud.pauseLvl = some 0 then t.audZero
    else match t.aud.fifo with
      | x :: _ => if st = 3 || st = 4 || !x.fresh then t.audFrame p x else t.audZero
      | [] => if st = 3 || st = 4 || p.skip then t.audEmpty p else t.audZero

/-! ### The host path (R485) -/

/-- A frame of the ring: none when the ring is empty, has no place, or the word does not read. Log: 128 (DEDUCED). -/
def State.ringFrame (s : State) : State × Option Frame :=
  let pages := s.rd AUD.RING_PAGES
  let r := s.rd AUD.RING_RPTR
  if s.rd MEM.HOST_NOW < pages || r = s.rd AUD.RING_WPTR || s.is (Hdr.QUIESCE 0x14) then (s, none)
  else
    let (t, l) := s.cacheRead 3 (s.rd AUD.RING_PAGE * 0x1000 + 4 * r) 4
    let t := t.wr AUD.RING_RPTR ((r + 1) % (pages * 1024))
    (t, l.map fun b => { l := ofCode 16 (leAt b 0 2), r := ofCode 16 (leAt b 2 2) })

/-- One frame boundary of the host path. Log: 128 (DEDUCED). -/
def State.hostFrame (s : State) : State :=
  let t := (s.audRamps false).wrAll [(AUD.EMPH, s.rd AUD.HC_EMPH), (AUD.COPY_OK, s.rd AUD.HC_COPY_OK)]
  if t.aud.pauseLvl = some 0 then t.audZero
  else match t.ringFrame with
    | (t, some f) =>
      let r := t.rd AUD.RAMP
      let up := rampUp r t.aud.upLvl
      let lvl := lowerOf up (lowerOf t.aud.pauseLvl t.aud.muteLvl)
      let t := (t.audOut (scaleBy r lvl f.l) (scaleBy r lvl f.r) (lvl ≠ none) (lvl ≠ none)).wrAll
        [(AUD.MUTED, b2n (lvl == some 0)), (AUD.PATH, 1)]
      let t := (t.add AUD.FRAMES 1).leafIf (!t.aud.hostOn) Lf.AUD.HOST_PATH
      { t with aud := { t.aud with upLvl := up, inGap := false, hostOn := true } }
    | (t, none) =>
      let first := !t.aud.inGap
      let t := { t with aud := { t.aud with inGap := true, upLvl := some 0 } }
      (((t.add AUD.UNDERRUNS 1).leafIf first Lf.AUD.UNDERRUN).audZero).add AUD.FRAMES 1

/-! ### Frame and block boundaries, and MCLK_IN (R473 to R475, R488) -/

/-- The audio island runs: powered, clocked, and its block up (R97, R474). -/
def State.audUp (s : State) : Bool :=
  s.pow.phase == .run && s.rd TIME.STATE ≤ 1 && s.is AUD.MCLK_OK && !s.pageDown 0x14

/-- The commit point of AUD's SHD fields (R475). -/
def State.audCommit (s : State) : State :=
  let t := s.commitPage 0x14
  if [AUD.FORMAT, AUD.WIDTH, AUD.MCLK_MUL, AUD.TDM_COPY].any fun f => t.rd f ≠ s.rd f then
    ({ t with aud := { t.aud with zeros := 64 } }).setLeaf Lf.AUD.FORMAT_CHANGE
  else t

/-- AUDIO_FRAME_BOUNDARY (R475, R477, R485, R488). -/
def State.audBoundary (s : State) : State :=
  let t := s.audCommit
  if 0 < t.aud.zeros then
    (({ t with aud := { t.aud with zeros := t.aud.zeros - 1 } }).audZero).add AUD.FRAMES 1
  else match t.aud.play with
    | some p => t.directFrame p
    | none =>
      if t.is AUD.SRC then t.hostFrame
      else ({ t with aud := { t.aud with hostOn := false } }).audZero

/-- AUDIO_FRAME_BOUNDARY. -/
def execAudioFrameBoundary (s : State) : Host.Outcome State Fault Refusal :=
  if s.audUp then done s.audBoundary else done s

/-- The channel status of R473; the word-length bits are those of IEC 60958-3. Log: 127 (PRESUMED). -/
def State.channelStatus (s : State) : Nat :=
  s.rd AUD.COPY_OK * 2 ^ 2 + s.rd AUD.EMPH * 2 ^ 3 + 2 ^ 8 + s.rd AUD.L * 2 ^ 15 +
    (if s.is AUD.WIDTH then 2 ^ 32 + 2 ^ 33 + 2 ^ 35 else 2 ^ 33)

/-- SPDIF_BLOCK_BOUNDARY (R473). -/
def execSpdifBlockBoundary (s : State) : Host.Outcome State Fault Refusal :=
  if !s.audUp then done s
  else
    let on := s.is AUD.SPDIF_EN
    let was := s.is AUD.SPDIF_LIVE
    let t := (s.wr AUD.SPDIF_LIVE (b2n on)).setLeaves ((if on && !was then [Lf.AUD.SPDIF_ON] else []) ++
      (if !on && was then [Lf.AUD.SPDIF_OFF] else []))
    done (if on then t.emit (.spdifStatus t.channelStatus) else t)

/-- Playback pauses, or resumes: STATE and its leaf (R480). -/
def State.audPaused (s : State) (v : Bool) : State :=
  if v && s.rd AUD.STATE = 3 then (s.wr AUD.STATE 4).setLeaf Lf.AUD.PLAY_PAUSE
  else if !v && s.rd AUD.STATE = 4 then (s.wr AUD.STATE 3).setLeaf Lf.AUD.PLAY_RESUME
  else s

/-- MCLK_LOST (R474, R488): the outputs hold low, playback pauses without a ramp, and a stop that was ramping is over. Log:
124 (DEDUCED). -/
def execMclkLost (s : State) : Host.Outcome State Fault Refusal :=
  if !s.is AUD.MCLK_OK || s.pageDown 0x14 then done s
  else
    let t := ((s.wr AUD.MCLK_OK 0).setLeaf Lf.AUD.MCLK_LOST)
    let t := match t.aud.play with
      | some p => match p.ending with
        | some st => t.playEnd st [Lf.AUD.PLAY_STOP]
        | none => t.audPaused true
      | none => t
    done { t with aud := { t.aud with upLvl := some 0, pauseLvl := none, muteLvl := none, stopLvl := none, inMute := false } }

/-- MCLK_BACK (R474). -/
def execMclkBack (s : State) : Host.Outcome State Fault Refusal :=
  if s.is AUD.MCLK_OK || s.pow.phase ≠ .run || 1 < s.rd TIME.STATE || s.pageDown 0x14 then done s
  else
    let t := (s.wr AUD.MCLK_OK 1).setLeaf Lf.AUD.MCLK_BACK
    let t := { t with aud := { t.aud with upLvl := some 0 } }
    done (if t.is AUD.PAUSE then t else t.audPaused false)

/-- The MCLK_IN count of a stage-meter window (R474). Log: 145 (DEDUCED). -/
def State.mclkWindow (s : State) (count : Nat) : State :=
  if s.pow.phase ≠ .run || 1 < s.rd TIME.STATE || s.pageDown 0x14 || !s.is AUD.MCLK_OK then s
  else
    let nom := if s.is AUD.MCLK_MUL then 22579 else 11290
    let w := (count :: s.aud.windows).take 1000
    let sum := w.foldl (· + ·) 0
    let off := dist count nom
    let slip := dist sum (1000 * nom)
    let t := ({ s with aud := { s.aud with windows := w } }).wr AUD.MCLK_CNT count
    t.setLeaves ((if nom < 50 * off then [Lf.AUD.MCLK_WRONG] else []) ++
      (if w.length = 1000 && nom < 2 * slip && slip ≤ 20 * nom then [Lf.AUD.RATE_SLIP] else []))

/-- STAGE_WINDOW_END (R24, R26, R80, R201, R474): the regions' ring counts over the window, the timestamp ring's laps, and
MCLK_IN's edges. -/
def execStageWindowEnd (c0 c1 c2 laps mclk : Nat) (s : State) : Host.Outcome State Fault Refusal :=
  if !s.pow.window then done s
  else
    let c := slowestCount [c0, c1, c2]
    let t := if c = 0 then s else s.meter c
    let ps := t.rd TIME.STAGE_PS
    let stopped := (c0 == 0 || c1 == 0 || c2 == 0) && s.rd TIME.STATE ≤ 1
    done ((t.setLeaves ((if s.rd TIME.LIMIT_PS < ps then [Lf.TMP.STAGE_LIMIT] else []) ++
      (if ps < 310 then [Lf.TMP.STAGE_FAST] else []) ++ (if stopped then [Lf.TMP.RING_STOP] else []))).calDrift.lapMeter laps |>.mclkWindow mclk)

/-! ### PLAY_CTL (R479, R480, R485) -/

/-- PLAY_CTL.PAUSE, MUTE and SRC written. -/
def State.setPause (s : State) (v : Bool) : State :=
  if s.pageDown 0x14 then s
  else if s.is AUD.PAUSE == v then s else (s.wr AUD.PAUSE (b2n v)).audPaused v
def State.setMute (s : State) (v : Bool) : State := if s.pageDown 0x14 then s else s.wr AUD.MUTE (b2n v)
def State.setSource (s : State) (v : Bool) : State := if s.pageDown 0x14 then s else s.wr AUD.SRC (b2n v)

/-- AUDIO_MUTE_WRITE (R479). -/
def execAudioMuteWrite (v : Bool) (s : State) : Host.Outcome State Fault Refusal := done (s.setMute v)

/-- AUDIO_PAUSE_WRITE (R480). -/
def execAudioPauseWrite (v : Bool) (s : State) : Host.Outcome State Fault Refusal := done (s.setPause v)

/-- AUDIO_SOURCE_WRITE (R485). -/
def execAudioSourceWrite (v : Bool) (s : State) : Host.Outcome State Fault Refusal := done (s.setSource v)

/-! ### Starting a play (R476, R484) -/

/-- Where a play of a range ends: the first of its own end, the next data track, and the lead-out. Log: 145 (DEDUCED). -/
def State.playRange (s : State) (block count : Nat) : Nat × PlayEnd :=
  let i := s.drv.toc
  let starts := ((i.tracks.filter fun t => bit t.control 2 && block < t.first).map DiscTrack.first).foldl min i.leadOut
  let natural : PlayEnd := if starts < i.leadOut then .data else .leadOut
  if count = 0 || starts < block + count then (starts, natural) else (block + count, .range)

/-- The track that holds a block. -/
def DiscInfo.trackOf (i : DiscInfo) (block : Nat) : Option DiscTrack :=
  ((i.tracks.filter fun t => t.first ≤ block).reverse).head?

/-- AUDIO_PLAY starts: a play that runs ends as a skip, and the seek begins (R476, R484). Log: 124 (DEDUCED). -/
def State.playStart (s : State) (tag block count : Nat) : State :=
  let (stop, how) := s.playRange block count
  let skip := s.aud.play.isSome && s.aud.fifo ≠ []
  let t := match s.aud.play with
    | some p =>
      let st := if p.concealed then stConcealed else stGood
      let sp := p.lastOut.getD 0xFFFFFFFF
      let u := s.finish p.tag st sp
      (s.aud.stops.foldl (fun (u : State) g => u.finish g stGood sp) u).setLeaf Lf.AUD.PLAY_STOP
    | none => s
  let p : Play := { tag := tag, next := block, stop := stop, how := how, skip := skip }
  let olds := t.aud.fifo.map fun (x : AudSec) => { x with fresh := false }
  let t := { t with aud := { t.aud with play := some p, stops := [], stopLvl := none, fifo := olds }
                    ecd := { t.ecd with units := t.ecd.units.filter fun u => !u.direct, ready := [] } }
  ((t.wr AUD.STATE 1).setLeaf Lf.AUD.DIRECT_PATH).audAsk

end Sys2Proof.Machine
end

