-- ==== Sys2Proof/Machine/Calibration.lean ====
section
/-! DEFINITION. Calibration: the run, the blob and the restore (05_calibration.md). -/

namespace Sys2Proof.Machine

/-! ### The blob (R125, R126) -/

/-- A blob's first 254 bytes with their CRC (R125). -/
def sealBlob (l : List Byte) : List Byte := padTo 254 l ++ leBytes 2 (crc16 (padTo 254 l))

/-- The byte of a signed 8-bit trim. -/
def trimByte (i : Int) : Byte := BitVec.ofNat 8 (toCode 8 i)

/-- The packed TIA_MAP of eight cell indices, A lowest (R137). -/
def packMap (l : List Nat) : Nat := (List.range 8).foldl (fun a c => a + (l[c]?).getD 0 % 16 * 16 ^ c) 0

/-- The packed retired indices of a DAC (R137). -/
def packRetire (l : List Nat) : Nat := (List.range 4).foldl (fun a c => a + (l[c]?).getD 0 % 128 * 128 ^ c) 0

/-- The bits of TDC_SEL_j that a selection sets. -/
def selWord (l : List Nat) (j : Nat) : Nat := ofBits ((l.filter fun n => n / 32 == j).map (· % 32))

/-! ### Parking and the slot (R119, R120, R132) -/

/-- The optics are parked: both laser drives are 0 and the focus and tracking loops are open (R119). Log: 31 (DEDUCED). -/
def State.parked (s : State) : Bool := s.rd LPC.STATE == 0 && s.rd FOC.STATE == 0 && s.rd TRK.STATE == 0

/-- A boot's restore waits or works. -/
def State.calBooting (s : State) : Bool := s.cal.wait.contains .restoreBoot || s.cal.work == some .restoreBoot

/-- STATUS.WAIT_PARK (R119). -/
def State.calWaitPark (s : State) : Bool := s.cal.wait ≠ [] && s.cal.work == none && !s.parked

/-- Whether the slot can take its next operation now. -/
def State.calSlotFree (s : State) : Bool := s.cal.work == none && s.parked && !s.is (Hdr.QUIESCE 0x03) && !s.is (Hdr.GATED 0x03)

/-- A write of 1 to RUN_CTL.GO (R120, R132). -/
def State.calRunGo (s : State) : State :=
  if s.rd TIME.STATE = 2 then (s.wr CAL.LAST_RESULT 3).setLeaf Lf.CAL.RUN_ABORTED
  else if s.goWait.contains CAL.RUN_GO.key then s
  else { (s.goWrite CAL.RUN_GO).1 with cal := { s.cal with wait := s.cal.wait ++ [.run none] } }

/-- A write of 1 to RESTORE_CTL.GO (R120, R132). -/
def State.calRestoreGo (s : State) : State :=
  if s.rd TIME.STATE = 2 then (s.wr CAL.LAST_RESULT 3).setLeaf Lf.CAL.RESTORE_FAIL
  else if s.goWait.contains CAL.RESTORE_GO.key then s
  else { (s.goWrite CAL.RESTORE_GO).1 with cal := { s.cal with wait := s.cal.wait ++ [.restore] } }

/-- CAL_RUN_GO (R121). -/
def execCalRunGo (s : State) : Host.Outcome State Fault Refusal :=
  if s.pageDown 0x03 then done s else done s.calRunGo

/-- CAL_RESTORE_GO (R127). -/
def execCalRestoreGo (s : State) : Host.Outcome State Fault Refusal :=
  if s.pageDown 0x03 then done s else done s.calRestoreGo

/-- CAL_RUN_START (R119, R121, R361): the first waiting operation is a run and the slot is free. Log: 26 (DEDUCED). -/
def execCalRunStart (s : State) : Host.Outcome State Fault Refusal :=
  match s.cal.wait with
  | .run tag :: rest =>
    if s.calSlotFree then
      done ({ s with cal := { s.cal with wait := rest, work := some (.run tag), fail := 0 } }.wrAll
        [(CAL.RUNNING, 1), (CAL.STEP, 1)] |>.postEvent 6 2)
    else done s
  | _ => done s

/-! ### The run (R121 to R124) -/

/-- The four registers of an input's fuse cell: the cell index that the fuses give input `c`. -/
def fuseCell (c : Nat) : Nat := bits Config.fuseTiaMap.toNat (4 * c) 4

/-- Whether an amplifier cell fails: its trim lies outside −128 to 127 or its gain is more than 5 % off (R122). -/
def tiaBad (trim : Int) (gain : Nat) : Bool :=
  trim < -128 || 127 < trim || 5 * 4096 < 100 * (max gain 4096 - min gain 4096)

/-- The cells of the eight inputs: the fuse cell when good, else the lowest-numbered good unused cell (R122). -/
def pickCells (good : List Bool) : List Nat :=
  let ok := fun n => (good[n]?).getD false
  let kept := ((List.range 8).map fuseCell).filter ok
  ((List.range 8).foldl (fun (acc : List Nat × List Nat) c =>
    if ok (fuseCell c) then (acc.1 ++ [fuseCell c], acc.2)
    else match (List.range 12).find? fun n => ok n && !acc.2.contains n with
      | some n => (acc.1 ++ [n], acc.2 ++ [n])
      | none => (acc.1 ++ [fuseCell c], acc.2)) ([], kept)).1

/-- Distance of a DAC segment's current from the mean, in 67ths (R122). -/
def segDev (l : List Nat) (i : Nat) : Nat :=
  let sum := l.foldl (· + ·) 0
  let v := 67 * (l[i]?).getD 0
  max v sum - min v sum

/-- The failed segments of a DAC: more than 2 % of one segment from the mean (R122). -/
def segBad (l : List Nat) : List Nat :=
  (List.range 67).filter fun i => 2 * l.foldl (· + ·) 0 < 100 * segDev l i

/-- The four retired segments, ascending: the failed ones first, then those furthest from the mean; the spec does not say
which of two equally far ones goes first. Log: 24 (DESIGN CHOICE). -/
def pickRetire (l : List Nat) : List Nat :=
  let bad := segBad l
  let rest := ((List.range 67).filter fun i => !bad.contains i)
  let far := (sortBy (fun i => segDev l i * 2 ^ 16 + Config.freeNat i % 2 ^ 16) rest).reverse
  sortBy id ((bad ++ far).take 4)

/-- Twice the median of the 96 TDC delays. -/
def tdcMedian2 (l : List Nat) : Nat :=
  let o := sortBy id l
  (o[47]?).getD 0 + (o[48]?).getD 0

/-- The good TDC cells: within 25 % of the median (R122). Log: 25 (DESIGN CHOICE). -/
def tdcGood (l : List Nat) : List Nat :=
  let m := tdcMedian2 l
  (List.range 96).filter fun i =>
    let d := 2 * (l[i]?).getD 0
    4 * (max d m - min d m) ≤ m

/-- The selected cells: those that the measurement took, when they are 64 good ones; else the first good ones. Log: 25
(DESIGN CHOICE). -/
def pickTdc (m : CalMeas) : List Nat :=
  let good := tdcGood m.tdc
  let sel := (List.range 96).filter fun i => m.tdcSel.contains i
  if sel.length = 64 ∧ sel.all good.contains then sel else good.take 64

/-- A failure noted unless an earlier step failed. -/
def State.calFail (s : State) (bad : Bool) (code : Nat) : State :=
  if bad && s.cal.fail = 0 then { s with cal := { s.cal with fail := code } } else s

/-- Step 2: the amplifier cells (R122, R123). -/
def State.calStep2 (s : State) (m : CalMeas) : State :=
  let good := (List.range 12).map fun n => !tiaBad ((m.tiaTrim[n]?).getD 0) ((m.tiaGain[n]?).getD 4096)
  let bad := (List.range 12).filter fun n => !(good[n]?).getD false
  let cells := pickCells good
  let t := { s with cal := { s.cal with tiaMap := cells, tiaOfs := cells.map fun n => (m.tiaTrim[n]?).getD 0 } }
  let t := (t.wr CAL.TIA_FAIL (ofBits bad)).calFail (12 - bad.length < 8) 11
  t.setLeaves (bad.map Lf.CAL.TIA_FAIL_0.plus ++ (if 12 - bad.length < 10 then [Lf.CAL.TIA_SPARE_LOW] else []))

/-- Step 3: the DAC segments (R122, R123). -/
def State.calStep3 (s : State) (m : CalMeas) : State :=
  let f := (segBad m.focSeg).length
  let r := (segBad m.trkSeg).length
  let t := { s with cal := { s.cal with retireFoc := pickRetire m.focSeg, retireTrk := pickRetire m.trkSeg } }
  let t := ((t.wr CAL.DF_FOC f).wr CAL.DF_TRK r).calFail (4 < f || 4 < r) 12
  t.setLeaves ((if f = 3 || f = 4 || r = 3 || r = 4 then [Lf.CAL.DAC_SPARE_LOW] else []) ++
    (if 4 < f then [Lf.CAL.DAC_SEG_FOC] else []) ++ (if 4 < r then [Lf.CAL.DAC_SEG_TRK] else []))

/-- Step 4: the TDC cells (R122, R123). -/
def State.calStep4 (s : State) (m : CalMeas) : State :=
  let n := (tdcGood m.tdc).length
  let sel := pickTdc m
  let t := { s with cal := { s.cal with tdcSel := sel, tdcDelay := sel.map fun i => (m.tdc[i]?).getD 0 } }
  let t := (t.wr CAL.TDC_GOOD n).calFail (n < 64 || m.tdcNonlinear) 13
  t.setLeaves ((if n < 70 then [Lf.CAL.TDC_SPARE_LOW] else []) ++ (if m.tdcNonlinear then [Lf.CAL.TDC_LINEAR_FAIL] else []))

/-- A monitor correction outside 0.750 to 1.250 (R122). -/
def gainBad (g : Nat) : Bool := g < 3072 || 5120 < g

/-- Step 5: the monitor path (R122). -/
def State.calStep5 (s : State) (m : CalMeas) : State :=
  let t := { s with cal := { s.cal with gain780 := m.gain780, gain650 := m.gain650 } }
  let t := t.calFail (gainBad m.gain780 || gainBad m.gain650) 14
  t.setLeaves ((if gainBad m.gain780 then [Lf.CAL.GAIN_780] else []) ++ (if gainBad m.gain650 then [Lf.CAL.GAIN_650] else []))

/-- BLOB_OUT replaced word by word. -/
def State.setBlobOut (s : State) (b : List Byte) : State :=
  (List.range 64).foldl (fun t k => t.wr (CAL.BLOB_OUT.at k) (leAt b (4 * k) 4)) s

/-- The blob of the present active set (R125). -/
def State.makeBlob (s : State) (origin : Nat) : List Byte :=
  sealBlob (leBytes 2 0xCA1B ++ [1, BitVec.ofNat 8 (b2n Config.revB)] ++ leBytes 2 0x0100 ++ [BitVec.ofNat 8 origin, 0] ++
    leBytes 4 Config.uniqueLo.toNat ++ leBytes 4 Config.uniqueHi.toNat ++ leBytes 4 (s.rd SYS.OP_SECONDS) ++
    leBytes 2 (s.rd CAL.STAGE_AT_CAL) ++ [0, 0] ++ leBytes 4 (s.rd CAL.TIA_MAP) ++ leBytes 4 (s.rd CAL.TIA_OFS_AD) ++
    leBytes 4 (s.rd CAL.TIA_OFS_EH) ++ leBytes 2 (s.rd CAL.TIA_FAIL) ++ [0, 0] ++ leBytes 4 (s.rd CAL.RETIRE_FOC) ++
    leBytes 4 (s.rd CAL.RETIRE_TRK) ++ leBytes 4 (s.rd CAL.TDC_SEL_0) ++ leBytes 4 (s.rd CAL.TDC_SEL_1) ++
    leBytes 4 (s.rd CAL.TDC_SEL_2) ++ leBytes 2 (s.rd CAL.SPAN_PS) ++ [0, 0] ++ leBytes 2 (s.rd CAL.GAIN_780) ++
    leBytes 2 (s.rd CAL.GAIN_650) ++ s.cal.activeDelay.flatMap (leBytes 2))

/-- The word of four trims, the first lowest. -/
def packTrims (l : List Int) : Nat := ofLe ((List.range 4).map fun i => trimByte ((l[i]?).getD 0))

/-- A run's commit (R123): the active set, VALID, SOURCE, STAGE_AT_CAL, BLOB_OUT and the retained copy, in one update. -/
def State.calCommitRun (s : State) : State :=
  let c := s.cal
  let t := { s with cal := { c with activeDelay := c.tdcDelay } }
  let t := t.wrAll [(CAL.TIA_MAP, packMap c.tiaMap), (CAL.TIA_OFS_AD, packTrims c.tiaOfs),
    (CAL.TIA_OFS_EH, packTrims (c.tiaOfs.drop 4)), (CAL.RETIRE_FOC, packRetire c.retireFoc),
    (CAL.RETIRE_TRK, packRetire c.retireTrk), (CAL.TDC_SEL_0, selWord c.tdcSel 0), (CAL.TDC_SEL_1, selWord c.tdcSel 1),
    (CAL.TDC_SEL_2, selWord c.tdcSel 2), (CAL.SPAN_PS, c.tdcDelay.foldl (· + ·) 0), (CAL.GAIN_780, c.gain780),
    (CAL.GAIN_650, c.gain650), (CAL.VALID, 1), (CAL.SOURCE, 1), (CAL.STAGE_AT_CAL, s.rd TIME.STAGE_PS)]
  let b := t.makeBlob 1
  { t.setBlobOut b with calKept := some b }.chnCalibrated

/-- A working or waiting operation leaves the slot: its GO field, or the command that holds its tag. Log: 26 (DEDUCED). -/
def State.calLeave (s : State) (op : CalOp) (status : Nat) : State :=
  match op with
  | .run none => (s.goEnd CAL.RUN_GO).1
  | .run (some tag) => s.finish tag status (s.rd CAL.LAST_RESULT)
  | .restore => (s.goEnd CAL.RESTORE_GO).1
  | .restoreCmd tag _ => s.finish tag status (s.rd CAL.LAST_RESULT)
  | .restoreBoot => s

/-- The end of the working run with a result (R123, R124): a failed or aborted one changes no active set. -/
def State.calRunEnd (s : State) (op : CalOp) (result status : Nat) (l : List Leaf) : State :=
  let t := { s with cal := { s.cal with work := none } }
  let t := (t.wrAll [(CAL.RUNNING, 0), (CAL.STEP, 0), (CAL.LAST_RESULT, result)]).add CAL.RUNS 1
  (t.setLeaves l).calLeave op status

/-- CAL_RUN_STEP_END (R121 to R123). Log: 23 (DESIGN CHOICE). -/
def execCalRunStepEnd (m : CalMeas) (s : State) : Host.Outcome State Fault Refusal :=
  match s.cal.work with
  | some (.run tag) =>
    let t := match s.rd CAL.STEP with
      | 2 => s.calStep2 m
      | 3 => s.calStep3 m
      | 4 => s.calStep4 m
      | 5 => s.calStep5 m
      | _ => s
    let t := t.setLeaf Lf.CAL.STEP_DONE
    if s.rd CAL.STEP < 6 then done (t.wr CAL.STEP (s.rd CAL.STEP + 1))
    else if t.cal.fail = 0 then
      done (t.calCommitRun.calRunEnd (.run tag) 1 0 [Lf.CAL.RUN_DONE, Lf.CAL.SAVE_DONE])
    else done (t.calRunEnd (.run tag) t.cal.fail stCalFailed [Lf.CAL.RUN_FAIL])
  | _ => done s

/-- A run ended as R124 states: the working one, else a waiting one. -/
def State.calAbortRun (s : State) (status : Nat) : State :=
  match s.cal.work with
  | some (.run tag) => s.calRunEnd (.run tag) 2 status [Lf.CAL.RUN_ABORTED]
  | _ =>
    match s.cal.wait.find? fun o => match o with | .run _ => true | _ => false with
    | some op =>
      let t := { s with cal := { s.cal with wait := s.cal.wait.erase op } }
      ((t.wr CAL.LAST_RESULT 2).setLeaf Lf.CAL.RUN_ABORTED).calLeave op status
    | none => s

/-- CAL_RUN_ABORT (R124): ABORT clears. -/
def execCalRunAbort (s : State) : Host.Outcome State Fault Refusal :=
  if s.pageDown 0x03 then done s else done (s.calAbortRun stCalFailed)

/-! ### The restore (R127 to R131) -/

/-- The 256 bytes of BLOB_IN. -/
def State.blobIn (s : State) : List Byte := (List.range 64).flatMap fun k => leBytes 4 (s.rd (CAL.BLOB_IN.at k))

/-- CAL_RESTORE_START (R119, R127): the blob is taken as it stands now. -/
def execCalRestoreStart (s : State) : Host.Outcome State Fault Refusal :=
  let start := fun (op : CalOp) (rest : List CalOp) (blob : Option (List Byte)) (kept : Bool) =>
    if s.calSlotFree then
      done (({ s with cal := { s.cal with wait := rest, work := some op, blob := blob, fromKept := kept } }).wr CAL.RESTORING 1)
    else done s
  match s.cal.wait with
  | .restore :: rest =>
    if s.is CAL.SRC then start .restore rest s.calKept true else start .restore rest (some s.blobIn) false
  | .restoreCmd tag (some b) :: rest => start (.restoreCmd tag (some b)) rest (some b) false
  | .restoreCmd tag none :: rest => start (.restoreCmd tag none) rest s.calKept true
  | .restoreBoot :: rest => start .restoreBoot rest s.calKept true
  | _ => done s

/-- Whether no number occurs twice. -/
def distinct : List Nat → Bool
  | [] => true
  | x :: r => !r.contains x && distinct r

/-- Check 6: every field of a blob is legal (R127). -/
def blobLegal (b : List Byte) : Bool :=
  let map := (List.range 8).map fun c => bits (leAt b 0x18 4) (4 * c) 4
  let ret := fun off => (List.range 4).map fun c => bits (leAt b off 4) (7 * c) 7
  let sel := (setBits 32 (leAt b 0x30 4)).length + (setBits 32 (leAt b 0x34 4)).length + (setBits 32 (leAt b 0x38 4)).length
  map.all (· < 12) && distinct map && (ret 0x28).all (· < 67) && distinct (ret 0x28) && (ret 0x2C).all (· < 67) &&
    distinct (ret 0x2C) && sel == 64 && !gainBad (leAt b 0x40 2) && !gainBad (leAt b 0x42 2)

/-- The first check of R127 that fails, as its LAST_RESULT; 1 when all pass. Log: 23 (DESIGN CHOICE). -/
def blobCheck (b : Option (List Byte)) (residuals : List Int) (spanNow stageNow : Nat) : Nat :=
  match b with
  | none => 10
  | some b =>
    if leAt b 0 2 ≠ 0xCA1B || leAt b 4 2 ≠ 0x0100 then 4
    else if leAt b 2 1 ≠ 1 then 5
    else if leAt b 0xFE 2 ≠ crc16 (padTo 254 b) then 6
    else if leAt b 8 4 ≠ Config.uniqueLo.toNat || leAt b 12 4 ≠ Config.uniqueHi.toNat then 7
    else if !blobLegal b then 8
    else
      let x := spanNow * leAt b 0x14 2
      let y := leAt b 0x3C 2 * stageNow
      if residuals.all (fun r => -8 ≤ r && r ≤ 8) && 10 * (max x y - min x y) ≤ y then 1 else 9

/-- The leaf of a failed check (R127). -/
def blobLeaf (result : Nat) : Leaf :=
  if result = 4 ∨ result = 5 then Lf.CAL.BLOB_VERSION else if result = 6 then Lf.CAL.BLOB_CRC else Lf.CAL.RESTORE_FAIL

/-- A restore's commit (R129). -/
def State.calCommitRestore (s : State) (b : List Byte) (kept : Bool) : State :=
  let out := sealBlob (setAt (padTo 254 b) 6 2)
  let t := { s with cal := { s.cal with activeDelay := (List.range 64).map fun k => leAt b (0x44 + 2 * k) 2 } }
  let t := t.wrAll [(CAL.TIA_MAP, leAt b 0x18 4), (CAL.TIA_OFS_AD, leAt b 0x1C 4), (CAL.TIA_OFS_EH, leAt b 0x20 4),
    (CAL.RETIRE_FOC, leAt b 0x28 4), (CAL.RETIRE_TRK, leAt b 0x2C 4), (CAL.TDC_SEL_0, leAt b 0x30 4),
    (CAL.TDC_SEL_1, leAt b 0x34 4), (CAL.TDC_SEL_2, leAt b 0x38 4), (CAL.SPAN_PS, leAt b 0x3C 2),
    (CAL.GAIN_780, leAt b 0x40 2), (CAL.GAIN_650, leAt b 0x42 2), (CAL.VALID, 1), (CAL.SOURCE, if kept then 3 else 2),
    (CAL.STAGE_AT_CAL, leAt b 0x14 2)]
  { t.setBlobOut out with calKept := some out }.chnCalibrated

/-- CAL_RESTORE_END (R127 to R130): the measurements of check 7 are the residual offset of each selected cell, the selected
line's span and the slowest region's stage time, both in ps. Log: 23 (DESIGN CHOICE). -/
def execCalRestoreEnd (residuals : List Int) (spanNow stageNow : Nat) (s : State) : Host.Outcome State Fault Refusal :=
  match s.cal.work with
  | none => done s
  | some (.run _) => done s
  | some op =>
    let r := blobCheck s.cal.blob residuals spanNow stageNow
    let t := { s with cal := { s.cal with work := none, blob := none } }
    let t := ((t.wrAll [(CAL.RESTORING, 0), (CAL.LAST_RESULT, r)]).add CAL.RESTORES 1)
    if r = 1 then
      let t := t.calCommitRestore (s.cal.blob.getD []) s.cal.fromKept
      done ((t.setLeaves [Lf.CAL.RESTORE_DONE, Lf.CAL.SAVE_DONE]).calLeave op 0)
    else
      let t := if s.cal.fromKept then { t with calKept := none } else t
      done ((t.setLeaves [blobLeaf r, Lf.SYS.RECOVERY_DONE]).calLeave op stCalFailed)

/-- A reset or gate of CAL (R133): the working operation ends as an abort, waiting ones are cleared. Log: 27 (DEDUCED). -/
def State.calKill (s : State) : State :=
  let t := match s.cal.work with
    | some (.run tag) => s.calRunEnd (.run tag) 2 stBlockReset [Lf.CAL.RUN_ABORTED]
    | some op => ({ s with cal := { s.cal with work := none, blob := none } }).calLeave op stBlockReset
    | none => s
  let t := s.cal.wait.foldl (fun t op => t.calLeave op stBlockReset) t
  let t := { t with cal := {} }
  t.leafIf (s.is CAL.VALID) Lf.CAL.VALID_LOST

/-- A power failure (R134): a working run is aborted, a working restore goes on. Log: 27 (DEDUCED). -/
def State.calPowerFail (s : State) : State :=
  match s.cal.work with
  | some (.run tag) => s.calRunEnd (.run tag) 2 stCalFailed [Lf.CAL.RUN_ABORTED]
  | _ => s

end Sys2Proof.Machine
end

