-- ==== Sys2Proof/Machine/Mech.lean ====
section
/-! DEFINITION. The spindle, the sled and its seeks, and the loader (07_spindle_sled_loader.md). -/

namespace Sys2Proof.Machine

/-! ### The spindle (R175 to R183) -/

/-- Whether a value lies within a share, in hundredths, of its target. -/
def within (v target percent : Nat) : Bool := 100 * (max v target - min v target) ≤ percent * target

/-- Measured value and target of the spindle loop: rate in RATE mode, rpm otherwise (R182). -/
def State.spinPair (s : State) : Nat × Nat :=
  if s.is SPN.RATE_MODE then (s.rd CHN.RATE_KBPS, rateOf s.isDvd (s.rd SPN.TARGET)) else (s.rd SPN.RPM, s.drv.target)

/-- The spindle latches off: it coasts until HOLD_STOP toggles 1 then 0 (R183). -/
def State.spinLatch (s : State) (l : Leaf) : State :=
  ({ s with drv := { s.drv with latched := true, toggled := false } }).setLeaf l

/-- The runs and leaves of a spindle sample (R178, R179, R183). -/
def State.spinRuns (s : State) (old rpm : Nat) : State :=
  let (v, goal) := s.spinPair
  let d := s.drv
  let past := s.rd SPN.RPM_MAX * 11 < rpm * 10
  let lag := (rpm : Int) * 1125 * 10 < d.ref * 9
  let rate := s.is SPN.RATE_MODE
  let t := { s with drv := { d with
    lockRun := if within v goal 1 then d.lockRun + 1 else 0
    slowRun := if lag then d.slowRun + 1 else 0
    rateRun := if rate && !within v goal 2 then d.rateRun + 1 else 0
    overspeed := past || (d.overspeed && s.rd SPN.RPM_MAX ≤ rpm)
    slowSet := d.slowSet || (lag && 879 ≤ d.slowRun + 1) } }
  let lost := 176 ≤ t.drv.rateRun
  let t := if lost then ({ t with drv := { t.drv with rateRun := 0 } }).wr SPN.RATE_MODE 0 else t
  t.setLeaves ((if past && !d.overspeed then [Lf.MOT.SPN_OVERSPEED] else []) ++
    (if t.drv.slowSet && !d.slowSet then [Lf.MOT.SPN_SPINUP_SLOW] else []) ++
    (if lost then [Lf.MOT.SPN_LOCK_LOST] else []) ++
    (if old ≠ 0 && old * 5 < 100 * (max old rpm - min old rpm) then [Lf.MOT.SPN_SHOCK] else []))

/-- SPINDLE_SAMPLE (R182): the measured rpm and speed. -/
def execSpindleSample (rpm now : Nat) (s : State) : Host.Outcome State Fault Refusal :=
  if !s.sampling || s.pageDown 0x07 then done s
  else
    let old := s.rd SPN.RPM
    let t := ((s.commitPage 0x07).mirStage 0x07).wrAll [(SPN.RPM, rpm), (SPN.NOW, now)]
    let st := t.rd SPN.STATE
    let t := if st = 0 || 5 ≤ st then t
      else
        let goal : Int := (t.drv.target : Int) * 1125
        let step : Int := (t.rd SPN.ACCEL : Int) * 64
        let ref := if st = 1 then t.drv.ref else rampTo t.drv.ref goal step.toNat
        let t := ({ t with drv := { t.drv with ref := ref } }).spinRuns old rpm
        let (v, g) := t.spinPair
        let want : Int := if t.is SPN.RATE_MODE then g else ref / 1125
        let err := want - (v : Int)
        let integ := t.drv.integ + (t.rd SPN.KI : Int) * err
        let u := Config.quot 20 ((t.rd SPN.KP : Int) * err + integ) 256
        { t with drv := { t.drv with integ := integ }, loopResult := setAt t.loopResult 4 (if t.drv.overspeed then 0 else u) }
    done (t.traceSample 3 (leBytes 2 rpm ++ leBytes 2 (t.rd SPN.THETA) ++
      [BitVec.ofNat 8 (t.rd SPN.TARGET), BitVec.ofNat 8 now] ++ leBytes 2 (t.rd SPN.STATE + t.rd SPN.RATE_MODE * 16)))

/-- A revolution ends: REVS, the ripple and the dead phases (R183). Log: 42 (DEDUCED). -/
def State.revolution (s : State) (ripple dead : Nat) : State :=
  let t := (s.add SPN.REVS 1).wr SPN.RIPPLE ripple
  let n := if t.rd SPN.UNBAL_THR < ripple then t.drv.ripples + 1 else 0
  let t := if 16 ≤ n then
      let u := ({ t with drv := { t.drv with ripples := 0, unbal := t.drv.unbal + 16 } }).setLeaf Lf.MOT.SPN_UNBALANCE
      let (a, l) := u.addrNow
      u.zoneEval a l
    else { t with drv := { t.drv with ripples := n } }
  if dead % 8 = 0 || dead % 8 = 7 then t
  else (setBits 3 dead).foldl (fun t i => t.spinLatch (Lf.MOT.SPN_PHASE_0.plus i)) t

/-- COMMUTATION_EVENT (R181, R183): the Hall code, whether a back-EMF crossing came later than twice the expected
interval, and what the revolution that may end here measured: its ripple and the phases that showed nothing. -/
def execCommutationEvent (hall : Nat) (late : Bool) (ripple dead : Nat) (s : State) : Host.Outcome State Fault Refusal :=
  if s.pageDown 0x07 || s.pow.phase ≠ .run then done s
  else
    let (t, n) := s.mirEvent 0x07 4 fun _ => true
    let suppressed := match n with
      | some k => s.rd (MIR.SEL.at k) % 2 == 1
      | none => false
    let t := match n with
      | some k => if suppressed then t else (t.lfsrNext k).2
      | none => t
    if suppressed then done t
    else if !t.is SPN.SENSE && (hall = 0 || hall = 7) then done (t.setLeaf Lf.MOT.SPN_HALL_FAULT)
    else
      let t := if t.is SPN.SENSE && late then
          (t.wrAll [(SPN.RATE_MODE, 0), (SPN.STATE, if 1 ≤ t.rd SPN.STATE && t.rd SPN.STATE ≤ 4 then 1 else t.rd SPN.STATE)]).setLeaf
            Lf.MOT.SPN_BEMF_FAULT
        else t
      let n := 6 * t.rd SPN.POLE_PAIRS
      let c := (t.drv.comm + 1) % n
      let t := { t with drv := { t.drv with comm := c } }
      done (if c = 0 then t.revolution ripple dead else t)

/-- SPINDLE_ALIGN_DONE (R178). -/
def execSpindleAlignDone (s : State) : Host.Outcome State Fault Refusal :=
  if s.rd SPN.STATE = 1 then
    let (a, l) := s.addrNow
    done (({ s.wr SPN.STATE 2 with drv := { s.drv with ref := 0 } }).zoneEval a l)
  else done s

/-- SPINDLE_LOCK (R178, R179, R181): the rate within 1 % of target for 2 ms. Log: 41 (DEDUCED). -/
def execSpindleLock (s : State) : Host.Outcome State Fault Refusal :=
  let st := s.rd SPN.STATE
  if (st = 2 || st = 4) && 36 ≤ s.drv.lockRun then
    let t := s.wr SPN.STATE 3
    let t := if st = 2 then t.wr SPN.LAST_SPINUP_MS (min 0xFFFF ((s.elapsed - s.drv.spinAt) / 1000)) else t
    let t := if st = 4 then t
      else if t.is SPN.SENSE then { t.wr SPN.ANGLE_OK 0 with drv := { t.drv with alignDue := true } }
      else t.wr SPN.ANGLE_OK 1
    done (t.setLeaf (if st = 2 then Lf.MOT.SPN_UP else Lf.MOT.SPN_ZONE))
  else done s

/-- What a change of HOLD_STOP does beside the field: 1 and then 0 lets a latched spindle turn again (R183). -/
def State.stopChanged (s : State) (old new : Nat) : State :=
  if old = 0 && new = 1 then { s with drv := { s.drv with toggled := true } }
  else if old = 1 && new = 0 && s.drv.toggled then { s with drv := { s.drv with latched := false, toggled := false } }
  else s

/-- A write of QUIET or SPEED_CAP starts a zone evaluation (R178). -/
def State.speedCapWritten (s : State) : State :=
  let (a, l) := s.addrNow
  s.zoneEval a l

/-- SPINDLE_STOPPED (R180, R181, R194). Log: 139 (DESIGN CHOICE). -/
def execSpindleStopped (s : State) : Host.Outcome State Fault Refusal :=
  let st := s.rd SPN.STATE
  if st = 5 || st = 6 then
    let t := s.wrAll [(SPN.STATE, 0), (SPN.RATE_MODE, 0), (SPN.RPM, 0), (SPN.NOW, 0)]
    let t := if t.is SPN.SENSE then
        let (c, u) := t.free (6 * s.rd SPN.POLE_PAIRS)
        { u.wr SPN.ANGLE_OK 0 with drv := { u.drv with comm := c } }
      else t
    done (t.setLeaves ((if st = 5 then [Lf.MOT.SPN_BRAKE_DONE] else []) ++ [Lf.MOT.SPN_STOPPED]))
  else done s

/-- SPINDLE_FAULT_PIN (R183). -/
def execSpindleFaultPin (s : State) : Host.Outcome State Fault Refusal :=
  if s.pow.phase = .run then done (s.spinLatch Lf.MOT.SPN_OVERCURRENT) else done s

/-- SPINDLE_STALL_TIMEOUT (R183). -/
def execSpindleStallTimeout (s : State) : Host.Outcome State Fault Refusal :=
  if 1 ≤ s.rd SPN.STATE && s.rd SPN.STATE ≤ 5 then done ((s.add SPN.STALLS 1).spinLatch Lf.MOT.SPN_STALL) else done s

/-! ### Seeks (R184, R185, R188) -/

/-- SEEK_GO (R184). -/
def State.seekGo (s : State) : State :=
  let (t, starts) := s.goWrite SLD.SEEK_GO
  let t := if starts then
      { t with drv := { t.drv with seeks := t.drv.seeks ++ [{ byGo := true, addr := t.rd SLD.TARGET, layer := t.rd SLD.LAYER }] } }
    else t
  t.discWork 10

/-- SEEK_GO (R184). -/
def execSeekGo (s : State) : Host.Outcome State Fault Refusal :=
  if s.pageDown 0x06 then done s else done s.seekGo

/-- The tracks between two addresses (R184). Log: 38 (DESIGN CHOICE). -/
def State.tracks (s : State) (a b : Nat) : Nat :=
  Config.tracksOf (s.rd SLD.POSITION_UM) (addrInt s.isDvd b - addrInt s.isDvd a) (s.rd SLD.SECTOR_AREA)

/-- Step 3 of a seek: SLD writes JUMP_CTL with the direction toward the target's layer (R184). -/
def State.seekLayer (s : State) (r : SeekReq) : State :=
  let t := s.wrAll [(SLD.STATE, 2), (FOC.JUMP_DIR, if r.layer = 1 then 0 else 1)]
  let (u, starts) := t.goWrite FOC.JUMP_GO
  if starts then u.jumpGo else u

/-- Steps 1 to 4 of a seek from the present address (R184). -/
def State.seekSteps (s : State) (r : SeekReq) : State :=
  let (from_, layer) := s.addrNow
  let n := s.tracks from_ r.addr
  let t := { s with drv := { s.drv with seekFrom := from_, seekTracks := n } }
  let t := t.zoneEval r.addr r.layer
  if t.rd SLD.FINE_MAX < n then
    let t := t.wr SLD.STATE 1
    if t.loopState .trk = 4 || t.loopState .trk = 5 || t.loopState .trk = 3 then t.loopRelease .trk else t
  else if layer ≠ r.layer then t.seekLayer r
  else t.wr SLD.STATE (if n = 0 then 4 else 3)

/-- SEEK_START (R184): the first waiting request takes the slot. -/
def execSeekStart (s : State) : Host.Outcome State Fault Refusal :=
  match s.drv.seek, s.drv.seeks with
  | none, r :: rest =>
    if s.mechOk && !s.pageDown 0x06 && !s.is (Hdr.QUIESCE 0x06) && !s.is SLD.HOME && s.rd LDR.STATE = 6 then
      let t := { s with drv := { s.drv with seek := some r, seeks := rest } }
      let t := (t.add SLD.SEEKS 1).wr SLD.TRIES_USED 1
      done (t.seekSteps r)
    else done s
  | _, _ => done s

/-- SEEK_COARSE_DONE (R184): `outer` says that the move would have passed OUTER_UM and stopped there (R187). -/
def execSeekCoarseDone (position : Nat) (s : State) : Host.Outcome State Fault Refusal :=
  match s.drv.seek with
  | some r =>
    if s.rd SLD.STATE = 1 then
      let outer := s.rd SLD.OUTER_UM < position
      let t := s.wrAll [(SLD.POSITION_UM, min position (s.rd SLD.OUTER_UM)), (SLD.STATE, 4)]
      let t := t.leafIf outer Lf.MOT.SLD_OUTER
      if t.drv.seekAbort then done t.seekAborted
      else done (if t.addrNow.2 ≠ r.layer then t.seekLayer r else t)
    else done s
  | none => done s

/-- The sector area learned from the last two verified addresses (R184): π × (r² of one − r² of the other) ÷ Δaddress,
which needs the radius of the home position. Log: 38 (DESIGN CHOICE). -/
def State.learnArea (s : State) (a : Nat) : State :=
  let p := (a, s.rd SLD.POSITION_UM)
  let l := (p :: s.drv.learned).take 2
  let t := { s with drv := { s.drv with learned := l } }
  match l with
  | [x, y] => if x.1 = y.1 then t else t.wr SLD.SECTOR_AREA (Config.areaOf x.1 x.2 y.1 y.2)
  | _ => t

/-- Disc commands that carry a failed seek end; with which status the spec does not say. A play ends with MECHANISM_FAULT
(R483). Log: 49 (DESIGN CHOICE). -/
def State.seekFailCmds (s : State) : State :=
  let (i, t) := s.free 2
  let t := t.endWhere (fun c => c.stage == .dispatched && c.discRead && !s.playsTag c.tag)
    (if i = 0 then stMediumUnrecovered else stMechanismFault)
  t.playStop stMechanismFault

/-- A seek fails (R184). Log: 49 (DESIGN CHOICE). -/
def State.seekFailed (s : State) (r : SeekReq) : State :=
  let t := s.seekEnd 2 Lf.MOT.SLD_SEEK_FAIL
  if r.byGo then t else t.seekFailCmds

/-- Step 5 of a seek: the first decoded address compared with the target (R184, R185). -/
def State.seekVerify (s : State) (a layer : Nat) : State :=
  match s.drv.seek with
  | none => s
  | some r =>
    if s.rd SLD.STATE ≠ 3 && s.rd SLD.STATE ≠ 4 then s
    else if s.drv.seekAbort then s.seekAborted
    else
      let seen : Int := s.tracks s.drv.seekFrom a
      let off := (seen - s.drv.seekTracks).natAbs * 100 > seen.natAbs * 2
      let t := s.wrAll [(SLD.ADDR_NOW, a), (SLD.ADDR_LAYER, layer)]
      let t := t.leafIf off Lf.MOT.SLD_COUNT_ERR
      if a = r.addr && layer = r.layer then ((t.learnArea a).seekEnd 1 Lf.MOT.SLD_SEEK_DONE)
      else
        let d := s.isDvd
        let past := (addrInt d s.drv.seekFrom ≤ addrInt d r.addr && addrInt d r.addr < addrInt d a) ||
          (addrInt d r.addr < addrInt d s.drv.seekFrom && addrInt d a < addrInt d r.addr)
        let t := t.leafIf (past && t.rd SLD.FINE_MAX < t.tracks r.addr a) Lf.MOT.SLD_OVERSHOOT
        if t.rd SLD.TRIES ≤ t.rd SLD.TRIES_USED then t.seekFailed r
        else
          let t := ((t.wr SLD.TRIES_USED (t.rd SLD.TRIES_USED + 1)).add SLD.RETRIES 1).setLeaf Lf.MOT.SLD_SEEK_RETRY
          t.seekSteps r

/-- After a slip the next address is verified, and a miss runs a correcting fine seek (R185). -/
def State.slipVerify (s : State) (a : Nat) : State :=
  match s.drv.slip with
  | none => s
  | some want =>
    if s.drv.seek.isSome then s
    else if a = want then { s with drv := { s.drv with slip := none } }
    else
      let t := s.add SLD.SLIPFIX 1
      { t with drv := { t.drv with slip := none, fixing := true,
                                   seeks := { byGo := false, addr := want, layer := t.rd DEM.LAYER } :: t.drv.seeks } }

/-- SEEK_TIMEOUT (R184). -/
def execSeekTimeout (s : State) : Host.Outcome State Fault Refusal :=
  match s.drv.seek with
  | some r =>
    done (s.seekFailed r)
  | none => done s

/-- ABORT of the sled written 1 (R188): it acts at the next step boundary, which SWEEP steps that wait reach at once. -/
def State.seekAbortGo (s : State) : State :=
  match s.drv.seek with
  | none => s
  | some _ =>
    if s.rd SLD.STATE = 1 || s.rd SLD.STATE = 2 then
      { s.wr SLD.ABORT 1 with drv := { s.drv with seekAbort := true } }
    else s.seekAborted

/-- The ABORT bit clears when no seek is left to abort. -/
def State.sledAbort (s : State) : State :=
  let t := s.seekAbortGo
  if t.drv.seek = none then t.wr SLD.ABORT 0 else t

/-- SEEK_ABORT (R188). -/
def execSeekAbort (s : State) : Host.Outcome State Fault Refusal :=
  if s.pageDown 0x06 then done s else done s.sledAbort

/-! ### The sled (R186, R187) -/

/-- SLED_SAMPLE (R186, R187): the sled's position, and the tracks that passed within the last 1 ms. Log: 39 (DESIGN
CHOICE). -/
def execSledSample (position jumped : Nat) (s : State) : Host.Outcome State Fault Refusal :=
  if !s.sampling || s.pageDown 0x06 then done s
  else
    let t := s.mirStage 0x06
    let follow := t.is SLD.FOLLOW_EN && t.loopState .trk = 4 && (t.rd SLD.STATE = 0 || t.rd SLD.STATE = 6)
    let moving := t.rd SLD.STATE = 1 || t.rd SLD.STATE = 5
    let t := if follow then t.wr SLD.STATE 6 else if t.rd SLD.STATE = 6 then t.wr SLD.STATE 0 else t
    let integ := t.opt.trk.integ / 256
    let t := t.wr SLD.POSITION_UM (min position (s.rd SLD.OUTER_UM))
    let m : Int := t.rd SLD.PWM_MAX
    let u := if follow then clampInt (-m) m (Config.sledDrive integ) else if moving then (s.loopResult[3]?).getD 0 else 0
    let creep := follow && t.rd SLD.CREEP_THR < integ.natAbs
    let sat := u.natAbs = t.rd SLD.PWM_MAX && u ≠ 0
    let t := { t with loopResult := setAt t.loopResult 3 u,
                      drv := { t.drv with creepRun := if creep then t.drv.creepRun + 1 else 0,
                                          pwmRun := if sat then t.drv.pwmRun + 1 else 0 } }
    let t := t.setLeaves ((if t.drv.creepRun = 7032 then [Lf.MOT.SLD_CREEP] else []) ++
      (if t.drv.pwmRun = 7032 then [Lf.MOT.SLD_PWM_SAT] else []) ++
      (if s.rd SLD.OUTER_UM < position then [Lf.MOT.SLD_OUTER] else []) ++
      (if 16 < jumped && !moving then [Lf.MOT.SLD_SHOCK] else []))
    done (t.traceSample 4 (leBytes 2 (t.rd SLD.POSITION_UM) ++ leBytes 2 (t.rd TRK.POS) ++
      leBytes 4 (t.rd SLD.ADDR_NOW + t.rd SLD.STATE * 2 ^ 24)))

/-- The sled drives inward at half PWM_MAX (R187). -/
def State.homeStart (s : State) : State :=
  { s.wr SLD.STATE 5 with loopResult := setAt s.loopResult 3 (-((s.rd SLD.PWM_MAX / 2 : Nat) : Int)) }

/-- HOME written 1 (R187). -/
def State.homeGo (s : State) : State :=
  let (t, starts) := s.goWrite SLD.HOME
  if starts then t.homeStart else t

/-- HOME_GO (R187). -/
def execHomeGo (s : State) : Host.Outcome State Fault Refusal :=
  if s.pageDown 0x06 then done s else done s.homeGo

/-- The sled's drive off. -/
def State.sledOff (s : State) : State := { s with loopResult := setAt s.loopResult 3 0 }

/-- HOME_REACHED (R187). -/
def execHomeReached (s : State) : Host.Outcome State Fault Refusal :=
  if s.is SLD.HOME && s.rd SLD.STATE = 5 then
    let (t, again) := ((s.wrAll [(SLD.POSITION_UM, 0), (SLD.STATE, 0)]).sledOff).goEnd SLD.HOME
    let t := t.setLeaf Lf.MOT.SLD_HOME
    done (if again then t.homeStart else t)
  else done s

/-- SLED_FAULT_PIN (R187). -/
def execSledFaultPin (s : State) : Host.Outcome State Fault Refusal :=
  if s.pow.phase = .run then done (s.sledOff.setLeaf Lf.MOT.SLD_OVERCURRENT) else done s

/-- SLED_STALL_TIMEOUT (R187): the seek fails. -/
def execSledStallTimeout (s : State) : Host.Outcome State Fault Refusal :=
  if s.rd SLD.STATE = 1 || s.rd SLD.STATE = 5 then
    let t := (s.sledOff).setLeaf Lf.MOT.SLD_STALL
    match t.drv.seek with
    | some r =>
      done (t.seekFailed r)
    | none =>
      let (u, again) := (t.wr SLD.STATE 0).goEnd SLD.HOME
      done (if again then u.homeStart else u)
  else done s

/-! ### The loader (R189 to R193) -/

/-- LDR CMD.OPEN written 1 (R189, R190). -/
def State.loaderOpen (s : State) : State :=
  let (t, starts) := s.goWrite LDR.OPEN
  if !starts then t
  else if t.rd LDR.STATE = 7 then (t.setLeaf Lf.LDR.EJECT_REQ).postEvent 3 3 |>.moveOut
  else
    let (u, ok) := t.ejectRequest true
    if ok then u else u.goDone LDR.OPEN

/-- LOADER_OPEN (R189). -/
def execLoaderOpen (s : State) : Host.Outcome State Fault Refusal :=
  if s.pageDown 0x1A then done s else done s.loaderOpen

/-- LDR CMD.CLOSE written 1 (R189). -/
def State.loaderClose (s : State) : State :=
  let (t, starts) := s.goWrite LDR.CLOSE
  if !starts then t
  else if t.rd LDR.STATE = 7 || (t.rd LDR.STATE = 1 && !t.is LDR.MODE) then (t.add LDR.LOADS 1).moveIn
  else (t.goDone LDR.CLOSE).setLeaf Lf.LDR.STATE_ERR

/-- LOADER_CLOSE (R189). -/
def execLoaderClose (s : State) : Host.Outcome State Fault Refusal :=
  if s.pageDown 0x1A then done s else done s.loaderClose

/-- LDR CMD.DETECT written 1 (R189, R191): from CLOSED, LOADED or READY. -/
def State.loaderDetect (s : State) : State :=
  let (t, starts) := s.goWrite LDR.DETECT
  if !starts then t
  else if t.rd LDR.STATE = 3 || t.rd LDR.STATE = 6 then t.detectStart.discWork 10
  else (t.goDone LDR.DETECT).setLeaf Lf.LDR.STATE_ERR

/-- LOADER_DETECT (R191). -/
def execLoaderDetect (s : State) : Host.Outcome State Fault Refusal :=
  if s.pageDown 0x1A then done s else done s.loaderDetect

/-- The disc is in place: CLOSED or LOADED, then DETECTING as R189 says. -/
def State.loaderIn (s : State) (detect : Bool) : State :=
  let t := (s.wr LDR.STATE 3).loaderGoEnd
  if detect then t.detectStart else t

/-- LIMIT_A_CHANGE (R189): the level of LDR_LIM_A. -/
def execLimitAChange (high : Bool) (s : State) : Host.Outcome State Fault Refusal :=
  let was := s.limAct false
  let t := { s with drv := { s.drv with limA := high } }
  let now := t.limAct false
  if was == now || t.pow.phase ≠ .run || t.pageDown 0x1A then done t
  else
    let slot := t.is LDR.MODE
    let st := t.rd LDR.STATE
    if now then
      if st = 2 then
        let u := if slot then t else t.setLeaf Lf.LDR.TRAY_CLOSED
        done (u.loaderIn (slot || u.is LDR.AUTO_DETECT))
      else if st = 1 && !slot then done ((t.setLeaf Lf.LDR.TRAY_CLOSED).loaderIn (t.is LDR.AUTO_DETECT))
      else if st = 0 then done t.loaderRecompute
      else done t
    else if st = 3 || st = 6 then
      done ((t.wr LDR.STATE 1).setLeaf Lf.LDR.MANUAL_EJECT).discAbsent
    else done t

/-- LIMIT_B_CHANGE (R189): the level of LDR_LIM_B. -/
def execLimitBChange (high : Bool) (s : State) : Host.Outcome State Fault Refusal :=
  let was := s.limAct true
  let t := { s with drv := { s.drv with limB := high } }
  let now := t.limAct true
  if was == now || t.pow.phase ≠ .run || t.pageDown 0x1A then done t
  else
    let slot := t.is LDR.MODE
    let st := t.rd LDR.STATE
    if now then
      if st = 4 then
        let u := (t.wr LDR.STATE 1).loaderGoEnd
        done (if slot then u else (u.setLeaf Lf.LDR.TRAY_OPEN).postEvent 4 1)
      else if st = 0 then done t.loaderRecompute
      else done t
    else if st = 1 && !slot then
      if t.is LDR.AUTO_CLOSE then done ((t.add LDR.LOADS 1).moveIn.setLeaf Lf.LDR.TRAY_PUSHED)
      else done (t.setLeaves [Lf.LDR.TRAY_PUSHED, Lf.LDR.TRAY_CLOSE_REQ])
    else done t

/-- SLOT_CHANGE (R189): LDR_SLOT asserts or releases. -/
def execSlotChange (asserted : Bool) (s : State) : Host.Outcome State Fault Refusal :=
  let t := { s with drv := { s.drv with slot := asserted } }
  if t.pow.phase ≠ .run || t.pageDown 0x1A || !t.is LDR.MODE || asserted == s.drv.slot then done t
  else if asserted then
    (if t.rd LDR.STATE = 1 then done ((t.add LDR.LOADS 1).moveIn.setLeaf Lf.LDR.SLOT_INSERT) else done t)
  else if t.rd LDR.STATE = 1 then done (t.setLeaf Lf.LDR.SLOT_EJECTED)
  else done t

/-- EJECT_BUTTON (R190): LDR_EJECT_N falls with AUTO_EJECT at 1. -/
def execEjectButton (s : State) : Host.Outcome State Fault Refusal :=
  if s.pow.phase = .run && s.is LDR.AUTO_EJECT && !s.pageDown 0x1A then done (s.ejectRequest false).1 else done s

/-- EJECT_MOTION_START (R190, R243): SPN reads STOPPED. -/
def execEjectMotionStart (s : State) : Host.Outcome State Fault Refusal :=
  if s.drv.ejecting && s.ecd.units = [] && s.rd SPN.STATE = 0 && !s.pow.pfail && !s.pageDown 0x1A then
    let t := ({ s with drv := { s.drv with ejecting := false, demand := false, seeks := [] } }).ergSave
    done (t.moveOut.discAbsent)
  else done s

/-- LOAD_TIMEOUT (R189). -/
def execLoadTimeout (s : State) : Host.Outcome State Fault Refusal :=
  let jam := if s.is LDR.MODE then Lf.LDR.SLOT_JAM else Lf.LDR.TRAY_JAM
  match s.rd LDR.STATE with
  | 2 => done ((s.add LDR.JAMS 1).moveOut.loaderGoEnd.setLeaf jam)
  | 4 => done (((s.add LDR.JAMS 1).wr LDR.STATE 7).loaderGoEnd.setLeaves [jam, Lf.LDR.LOAD_TIMEOUT])
  | _ => done s

/-- BOTH_LIMITS_FAULT (R189). -/
def execBothLimitsFault (s : State) : Host.Outcome State Fault Refusal :=
  if s.limAct false && s.limAct true && s.pow.phase = .run then
    done ((s.wr LDR.STATE 7).loaderGoEnd.setLeaves [Lf.LDR.LIMIT_A_FAULT, Lf.LDR.LIMIT_B_FAULT])
  else done s

/-- LOADER_FAULT_PIN (R192): the bridge stops. -/
def execLoaderFaultPin (s : State) : Host.Outcome State Fault Refusal :=
  if s.pow.phase = .run then
    done (({ s with drv := { s.drv with flt := 1 } }).setLeaf Lf.LDR.HB_OVERCURRENT)
  else done s

/-- LOADER_THERMAL_TIMEOUT (R192). -/
def execLoaderThermalTimeout (s : State) : Host.Outcome State Fault Refusal :=
  if s.drv.flt = 1 then done (({ s with drv := { s.drv with flt := 0 } }).setLeaf Lf.LDR.HB_THERMAL) else done s

/-- The identity formed over the TOC or control data and the first sectors (R460). -/
def identOf (i : DiscInfo) (cd : Bool) : List Byte :=
  let size := if cd then 2352 else 2064
  let body := i.idSectors.flatMap fun o => match o with
    | some b => padTo size b
    | none => List.replicate size 0
  (sha256 ((if cd then i.tocQ.flatMap fun q => padTo 12 q.2 else []) ++ body)).take 16

/-- Step 4 of detection (R191, R243, R460). -/
def State.detectIdent (s : State) (i : DiscInfo) : State :=
  let cd := 1 ≤ s.rd LDR.DISC && s.rd LDR.DISC ≤ 3
  let ident := identOf i cd
  let partial_ := i.idSectors.any (· == none)
  let changed := s.drv.lastId ≠ none && s.drv.lastId ≠ some ident
  let t := { s with drv := { s.drv with toc := i, otp := i.otp, discId := some ident, lastId := some ident } }
  let t := (List.range 4).foldl (fun t k => t.wr (RYL.IDENT.at k) (leAt ident (4 * k) 4)) t
  let t := t.wrAll [(RYL.PARTIAL, b2n partial_), (RYL.ID_OK, 1)]
  let t := t.setLeaves ([Lf.LDR.TOC_READY, Lf.LDR.DISC_ID_READY] ++ (if changed then [Lf.LDR.DISC_ID_CHANGED] else []))
  let t := if changed then t.dropCached fun c => c.ns == 1 else t
  match t.maps.find? fun m => m.ident == ident with
  | none => t
  | some m =>
    if !t.is ERG.RESTORE_EN || t.rd OAS.STATE ≠ 4 then t
    else if !m.ok then t.setLeaf Lf.ERG.MAP_RESTORE_FAIL
    else ({ t.wr ERG.LEARNED 1 with erg := { t.erg with segs := m.segs } }).regrade.setLeaf Lf.ERG.MAP_RESTORED

/-- The end of CMD.DETECT's operation; one that waited starts from READY, and is illegal elsewhere (R45, R189). -/
def State.detectGoEnd (s : State) : State :=
  if !s.is LDR.DETECT then s
  else
    let (t, again) := s.goEnd LDR.DETECT
    if !again then t
    else if t.rd LDR.STATE = 6 then t.detectStart
    else (t.goDone LDR.DETECT).setLeaf Lf.LDR.STATE_ERR

/-- Detection ends in READY (R191). -/
def State.detectReady (s : State) : State :=
  ({ s.wr LDR.STATE 6 with drv := { s.drv with detect := 0 } }).detectGoEnd

/-- DETECT_STEP_DONE (R191). Log: 46 (DEDUCED). -/
def execDetectStepDone (r : DetectResult) (s : State) : Host.Outcome State Fault Refusal :=
  if s.rd LDR.STATE ≠ 5 || !s.mechOk then done s
  else match s.drv.detect with
  | 1 =>
    if r.chuckFail then
      let t := { s with drv := { s.drv with detect := 0, demand := false, ejecting := true } }
      done (t.detectGoEnd.setLeaf Lf.LDR.CHUCK_FAIL)
    else done { s with drv := { s.drv with detect := 2 } }
  | 2 =>
    let none_ := r.at06 = 0 && !r.at12 && !r.surface
    if none_ then done (s.discAbsent.detectReady)
    else
      let up := r.at06 = 0 && !r.at12
      let layers := if 2 ≤ r.at06 then 2 else 1
      let kind := if up then [Lf.LDR.DISC_UPSIDE] else if r.at06 = 1 then [Lf.LDR.DISC_DVD_SL]
        else if 2 ≤ r.at06 then [Lf.LDR.DISC_DVD_DL] else [Lf.LDR.DISC_CD]
      let t := s.wrAll [(LDR.UPSIDE, b2n up), (LDR.DISC, if up then 15 else if r.at06 = 1 then 4 else if 2 ≤ r.at06 then 5 else 1)]
      let t := { t with drv := { t.drv with layers := layers, detect := 3 } }
      let t := (t.setLeaves (Lf.LDR.DISC_PRESENT :: kind)).mediaChange.postEvent 4 2
      done (if up then t.noteProfile.detectReady else t)
  | 3 =>
    let blank := !r.rf
    let unknown := r.rf && r.disc = 15
    let code := if unknown then 15 else if blank && !r.recordable then s.rd LDR.DISC else if r.disc = 15 then s.rd LDR.DISC else r.disc
    let t := s.wrAll [(LDR.BLANK, b2n blank), (LDR.DISC, code)]
    let t := t.wr SLD.SECTOR_AREA (if 1 ≤ code && code ≤ 3 then 0x006C5555 else if code = 15 then t.rd SLD.SECTOR_AREA else 0x000EEB66)
    let t := t.setLeaves ((if r.recordable then [Lf.LDR.DISC_RECORDABLE] else []) ++
      (if blank then [Lf.LDR.DISC_BLANK] else []) ++ (if unknown then [Lf.LDR.DISC_UNKNOWN] else []))
    let t := t.noteProfile
    done (if blank || unknown then t.detectReady else { t with drv := { t.drv with detect := 4 } })
  | 4 => done ((s.detectIdent r.info).detectReady)
  | _ => done s

end Sys2Proof.Machine
end

