-- ==== Sys2Proof/Machine/Channel.lean ====
section
/-! DEFINITION. The read channel and the demodulator (08_event_channel.md). -/

namespace Sys2Proof.Machine

/-! ### Timing recovery (R204 to R206) -/

/-- One crossing of a middle level: the period and the phase move by their shares of the error (R204). Log: 51 (DESIGN
CHOICE). -/
def State.crossingAt (s : State) (e : Int) : State :=
  let c := s.chn
  let acq := s.rd CHN.STATE = 1 || s.is CHN.RECAPTURE
  let ki := s.rd (if acq then CHN.ACQ_KI_SHIFT else CHN.KI_SHIFT)
  let kp := s.rd (if acq then CHN.ACQ_KP_SHIFT else CHN.KP_SHIFT)
  s.setChn { c with
    period := c.period + Config.quot 65 (e * c.period) (2 ^ (12 + ki))
    phase := c.phase + Config.quot 66 (e * c.period) (2 ^ (12 + kp))
    errs := (e :: c.errs).take 256 }

/-- One crossing, after the page's injection if it has one: noise in ps on its time, or its suppression (R523). -/
def State.crossing (s : State) (e : Int) : State :=
  match s.mirEvent 0x09 4 (fun _ => true) with
  | (t, none) => t.crossingAt e
  | (t, some n) =>
    if t.rd (MIR.SEL.at n) % 2 = 1 then t
    else
      let (v, u) := t.lfsrNext n
      u.crossingAt (e + Config.quot 69 (noiseOf v (t.rd (MIR.AMOUNT.at n)) * 4096 * 65536 * 1000) u.chn.period)

/-- Crossings in order; inside a dropout the period holds and the phase advances at it (R205). -/
def State.crossings (s : State) (l : List Int) : State :=
  if !s.delivering || s.is CHN.IN_DROP || s.pageDown 0x09 then s
  else
    let t := (l.foldl State.crossing s).showRate
    let r := t.rd CHN.RATE_KBPS
    let ref := t.chn.rateRef
    if t.rd CHN.STATE = 2 && ref < 100 * (max r ref - min r ref) then
      (t.setChn { t.chn with rateRef := r }).setLeaf Lf.CHN.RATE_CHANGE
    else t

/-- Whether the RMS of the last `n` phase errors compares with a limit in hundredths: below it, or above it (R205). Log: 55
(DEDUCED). -/
def State.rmsBelow (s : State) (n limit : Nat) : Bool :=
  let l := s.chn.errs.take n
  l.length == n && l.foldl (fun (a : Int) e => a + e * e) 0 * 10000 < ((n * (limit * 4096) ^ 2 : Nat) : Int)
def State.rmsAbove (s : State) (n limit : Nat) : Bool :=
  let l := s.chn.errs.take n
  l.length == n && ((n * (limit * 4096) ^ 2 : Nat) : Int) < l.foldl (fun (a : Int) e => a + e * e) 0 * 10000

/-- The channel locks, and SPN may take its rate (R178, R205, R206). -/
def State.chnLock (s : State) : State :=
  let t := s.chnTo 2
  let t := t.setChn { t.chn with rateRef := s.rd CHN.RATE_KBPS }
  if 2 ≤ t.rd SPN.STATE && t.rd SPN.STATE ≤ 4 then t.wr SPN.RATE_MODE 1 else t

/-- The recovered rate is one that the channel locks to (R206). -/
def State.rateFits (s : State) : Bool := 2000 ≤ s.rd CHN.RATE_KBPS && s.rd CHN.RATE_KBPS ≤ 252000

/-- TIMING_LOCK (R205, R206): from ACQUIRE. -/
def execTimingLock (errs : List Int) (s : State) : Host.Outcome State Fault Refusal :=
  let t := s.crossings errs
  if t.rd CHN.STATE = 1 && t.rateFits && t.rmsBelow 256 10 then done (t.chnLock.setLeaf Lf.CHN.TIMING_LOCK) else done t

/-- FREEWHEEL_RELOCK (R205): the dropout has ended, and RECAPTURE ends. Log: 52 (DEDUCED). -/
def execFreewheelRelock (errs : List Int) (s : State) : Host.Outcome State Fault Refusal :=
  let t := s.crossings errs
  if t.rd CHN.STATE = 3 && !t.is CHN.IN_DROP && t.rmsBelow 64 10 then done t.chnLock else done t

/-- Timing falls back to ACQUIRE (R205). -/
def State.timingLost (s : State) : State := (s.chnAcquire.add CHN.LOCK_LOSSES 1).setLeaf Lf.CHN.TIMING_LOST

/-- TIMING_LOST (R205). -/
def execTimingLost (errs : List Int) (s : State) : Host.Outcome State Fault Refusal :=
  let t := s.crossings errs
  if t.rd CHN.STATE = 2 && t.rmsAbove 256 25 then done t.timingLost else done t

/-- FREEWHEEL_TIMEOUT (R205). -/
def execFreewheelTimeout (s : State) : Host.Outcome State Fault Refusal :=
  if s.rd CHN.STATE = 3 then done s.timingLost else done s

/-- OVERRATE (R206): STATE stays ACQUIRE. -/
def execOverrate (s : State) : Host.Outcome State Fault Refusal :=
  if s.rd CHN.STATE = 1 then done (s.setLeaf Lf.CHN.OVERRATE) else done s

/-! ### Levels and equalizer (R208, R209, R225) -/

/-- The levels moved toward the envelope (R209). -/
def State.levelAdapt (s : State) (top bottom : Int) : State :=
  let span := top - bottom
  let hi := top - Config.quot 67 span 32
  let lo := bottom + Config.quot 68 span 32
  let t := s.wrAll [(CHN.NOW_TOP, (clampInt 0 1023 hi).toNat), (CHN.NOW_BOT, (clampInt 0 1023 lo).toNat)]
  let setTop : Int := s.rd CHN.SET_TOP
  let setBot : Int := s.rd CHN.SET_BOT
  let far := fun (v w : Int) => setTop - setBot < 8 * (v - w).natAbs
  let was := far (s.rd CHN.NOW_TOP) setTop || far (s.rd CHN.NOW_BOT) setBot
  let now := far (t.rd CHN.NOW_TOP) setTop || far (t.rd CHN.NOW_BOT) setBot
  t.setLeaves ((if hi < 0 || 1023 < hi || lo < 0 || 1023 < lo then [Lf.CHN.LEVEL_LIMIT] else []) ++
    (if now && !was then [Lf.CHN.LEVEL_ADAPT] else []))

/-- The taps moved by one step each (R208). -/
def State.eqAdapt (s : State) (taps : List Int) : State :=
  let old := fun (k : Nat) => s.rdInt (CHN.EQ_NOW.at k)
  let want := fun (k : Nat) => old k + (taps[k]?).getD 0
  let t := (List.range 7).foldl (fun t k => t.wrInt (CHN.EQ_NOW.at k) (clampInt (-2048) 2047 (want k))) s
  let far := fun (u : State) (k : Nat) => 256 < (u.rdInt (CHN.EQ_NOW.at k) - u.rdInt (CHN.EQ_INIT.at k)).natAbs
  let lim := fun (v : Int) => v == -2048 || v == 2047
  t.setLeaves ((if (List.range 7).any fun k => far t k && !far s k then [Lf.CHN.EQ_ADAPT] else []) ++
    (if (List.range 7).any fun k => lim (t.rdInt (CHN.EQ_NOW.at k)) && !lim (old k) then [Lf.CHN.EQ_LIMIT] else []))

/-- SNR, ASYM and the soft samples' clipping (R225). Log: 55 (DEDUCED). -/
def State.chnQuality (s : State) (b : BitBlock) : State :=
  let asymFar := fun (u : State) => u.rd CHN.ASYM_LIM < (u.rdInt CHN.ASYM).natAbs
  let t := (s.wr CHN.SNR b.snr).wrInt CHN.ASYM b.asym
  let low := s.rd CHN.STATE = 2 && b.snr < s.rd CHN.SNR_THR
  let since := if low then some (s.chn.snrSince.getD s.elapsed) else none
  let due := match since with
    | some a => a + 1000 ≤ s.elapsed && !s.chn.snrSet
    | none => false
  let t := t.setChn { t.chn with snrSince := since, snrSet := low && (s.chn.snrSet || due) }
  t.setLeaves ((if due then [Lf.CHN.SNR_LOW] else []) ++
    (if asymFar t && !asymFar s then [Lf.CHN.ASYM] else []) ++
    (match b.clips with
      | some n => if 256 * s.rd CHN.CLIP_FR < n then [Lf.CHN.SOFT_CLIP] else []
      | none => []))

/-- CHN_BIT_BLOCK_BOUNDARY (R204, R208, R209, R222, R225): a LEVEL_SET transfer replaces the adaptation step. -/
def execChnBitBlockBoundary (b : BitBlock) (s : State) : Host.Outcome State Fault Refusal :=
  if !s.delivering || s.pageDown 0x09 then done s
  else
    let st := s.rd CHN.STATE
    let t := (s.mirStage 0x09).crossings b.errs
    let t := if st = 2 && t.shdPend 0x09 && !t.is (Hdr.SHD_HOLD 0x09) then t.levelCommit
      else if t.is CHN.LEVEL_AD_EN && (st = 2 || st = 3) && !t.is CHN.IN_DROP then t.levelAdapt b.top b.bottom
      else t
    let t := if t.is CHN.EQ_AD_EN && st = 2 then t.eqAdapt b.taps else t
    done (if t.is CHN.IN_DROP then t else t.chnQuality b)

/-- EQ_LOAD (R208): EQ_CMD.LOAD. -/
def execEqLoad (s : State) : Host.Outcome State Fault Refusal :=
  if s.pageDown 0x09 then done s else done ((s.eqLoad).goDone CHN.EQ_LOAD)

/-! ### Dropouts, blank areas and RF loss (R205, R211 to R213) -/

/-- A dropout from its first covered bit on (R211). -/
def State.dropout (s : State) (theta : Nat) : State :=
  let (a, l) := s.addrNow
  let t := (s.add CHN.DROPOUTS 1).wr CHN.IN_DROP 1
  let t := { t with chn := { t.chn with dropTheta := theta, dropAddr := a, dropLayer := l }
                    erg := { t.erg with drops := t.erg.drops ++ [theta] } }
  let t := if t.rd CHN.STATE = 2 then (t.chnTo 3).add CHN.FREEWHEELS 1 else t
  t.setLeaf Lf.CHN.DROPOUT

/-- DROPOUT_DECLARED (R211). -/
def execDropoutDeclared (theta : Nat) (s : State) : Host.Outcome State Fault Refusal :=
  if s.delivering && !s.is CHN.IN_DROP && !s.pageDown 0x09 then done (s.dropout theta) else done s

/-- DROPOUT_END (R211, R205): θ of the last covered bit. Log: 52 (DEDUCED). -/
def execDropoutEnd (theta : Nat) (s : State) : Host.Outcome State Fault Refusal :=
  if s.is CHN.IN_DROP && !s.pageDown 0x09 then
    let t := (s.wrAll [(CHN.IN_DROP, 0), (CHN.RECAPTURE, if s.rd CHN.STATE = 3 then 1 else 0)]).setLeaf Lf.CHN.DROPOUT_END
    let t := t.setChn { t.chn with errs := [] }
    done (t.ergReport 0 s.chn.dropAddr s.chn.dropLayer s.chn.dropTheta theta)
  else done s

/-- BLANK_TIMEOUT (R205, R212). -/
def execBlankTimeout (s : State) : Host.Outcome State Fault Refusal :=
  if s.delivering && s.is CHN.IN_DROP && s.is CHN.RF_OK then done ((s.chnTo 4).setLeaf Lf.CHN.BLANK) else done s

/-- BLANK_END (R205). -/
def execBlankEnd (s : State) : Host.Outcome State Fault Refusal :=
  if s.rd CHN.STATE = 4 then done s.chnAcquire else done s

/-- RF_OK_CHANGE (R213): a fall is a dropout as well, from the bit at θ. -/
def execRfOkChange (ok : Bool) (theta : Nat) (s : State) : Host.Outcome State Fault Refusal :=
  if s.pageDown 0x09 || s.is CHN.RF_OK == ok then done s
  else
    let t := s.wr CHN.RF_OK (b2n ok)
    let busy := s.rd CHN.STATE ≠ 0
    let t := if ok then t.leafIf busy Lf.CHN.RF_BACK else t.leafIf busy Lf.CHN.RF_LOST
    done (if !ok && t.delivering && !t.is CHN.IN_DROP then t.dropout theta else t)

/-! ### Sync and codewords (R214 to R216) -/

/-- The next frame of the block or sector. -/
def State.nextFrame (s : State) : Nat := (s.rd DEM.FRAME + 1) % (if s.isDvd then 26 else 98)

/-- SYNC_FOUND (R214): its offset from the expected position, and for DVD its code and the frame index that the code pair
fixes. -/
def execSyncFound (ofs : Int) (id frame : Nat) (s : State) : Host.Outcome State Fault Refusal :=
  let st := s.rd DEM.STATE
  if st = 3 || s.pageDown 0x0A then done s
  else
    let dvd := s.isDvd
    let place := fun (t : State) => t.wrAll [(DEM.FRAME, if dvd then frame else t.nextFrame), (DEM.SYNC_ID, if dvd then id else 0),
      (DEM.INSERT_RUN, 0)]
    let locked := s.rd CHN.STATE = 2
    if st = 0 then
      let n := if ofs = 0 then s.chn.syncs + 1 else 1
      let t := { place s with chn := { s.chn with syncs := n, through := locked } }
      if s.rd DEM.LOCK_N ≤ n then done ((t.wr DEM.STATE 1).setLeaf Lf.CHN.SYNC_LOCK) else done t
    else if s.rd DEM.SYNC_WIN < ofs.natAbs then done s
    else
      let t := { (place s).wr DEM.STATE 1 with chn := { s.chn with through := locked } }
      if ofs = 0 then done t
      else
        let t := t.wrInt DEM.LAST_OFS ofs
        done (if s.chn.through && locked then (t.add CHN.SLIPS 1).setLeaf Lf.CHN.TIMING_SLIP else t)

/-- SYNC_INSERT (R214). -/
def execSyncInsert (s : State) : Host.Outcome State Fault Refusal :=
  let st := s.rd DEM.STATE
  if (st = 1 || st = 2) && !s.pageDown 0x0A then
    let n := s.rd DEM.INSERT_RUN + 1
    let t := (s.add DEM.INSERTS 1).wrAll [(DEM.INSERT_RUN, min 255 n), (DEM.FRAME, s.nextFrame), (DEM.STATE, 2)]
    let t := t.setLeaf Lf.CHN.SYNC_INSERT
    if s.rd DEM.INSERT_MAX ≤ n then
      done ((({ t with chn := { t.chn with syncs := 0 } }.wr DEM.STATE 0).add DEM.SYNC_LOSSES 1).setLeaf Lf.CHN.SYNC_LOST)
    else done t
  else done s

/-- The entry that DEM hands ECD for a byte (R216). Log: 50 (DESIGN CHOICE). -/
def State.demEntry (s : State) (data margin : Nat) (erased inserted : Bool) : Nat :=
  let erase := erased || inserted || margin < s.rd DEM.ERASE_THR
  data + 256 * b2n erase + 512 * min 7 (margin / 16)

/-- CODEWORD_DECODE (R215, R216): the byte and the margin of the best codeword, whether a soft sample of it or of its
merging bits is ERASURE, whether its hard decisions form no legal codeword, and whether its frame lies wholly inside an
inserted sync span. Log: 50 (DESIGN CHOICE). -/
def execCodewordDecode (data margin : Nat) (erased illegal inserted : Bool) (s : State) : Host.Outcome State Fault Refusal :=
  if s.rd DEM.STATE = 3 || s.pageDown 0x0A then done s
  else
    let t := s.setChn { s.chn with entries := s.chn.entries ++ [s.demEntry data margin erased inserted] }
    done (if illegal then (t.add DEM.ILLEGAL 1).setLeaf Lf.CHN.ILLEGAL_CODE else t)

/-! ### Subcode and addresses (R218 to R220) -/

/-- The number that a BCD byte spells, if it is one. -/
def bcd (b : Nat) : Option Nat := if b / 16 < 10 ∧ b % 16 < 10 then some (b / 16 * 10 + b % 16) else none

/-- The LBA of a Q's absolute time, when its fields are legal (R219). -/
def qLba (q : List Byte) : Option Int :=
  match bcd (beAt q 7 1), bcd (beAt q 8 1), bcd (beAt q 9 1) with
  | some m, some sec, some f => if sec ≤ 59 ∧ f ≤ 74 then some ((m * 60 + sec) * 75 + f - 150) else none
  | _, _, _ => none

/-- The address after the last one, while one is held (R219). -/
def State.predictAddr (s : State) : State :=
  if s.is DEM.ADDR_VALID then s.wrAll [(DEM.ADDR, s.rd DEM.ADDR + 1), (DEM.PREDICTED, 1)] else s

/-- An address taken from the disc (R219), with what waits for one: a zone boundary, a seek and a slip (R178, R184, R185). -/
def State.takeAddr (s : State) (a layer src : Nat) : State :=
  let old := s.is DEM.ADDR_VALID
  let jump := old && (s.rd DEM.ADDR + 1) % 2 ^ 24 ≠ a && s.drv.seek == none && s.drv.slip == none && !s.drv.fixing
  let turn := old && src = 1 && s.rd DEM.LAYER ≠ layer
  let t := s.wrAll [(DEM.ADDR_VALID, 1), (DEM.PREDICTED, 0), (DEM.SRC, src), (DEM.LAYER, layer), (DEM.ADDR, a)]
  let t := if jump then t.add DEM.ADDR_JUMPS 1 else t
  let t := t.setLeaves ((if jump then [Lf.CHN.ADDR_JUMP] else []) ++ (if turn then [Lf.CHN.LAYER_ID] else []))
  let t := if t.zoneOf t.isDvd a layer ≠ t.rd SPN.ZONE then t.zoneEval a layer else t
  (t.seekVerify a layer).slipVerify a

/-- SUBCODE_BLOCK (R218, R219): the 12 bytes of Q, and whether S0 and S1 stood in their frames. -/
def execSubcodeBlock (q : List Byte) (marks : Bool) (s : State) : Host.Outcome State Fault Refusal :=
  if s.rd DEM.STATE = 3 || s.pageDown 0x0A || s.isDvd then done s
  else
    let n := if marks then 0 else s.chn.missed + 1
    let t := s.setChn { s.chn with missed := if 2 ≤ n then 0 else n }
    let t := t.leafIf (2 ≤ n) Lf.CHN.SUBCODE_LOST
    if !qPasses q then done (((t.add DEM.SUBQ_ERRS 1).setLeaf Lf.CHN.SUBQ_CRC).predictAddr)
    else
      let t := (t.setChn { t.chn with q := q }).wr DEM.SUBQ_0 (leAt q 0 4)
      let t := t.setLeaf Lf.CHN.SUBQ_READY
      if beAt q 0 1 % 16 = 1 then
        match qLba q with
        | some a => done (t.takeAddr (toCode 24 a) 0 0)
        | none => done ((t.setLeaf Lf.CHN.ADDR_ERR).predictAddr)
      else done t.predictAddr

/-- DVD_ID_FIELD (R219): the ID after correction by IED, or none when its check fails. Log: 50 (DESIGN CHOICE), 54
(DEDUCED). -/
def execDvdIdField (id : Option Nat) (s : State) : Host.Outcome State Fault Refusal :=
  if s.rd DEM.STATE = 3 || s.pageDown 0x0A || !s.isDvd then done s
  else match id with
    | none => done (((s.add DEM.ID_ERRS 1).setLeaf Lf.CHN.ID_ERR).predictAddr)
    | some v =>
      let t := s.wr DEM.DVD_ID v
      if Config.reservedSector (bits v 24 8) then done ((t.setLeaf Lf.CHN.ADDR_ERR).predictAddr)
      else done (t.takeAddr (v % 2 ^ 24) (bits v 24 1) 1)

/-- A read of SUBQ_0 copies the rest of the Q into holding registers (R220). -/
def State.subqHold (s : State) : State := s.wrAll [(DEM.SUBQ_1, leAt s.chn.q 4 4), (DEM.SUBQ_2, leAt s.chn.q 8 4)]

/-- SUBQ_READ (R220): the read returns the first dword of the stored Q. -/
def execSubqRead (port : HostPort) (s : State) : Host.Outcome State Fault Refusal :=
  if s.pageDown 0x0A then done (s.emit (.regData port 0xA04C 0))
  else done (s.subqHold.emit (.regData port 0xA04C (s.rd DEM.SUBQ_0)))

end Sys2Proof.Machine
end

