-- ==== Sys2Proof/Machine/Oas.lean ====
section
/-! DEFINITION. NAND operations, mounts, collection, the raw path and the shadow store (15_oasis_library.md). -/

namespace Sys2Proof.Machine

/-- Oasis works: its block is up, and the NAND island has power (R97, R108). -/
def State.oasUp (s : State) : Bool :=
  s.pow.phase == .run && !s.pageDown 0x12 && s.rd TIME.STATE ≤ 1 && (!s.pow.pfHeld || s.pow.pfFlush)

/-- A Mirage event of a NAND operation: whether its status is to read failed, the bits to invert, and the busy time added
in µs (R523). -/
def State.nandMirage (s : State) (op : Nat) : State × Bool × Nat × Nat :=
  match s.mirEvent 0x12 4 (fun n => s.rd (MIR.SEL.at n) % 4 == op || s.rd (MIR.SEL.at n) % 4 == 3) with
  | (t, none) => (t, false, 0, 0)
  | (t, some n) =>
    if s.rd (MIR.SEL.at n) % 4 = 3 then (t, false, 0, s.rd (MIR.ARG.at n))
    else (t, op ≠ 2, s.rd (MIR.AMOUNT.at n) % 256, 0)

/-- The busy time that Mirage adds, judged as R411 and R412 judge a real one; `usual` is the array time in µs. -/
def State.addBusy (s : State) (die usual us : Nat) : State :=
  if us = 0 then s
  else
    let t := s.leafIf (2 * usual < us + usual) Lf.NAND.BUSY_LONG
    if 4000 * s.rd OAS.TBERS_MS < us then t.dieFail die else t

/-- A failed program or erase (R406, R411, R412): `false` when the die has no spare left. -/
def State.opFailed (s : State) (die block : Nat) (cnt : Fld) (l : Leaf) (wp : Bool) : State × Bool :=
  let t := ((s.add cnt 1).setLeaf l).leafIf wp Lf.NAND.WP_ACTIVE
  (t.dieOp die false).retire die block

/-- The next sectors of a write programmed (R421, R422). -/
def State.programmed (s : State) (tag n die : Nat) : State :=
  match s.writeOf tag with
  | none => s
  | some w =>
    if w.trim then s
    else
      let k := min (min n 8) (w.count - w.programmed)
      let v := { w with programmed := w.programmed + k, die := die }
      let t := if w.atomic then s else s.commitSectors w w.programmed k die
      let t := { t with nand := t.nand.setWrite v }
      if !w.atomic && v.programmed = w.count then t.writeDone v else t

/-- NAND_PROGRAM_DONE (R411, R412, R417, R421, R422): where the page lay, what it held, and its status. Log: 106 (DESIGN
CHOICE). -/
def execNandProgramDone (die block page : Nat) (kind : ProgKind) (ok wp : Bool) (s : State) : Host.Outcome State Fault Refusal :=
  let st := s.rd OAS.STATE
  if !s.oasUp || (st ≠ 4 && st ≠ 5) || s.lib.dead.contains die then done s
  else if page < dbGet s.nand.ptrs die block then done (s.add OAS.PNE_INTERNAL 1)
  else
    let (t, bad, _, busy) := s.nandMirage 0
    let t := t.addBusy die (s.rd OAS.TPROG_US) busy
    if !ok || bad then
      let (t, spare) := t.opFailed die block OAS.PROG_FAILS Lf.NAND.PROG_FAIL wp
      done (match kind with
        | .data tag _ => if spare || (t.writeOf tag).isNone then t else t.finish tag stNandFailure 0
        | _ => t)
    else
      let t := ((t.setPtr die block (page + 1)).dieOp die true).add OAS.PAGES_PROGRAMMED 1
      let t := match kind with
        | .data tag n => t.programmed tag n die
        | .journal => t.journal 0
        | .other => t
      done t.oasCounts

/-- NAND_ERASE_DONE (R411, R412, R417). -/
def execNandEraseDone (die block : Nat) (ok wp : Bool) (s : State) : Host.Outcome State Fault Refusal :=
  let st := s.rd OAS.STATE
  if !s.oasUp || (st ≠ 4 && st ≠ 5) || s.lib.dead.contains die then done s
  else
    let (t, bad, _, busy) := s.nandMirage 1
    let t := t.addBusy die (1000 * s.rd OAS.TBERS_MS) busy
    if !ok || bad then done (t.opFailed die block OAS.ERASE_FAILS Lf.NAND.ERASE_FAIL wp).1
    else done ((t.erased die block).dieOp die true).oasCounts

/-- What a codeword's decode gives when `more` further bits are inverted: 72 bits are the most that it corrects (R407). -/
def moreBits (more : Nat) (o : Option Nat) : Option Nat := o.bind fun n => if n + more ≤ 72 then some (n + more) else none

/-- One sector of a page read: its bits, re-reads and failure (R408). -/
def State.sectorRead (s : State) (tag more : Nat) (r : SectorRead) : State :=
  let inv := fun (l : List (Option Nat)) => l.map (moreBits more)
  let first := inv r.first
  let bad := fun (l : List (Option Nat)) => l.isEmpty || l.any Option.isNone
  let high := (first ++ inv r.again ++ inv r.last).any fun o => s.rd OAS.BCH_HIGH_THR ≤ o.getD 0 && o.isSome
  let retry := bad first
  let failed := retry && bad (inv r.again) && bad (inv r.last)
  let t := if retry then s.add OAS.READ_RETRIES 1 else s
  let t := if failed then t.add OAS.BCH_FAILS 1 else t
  let t := t.setLeaves ((if high then [Lf.NAND.BCH_HIGH] else []) ++ (if retry then [Lf.NAND.READ_RETRY] else []) ++
    (if failed then [Lf.NAND.BCH_FAIL] else []))
  match t.cmd tag with
  | none => t
  | some c =>
    if failed then t.setCmd { c with lost := c.lost ++ [(0x10 + r.ns, r.block)] }
    else t.setCmd { c with got := c.got ++ [(0x10 + r.ns, r.block)] }

/-- NAND_READ_DONE (R408, R412): the sectors that a page read gave a command. Log: 106 (DESIGN CHOICE). -/
def execNandReadDone (tag die : Nat) (sectors : List SectorRead) (s : State) : Host.Outcome State Fault Refusal :=
  if !s.oasUp || s.rd OAS.STATE ≠ 4 || s.lib.dead.contains die then done s
  else
    let (t, _, more, busy) := s.nandMirage 2
    let t := t.addBusy die (s.rd OAS.TR_US) busy
    let t := (t.dieOp die true).add OAS.PAGES_READ 1
    done (sectors.foldl (fun t r => t.sectorRead tag more r) t)

/-- NAND_BUSY_LONG (R411, R412): `beyond` says that the die stays busy for more than 4 × tBERS. -/
def execNandBusyLong (die : Nat) (beyond : Bool) (s : State) : Host.Outcome State Fault Refusal :=
  if !s.oasUp || s.lib.dead.contains die then done s
  else
    let t := s.setLeaf Lf.NAND.BUSY_LONG
    done (if beyond then t.dieFail die else t)

/-- MOUNT_DONE (R424, R425, R435): a mount that a power failure stopped ends only after R110. Log: 141 (DESIGN CHOICE). -/
def execMountDone (noSuper fail : Bool) (s : State) : Host.Outcome State Fault Refusal :=
  if s.rd OAS.STATE = 3 && s.oasUp && !s.pow.pfHeld then done (s.mountEnd noSuper fail) else done s

/-- GARBAGE_COLLECTION (R415): a block whose valid sectors have moved is erased. Log: 111 (DEDUCED). -/
def execGarbageCollection (die block : Nat) (s : State) : Host.Outcome State Fault Refusal :=
  if !s.oasUp || s.pow.pfHeld || s.rd OAS.STATE ≠ 4 || s.is (Hdr.QUIESCE 0x12) || s.lib.dead.contains die then done s
  else
    let t := s.erased die block
    let t := if t.nand.dies.all fun d => 4 ≤ t.dieFree d then { t with lib := { t.lib with gcBehind := false } } else t
    done t.oasCounts

/-- SHADOW_STORE_WRITE (R429, R435): the sector at the head of the queue. -/
def execShadowStoreWrite (s : State) : Host.Outcome State Fault Refusal :=
  match s.lib.shadowQ with
  | [] => done s
  | x :: r => if s.oasUp && !s.pow.pfHeld then done ({ s with lib := { s.lib with shadowQ := r } }.shadowPut x) else done s

/-! ### The raw path (R417 to R419) -/

/-- The end of a raw operation: its status, and GO. -/
def State.rawEnd (s : State) (status : Nat) : State × Bool :=
  ({ s with lib := { s.lib with raw := none } }.wr OAS.RAW_STATUS status).goEnd OAS.RAW_GO

/-- The status that ends a raw operation before any NAND operation, or none (R417, R418). Log: 108 (DEDUCED). -/
def State.rawRefusal (s : State) (op : Nat) : Option Nat :=
  let st := s.rd OAS.STATE
  let d := s.rd OAS.RAW_DIE
  let b := s.rd OAS.RAW_BLOCK
  if st = 0 then some stNandFailure
  else if s.rd MEM.HOST_NOW < 5 then some stHostMemory
  else if 2 ≤ op && 3 ≤ st && st ≤ 5 then some stReadOnly
  else if op = 2 && s.ptrKnown d b && s.rd OAS.RAW_PAGE < dbGet s.nand.ptrs d b then some stProgramNotErased
  else none

/-- A raw operation starts, or ends at once; a program reads its buffer first (R418). One that waited starts behind it.
Log: 108 (DEDUCED). -/
def State.rawStart (s : State) (op : Nat) : State :=
  match s.rawRefusal op with
  | some st =>
    let (t, again) := s.rawEnd st
    if again then (t.rawEnd ((t.rawRefusal (t.rd OAS.RAW_OP)).getD st)).1 else t
  | none =>
    let job := some (op, s.rd OAS.RAW_DIE, s.rd OAS.RAW_BLOCK, s.rd OAS.RAW_PAGE, s.rd OAS.RAW_BUF)
    let t := { s with lib := { s.lib with raw := job } }
    if op = 2 then
      match t.cacheRead 3 (s.rd OAS.RAW_BUF * 0x1000) 16512 with
      | (u, some _) => u
      | (u, none) => (u.rawEnd stMemoryUncorrectable).1
    else t

/-- A write of 1 to RAW_CMD.GO (R418). -/
def State.rawGo (s : State) : State :=
  if s.pageDown 0x12 then s
  else
    let (t, starts) := s.goWrite OAS.RAW_GO
    if starts then t.rawStart (t.rd OAS.RAW_OP) else t

/-- RAW_CMD written with an OP and GO 1. -/
def State.rawCmd (s : State) (op : Nat) : State := if s.pageDown 0x12 then s else (s.wr OAS.RAW_OP op).rawGo

/-- RAW_READ (R418). -/
def execRawRead (s : State) : Host.Outcome State Fault Refusal := done (s.rawCmd 0)
/-- RAW_READ_RAW (R418). -/
def execRawReadRaw (s : State) : Host.Outcome State Fault Refusal := done (s.rawCmd 1)
/-- RAW_PROGRAM (R417, R418). -/
def execRawProgram (s : State) : Host.Outcome State Fault Refusal := done (s.rawCmd 2)
/-- RAW_ERASE (R418). -/
def execRawErase (s : State) : Host.Outcome State Fault Refusal := done (s.rawCmd 3)

/-- A page is erased: every codeword has at most 16 bits at 0 (R409). -/
def RawErased (r : RawResult) : Bool := r.zeros.length == 16 && r.zeros.all (· ≤ 16)

/-- A raw operation's block becomes known, with the pointer that its pages give, when it was not (R419). Log: 108
(DEDUCED). -/
def State.learnPtr (s : State) (d b ptr : Nat) : State :=
  if s.ptrKnown d b then s else { (s.setPtr d b ptr) with lib := { s.lib with known := s.lib.known ++ [(d, b)] } }

/-- What a finished raw operation leaves, and its status. Log: 108 (DEDUCED). -/
def State.rawResult (s : State) (op d b p buf : Nat) (r : RawResult) : State × Nat :=
  let erased := RawErased r
  let (s, bad, more, busy) := s.nandMirage (match op with | 2 => 0 | 3 => 1 | _ => 2)
  let s := s.addBusy d (s.rd OAS.TR_US) busy
  let bits := r.bits.map (moreBits more)
  match op with
  | 0 =>
    let fail := !erased && bits.any Option.isNone
    let t := ((s.learnPtr d b r.ptr).add OAS.PAGES_READ 1).wrAll [(OAS.ERASED, b2n erased),
      (OAS.BITS, if fail then 0xFF else if erased then 0 else (bits.map fun o => o.getD 0).foldl max 0)]
    if fail then ((t.add OAS.BCH_FAILS 1).setLeaf Lf.NAND.BCH_FAIL, stNandFailure)
    else ((t.cacheWrite 3 (buf * 0x1000) (if erased then List.replicate 16512 0xFF else padTo 16512 r.data)).1, stGood)
  | 1 =>
    let t := ((s.learnPtr d b r.ptr).add OAS.PAGES_READ 1).wrAll [(OAS.ERASED, b2n erased), (OAS.BITS, 0)]
    ((t.cacheWrite 3 (buf * 0x1000) (if erased then List.replicate 18528 0xFF else padTo 18528 r.data)).1, stGood)
  | 2 =>
    let t := s.learnPtr d b r.ptr
    if p < dbGet t.nand.ptrs d b then (t, stProgramNotErased)
    else if !r.ok || bad then ((t.opFailed d b OAS.PROG_FAILS Lf.NAND.PROG_FAIL r.wp).1, stNandFailure)
    else (((t.setPtr d b (p + 1)).dieOp d true).add OAS.PAGES_PROGRAMMED 1, stGood)
  | _ =>
    if !r.ok || bad then ((s.opFailed d b OAS.ERASE_FAILS Lf.NAND.ERASE_FAIL r.wp).1, stNandFailure)
    else
      let t := (s.erased d b).dieOp d true
      ({ t with lib := { t.lib with known := t.lib.known.filter (· ≠ (d, b)) ++ [(d, b)] } }, stGood)

/-- RAW_OP_DONE (R418, R419). Log: 106 (DESIGN CHOICE). -/
def execRawOpDone (r : RawResult) (s : State) : Host.Outcome State Fault Refusal :=
  match s.lib.raw with
  | none => done s
  | some (op, d, b, p, buf) =>
    if !s.oasUp then done s
    else
      let (t, st) := s.rawResult op d b p buf r
      let (t, again) := t.rawEnd st
      done (if again then t.rawStart (t.rd OAS.RAW_OP) else t)

end Sys2Proof.Machine
end

