-- ==== Sys2Proof/Machine/QueueRun.lean ====
section
/-! DEFINITION. Doorbells, fetching, checks at dispatch, completions, slice resets and the shared engines as operations
(12_queues_ordering.md, 13_command_set.md, 14_slices.md). -/

namespace Sys2Proof.Machine

/-! ### Spoofs (R379 to R381) -/

/-- A spoof counted and recorded: a doorbell's (`db`) or an entry's. -/
def State.spoof (s : State) (db : Bool) (reason slice qp pasid rid : Nat) (pre : Bool) : State :=
  let t := (s.add SLC.SPOOFS 1).add (SLC.SPOOF_CNT.at slice) 1
  let t := t.wrAll [(SLC.SP_VALID, 1), (SLC.SP_KIND, b2n db), (SLC.SP_PREFIX, b2n pre), (SLC.SP_REASON, reason),
    (SLC.SP_SLICE, slice), (SLC.SP_QP, qp), (SLC.SPOOF_PASID, pasid), (SLC.SPOOF_REQ, rid)]
  let x := t.sl slice
  let sec := t.now / 1000000
  let same := x.spoofSec = sec
  let n := if same then x.spoofs + 1 else 1
  let due := t.rd SLC.SPOOF_RATE_THR < n && !(same && x.rateSet)
  let t := t.setSl { x with spoofs := n, spoofSec := sec, rateSet := due || (same && x.rateSet) }
  t.setLeaves ((if db then [Lf.SLC.SPOOF_DB] else [Lf.SLC.SPOOF_ENTRY]) ++ (if due then [Lf.SLC.SPOOF_RATE] else []))

/-- The first check of R379 that a PCIe request to a doorbell page fails. -/
def State.doorFault (s : State) (slice rid : Nat) (pasid : Option Nat) : Option Nat :=
  let en := s.is HPT.PASID_EN
  if slice ≠ 0 && !s.bound slice then some 2
  else if slice = 0 && en && pasid.isSome then some 6
  else if slice ≠ 0 && en && pasid.isNone then some 5
  else if s.is (SLC.REQ_CHK.at slice) && rid ≠ s.rd (SLC.REQ_ID.at slice) then some 3
  else if slice ≠ 0 && en && pasid ≠ some (s.rd (SLC.PASID.at slice)) then some 4
  else none

/-- A request to a doorbell page checked: `true` when it may go on (R379, R401). -/
def State.doorCheck (s : State) (port : HostPort) (slice rid : Nat) (pasid : Option Nat) : State × Bool :=
  if port = .serial then (s, true)
  else if slice ≠ 0 && s.pageDown 0x10 then (s, false)
  else match s.doorFault slice rid pasid with
    | none => (s, true)
    | some r => (s.spoof true r slice 0 (pasid.getD 0) rid pasid.isSome, false)

/-! ### Doorbells (R318 to R321) -/

/-- The SOURCE of a clamp record (R52): 0 over PCIe, 1 over the serial port, 2 in a command. -/
def portSource : HostPort → Nat
  | .pcie => 0 | .serial => 1

/-- A doorbell's clamp recorded (R319). -/
def State.doorClamp (s : State) (port : HostPort) (slice qp off wrote kept : Nat) (cq : Bool) : State :=
  if wrote = kept then s
  else (s.clamped (portSource port) 0 0x0F off 0 wrote kept).wrAll
    [(QUE.DC_VALID, 1), (QUE.DC_SLICE, slice), (QUE.DC_CQ, b2n cq), (QUE.DC_QP, qp)]

/-- A doorbell that reaches no queue pair: discarded and counted (R319, R398). -/
def State.doorDrop (s : State) : State := s.add QUE.DB_DROPS 1

/-- `n` entries accepted from an index on (R321). -/
def acceptFrom (s : State) (slice qp depth from_ : Nat) : Nat → List Accepted
  | 0 => []
  | n + 1 => acceptFrom s slice qp depth from_ n ++
      [{ slice := slice, qp := qp, index := (from_ + n) % depth, place := s.que.nextPlace + n, at_ := s.elapsed }]

/-- An SQ doorbell at the queue arbiter (R319 to R321, R339, R341). Log: 85 (DEDUCED), 86 (DEDUCED). -/
def State.sqDoorbell (s : State) (port : HostPort) (slice qp tail : Nat) : State :=
  if s.pageDown 0x0F then s
  else match s.pair slice qp with
    | none => s.doorDrop
    | some p =>
      if (s.sl slice).resetting then s.doorDrop
      else if p.state = .draining then s
      else
        let kept := if p.depth ≤ tail then p.depth - 1 else tail
        let t := s.doorClamp port slice qp (8 * qp) tail kept false
        let n := (kept + p.depth - p.sqTail) % p.depth
        let new := acceptFrom t slice qp p.depth p.sqTail n
        let t := t.setPair { p with sqTail := kept }
        if n = 0 then t
        else
          let t := { t with que := { t.que with accepted := t.que.accepted ++ new, nextPlace := t.que.nextPlace + n,
                                                hadWork := t.que.hadWork || slice != 0 } }
          let t := (t.add QUE.ACCEPTED n).coreWork 1
          t.leafIf t.pow.exit.isSome Lf.QUE.WAKE_WAIT

/-! ### Completions (R316, R324, R457) -/

/-- Mirage's FORCE on CMD: the status of a completion replaced (R524). -/
def State.forceStatus (s : State) (c : Cmd) : State × Cmd :=
  match s.mirEvent 0x11 5 (fun n => bit (s.rd (MIR.SEL.at n)) 7 || s.rd (MIR.SEL.at n) % 64 == c.slice) with
  | (t, some n) => (t, { c with status := t.rd (MIR.ARG.at n) % 65536 })
  | (t, none) => (t, c)

/-- A served remote request answered: NS_DONE, and its tag returns (R457). -/
def State.serveReply (s : State) (c : Cmd) : State :=
  let t := match s.ryl.serves.find? fun v => v.key == c.sqHead with
    | some v =>
      let u := s.nsReply v.src v.tag v.epoch c.status c.specific c.residual
      { u with ryl := { u.ryl with serves := u.ryl.serves.filter (· ≠ v) } }
    | none => s
  (((t.noteCompletion c).add QUE.COMPLETED 1).dropCmd c.tag).noteDrained c.slice

/-- A completion whose turn it is: behind its own data (R292), it is written, waits on a full CQ, or is lost (R314, R316,
R324, R326). Log: 87 (DEDUCED). -/
def State.completeNow (s : State) (c : Cmd) (ok : Bool) : State :=
  if c.stage ≠ .ended || s.chainedOut c || s.pageDown 0x0F || (s.que.dma.reqs.any fun r => r.tag == c.tag) then s
  else if c.qp = 8 then s.serveReply c
  else match s.pair c.slice c.qp with
    | none => s.recoverTag c
    | some p =>
      if p.lostCq then s.recoverTag c
      else if !p.loc && !s.dmaOk then s
      else if p.cqFull then
        let t := if s.que.cqWaiting.contains c.tag then s else { s with que := { s.que with cqWaiting := s.que.cqWaiting ++ [c.tag] } }
        t.setLeaf Lf.QUE.CQ_FULL
      else if !ok then
        let t := s.setPair { p with state := if p.state = .draining then .draining else .halted, lostCq := true }
        (t.setLeaf Lf.QUE.CQ_WRITE_ERR).recoverTag c
      else
        let (t, c) := s.forceStatus c
        let t := t.postCompletion c p
        { t with que := { t.que with cqWaiting := t.que.cqWaiting.filter (· ≠ c.tag) } }

/-- Cached disc sectors that no running command names are dropped while DISC_CACHE_EN is 0 (R338). Log: 144 (DEDUCED). -/
def State.dropLoose (s : State) : State :=
  if s.is QUE.DISC_CACHE_EN then s else s.dropCached fun c => c.ns == 1 && !s.blockHeld c.ns c.block

/-- A completion whose turn it is, and the cached disc sectors that go with its command (R338). Log: 144 (DEDUCED). -/
def State.complete (s : State) (c : Cmd) (ok : Bool) : State :=
  let t := s.completeNow c ok
  if (t.cmd c.tag).isSome then t else t.dropLoose

/-- The completions that wait on one CQ written in the order they became ready, as far as there is room (R324). -/
def State.resumeCq (s : State) (slice qp : Nat) : State :=
  let mine := s.que.cqWaiting.filter fun g => match s.cmd g with
    | some c => c.slice == slice && c.qp == qp
    | none => false
  let (t, any) := mine.foldl (fun (acc : State × Bool) g =>
    match acc.1.cmd g, acc.1.pair slice qp with
    | some c, some p => if p.cqFull then acc else (acc.1.complete c true, true)
    | _, _ => acc) (s, false)
  t.leafIf any Lf.QUE.CQ_RESUMED

/-- A CQ_HEAD doorbell (R319, R324, R341). -/
def State.cqDoorbell (s : State) (port : HostPort) (slice qp head : Nat) : State :=
  if s.pageDown 0x0F then s
  else match s.pair slice qp with
    | none => s.doorDrop
    | some p =>
      if (s.sl slice).resetting then s.doorDrop
      else
        let fits := head < p.depth && (head + p.depth - p.cqHead) % p.depth ≤ (p.cqTail + p.depth - p.cqHead) % p.depth
        let kept := if fits then head else p.cqTail
        let t := s.doorClamp port slice qp (8 * qp + 4) head kept true
        (t.setPair { p with cqHead := kept }).resumeCq slice qp

/-! ### Queue pairs (R312 to R314, R387) -/

/-- QP_CMD.CREATE, which ends at once (R312, R387). -/
def State.qpCreate (s : State) : State :=
  if s.pageDown 0x0F then s
  else
    let sl := s.rd QUE.SEL_SLICE
    let qp := s.rd QUE.SEL_QP
    let cap := 2 ^ s.rd (SLC.DEPTH_LOG2.at sl)
    let want := s.rd QUE.CFG_DEPTH
    let depth := min want cap
    let loc := s.is QUE.CFG_LOC
    let sq := s.rd QUE.SQ_BASE_LO * 64 + s.rd QUE.SQ_BASE_HI * 2 ^ 32
    let cq := s.rd QUE.CQ_BASE_LO * 16 + s.rd QUE.CQ_BASE_HI * 2 ^ 32
    let r := if (s.pair sl qp).isSome then 2
      else if !s.bound sl then 4
      else if loc && !(s.hostRange sq (64 * depth) && s.hostRange cq (16 * depth)) then 5 else 1
    let t := (s.wr QUE.LAST_RESULT r).goDone QUE.QP_CREATE
    if r ≠ 1 then t
    else
      let p : QPair := { slice := sl, qp := qp, depth := depth, loc := loc, atomic := s.is QUE.CFG_ATOMIC, sqBase := sq, cqBase := cq }
      let t := { t with que := { t.que with pairs := sortBy (fun q => q.slice * 8 + q.qp) (p :: t.que.pairs) } }
      let t := if cap < want then (t.clamped 0 0 0x0F 0x044 0 want depth).setLeaf Lf.SLC.DEPTH_CAP_HIT else t
      t.setLeaves [Lf.QUE.SQ_CREATED, Lf.QUE.CQ_CREATED]

/-- Fetching stops and the unfetched entries of a pair are discarded (R314). -/
def State.startDelete (s : State) (p : QPair) (byGo : Bool) : State :=
  let t := s.setPair { p with state := .draining, byGo := p.byGo || byGo }
  { t with que := { t.que with accepted := t.que.accepted.filter fun a => !(a.slice == p.slice && a.qp == p.qp) } }

/-- QP_CMD.DELETE starts on the selected pair (R314). Log: 89 (DEDUCED). -/
def State.deleteStart (s : State) : State :=
  match s.pair (s.rd QUE.SEL_SLICE) (s.rd QUE.SEL_QP) with
  | none => (s.wr QUE.LAST_RESULT 3).goDone QUE.QP_DELETE
  | some p => (s.wr QUE.LAST_RESULT 1).startDelete p true

/-- A write of 1 to QP_CMD.DELETE. -/
def State.qpDelete (s : State) : State :=
  if s.pageDown 0x0F then s
  else
    let (t, starts) := s.goWrite QUE.QP_DELETE
    if starts then t.deleteStart else t

/-- QP_CMD.ABORT starts on the selected pair (R314). Log: 89 (DEDUCED). -/
def State.abortStart (s : State) : State :=
  match s.pair (s.rd QUE.SEL_SLICE) (s.rd QUE.SEL_QP) with
  | none => (s.wr QUE.LAST_RESULT 3).goDone QUE.QP_ABORT
  | some p => (s.wr QUE.LAST_RESULT 1).abortPair p true

/-- A write of 1 to QP_CMD.ABORT. -/
def State.qpAbort (s : State) : State :=
  if s.pageDown 0x0F then s
  else
    let (t, starts) := s.goWrite QUE.QP_ABORT
    if starts then t.abortStart else t

/-- Whether a pair holds no tag and no unfetched entry. -/
def State.pairIdle (s : State) (slice qp : Nat) : Bool :=
  !(s.que.cmds.any fun c => c.slice == slice && c.qp == qp) && !(s.que.accepted.any fun a => a.slice == slice && a.qp == qp)

/-! ### Fetching (R322, R323, R385, R389) -/

/-- Whether the pool gives a slice a tag now, its cap aside (R385). -/
def State.poolGrants (s : State) (i : Nat) : Bool :=
  let others := ((List.range 64).filter (· ≠ i)).map fun k => s.rd (SLC.TAG_RSV.at k) - s.tagsHeld k
  0 < s.tagFree && (s.tagsHeld i < s.rd (SLC.TAG_RSV.at i) || others.foldl (· + ·) 0 < s.tagFree)

/-- What holds an accepted entry back: nothing (0), its tag cap (2), its command bucket (3), or something else (1). -/
def State.fetchHold (s : State) (a : Accepted) : Nat :=
  let aborting : Bool := a.abort || match s.pair a.slice a.qp with
    | some p => p.state == .aborting
    | none => false
  let open_ : Bool := if a.qp = 8 then (s.ryl.serves.any fun v => v.key == a.index)
    else match s.pair a.slice a.qp with
      | none => false
      | some p => (p.state == .active || p.state == .aborting) && !p.cqFull && (p.loc || s.dmaOk)
  if !open_ || (s.mapBit SLC.QUIESCE_LO SLC.QUIESCE_HI a.slice && !aborting) then 1
  else if s.rd (SLC.TAG_CAP.at a.slice) ≤ s.tagsHeld a.slice then 2
  else if !s.poolGrants a.slice then 1
  else if !aborting && s.rd (SLC.CMD_RATE.at a.slice) ≠ 0 && (s.sl a.slice).cmdLevel < 1024 then 3
  else 0

/-- Whether the queue engine fetches at all (R339, R340, R108). Log: 86 (DEDUCED). -/
def State.fetchOk (s : State) : Bool :=
  s.pow.phase == .run && !s.pow.pfHeld && s.rd TIME.STATE ≤ 1 && !s.pageDown 0x0F && !s.is (Hdr.QUIESCE 0x0F) && !s.withheld 0x0F

/-- An entry passed over: a held tag cap and an empty bucket are reported, once for each run of holds (R385, R391). -/
def State.passedOver (s : State) (a : Accepted) : State :=
  let x := s.sl a.slice
  match s.fetchHold a with
  | 2 => if x.capRun then s else (s.setSl { x with capRun := true }).setLeaf Lf.SLC.TAG_CAP_HIT
  | 3 => (s.setSl { x with cmdHeld := true }).setLeaf Lf.SLC.WADI_CMD_EMPTY
  | _ => s

/-- The next entry to fetch, with the entries before it passed over; an entry behind a held one of its own queue waits. -/
def State.nextFetch (s : State) : List Accepted → List (Nat × Nat) → State × Option Accepted
  | [], _ => (s, none)
  | a :: r, seen =>
    if a.qp ≠ 8 && seen.contains (a.slice, a.qp) then s.nextFetch r seen
    else if s.fetchHold a = 0 then (s, some a)
    else (s.passedOver a).nextFetch r ((a.slice, a.qp) :: seen)

/-- The lowest free tag. -/
def State.freeTag (s : State) : Nat := ((List.range 512).find? fun g => s.que.cmds.all fun c => c.tag ≠ g).getD 0

/-- The bytes that a fetch brings, and whether it succeeds: the host's, the cache's, or a remote requester's (R311, R457). -/
def State.entryBytes (s : State) (a : Accepted) (entry : List Byte) (ok : Bool) : State × List Byte × Bool :=
  if a.qp = 8 then
    (s, ((s.ryl.serves.find? fun v => v.key == a.index).map Serve.entry).getD entry, true)
  else match s.pair a.slice a.qp with
    | some p =>
      if p.loc then match s.cacheRead 2 (p.sqBase + 64 * a.index) 64 with
        | (t, some l) => (t, l, true)
        | (t, none) => (t, entry, false)
      else (s, entry, ok)
    | none => (s, entry, ok)

/-- Leaves of free tags falling (R342). -/
def State.noteTags (s : State) (before : Nat) : State :=
  let now := s.tagFree
  let thr := s.rd QUE.TAG_LOW_THR
  s.setLeaves ((if thr ≤ before && now < thr then [Lf.QUE.TAG_LOW] else []) ++
    (if before ≠ 0 && now = 0 then [Lf.QUE.TAG_EMPTY] else []))

/-- The command that a fetched entry makes (R314, R322, R323, R380). Log: 85 (DEDUCED), 88 (DEDUCED). -/
def State.takeEntry (s : State) (a : Accepted) (entry : List Byte) (ok : Bool) : State :=
  let before := s.tagFree
  let (t, bytes, ok) := s.entryBytes a entry ok
  let p := t.pair a.slice a.qp
  let depth := (p.map QPair.depth).getD 1
  let head := if a.qp = 8 then a.index else (a.index + 1) % depth
  let aborting : Bool := a.abort || match p with
    | some q => q.state == .aborting
    | none => false
  let tag := t.freeTag
  let c : Cmd := { tag := tag, slice := a.slice, qp := a.qp, place := a.place, at_ := a.at_, loc := (p.map QPair.loc).getD false,
                   atomic := (p.map QPair.atomic).getD false, entry := bytes, sqHead := head, fetchedAt := t.elapsed }
  let t := { t with que := { t.que with accepted := t.que.accepted.filter (· ≠ a), cmds := t.que.cmds ++ [c] } }
  let t := match p with
    | some q => t.setPair { q with sqHead := head }
    | none => t
  let x := t.sl a.slice
  let charge := !aborting && t.rd (SLC.CMD_RATE.at a.slice) ≠ 0
  let t := t.setSl { x with cmdLevel := if charge then x.cmdLevel - 1024 else x.cmdLevel, capRun := false }
  let t := t.noteTags before
  if !ok then
    let bad := List.replicate 4 (0 : Byte) ++ [0xFF, 0xFF] ++ List.replicate 58 (0 : Byte)
    let t := t.setCmd { c with entry := bad, stage := .ended, status := stHostMemory }
    let t := match t.pair a.slice a.qp with
      | some q => t.setPair { q with state := .halted }
      | none => t
    (t.add QUE.FETCH_ERRS 1).setLeaf Lf.QUE.FETCH_ERR
  else if aborting then t.finish tag stAborted 0
  else if a.qp ≠ 8 && t.is HPT.PASID_EN && a.slice ≠ 0 && c.src ≠ t.rd (SLC.PASID.at a.slice) then
    (t.spoof false 1 a.slice a.qp c.src 0 false).finishFull tag stSpoofed c.src c.dlen none
  else t

/-! ### Dispatch: the checks of CMD (R344 to R346, R358, R382, R383, R455, R456) -/

/-- The MMC operation codes (R359). -/
def mmcOps : List Nat := [0x00, 0x03, 0x12, 0x1B, 0x1E, 0x28, 0xA8, 0xBE, 0xB9, 0x43, 0x51, 0x52, 0x46, 0x4A, 0xBD, 0xBB, 0x5A, 0x55]

/-- The MMC operation codes that NS_REQ carries (R456). -/
def mmcRemote : List Nat := [0x00, 0x12, 0x28, 0xA8, 0xBE, 0xB9, 0x43, 0x51, 0x52, 0x46, 0x5A, 0xBD]

/-- The native opcodes (R367). -/
def nativeOps : List Nat := [0x00, 0x02, 0x03, 0x10, 0x11, 0x12, 0x13, 0x14, 0x15, 0x16, 0x18, 0x20, 0x21, 0x30, 0x40, 0x48, 0x49,
  0x4A, 0x50, 0x51, 0x58, 0x60, 0x61]

/-- Native opcodes that only slice 0 may submit (R367). -/
def slice0Ops : List Nat := [0x14, 0x15, 0x16, 0x21, 0x30, 0x40, 0x48, 0x49, 0x4A, 0x50, 0x51, 0x58, 0x60, 0x61]

/-- A library NSID. -/
def isLib (ns : Nat) : Bool := 0x10 ≤ ns && ns ≤ 0x1F

/-- Whether a local namespace exists: the disc always, a library one when it has a size; the sizes of a library that is not
mounted are not known, and its commands meet that state later (R414). -/
def State.nsExists (s : State) (ns : Nat) : Bool :=
  ns == 1 || (isLib ns && (s.rd OAS.STATE ≠ 4 || s.rd (OAS.NS_SIZE.at (ns - 0x10)) ≠ 0))

/-- A namespace that a read may name: local, or remote with its node in the roster (R455, R456). -/
def State.readCheck (s : State) (slice ns : Nat) (kinds : Nat → Bool) : Nat :=
  let loc := s.localNs ns
  let base := if isRemote loc then loc % 256 else loc
  if !kinds base || !s.mayAccess slice ns then stInvalidNamespace
  else if isRemote loc then (if s.ryl.roster.any fun e => e.id == remoteNode loc then stGood else stNoPeer)
  else if s.nsExists loc then stGood else stInvalidNamespace

/-- A library namespace that a command modifies (R345, R383, R456); `exempt` from the existence check (R345). Log: 147
(DEDUCED). -/
def State.writeCheck (s : State) (slice ns : Nat) (exempt : Bool) : Nat :=
  let loc := s.localNs ns
  if isRemote loc then (if s.mayAccess slice ns then stReadOnly else stInvalidNamespace)
  else if !(loc == 1 || isLib loc) || !s.mayModify slice ns then stInvalidNamespace
  else if loc = 1 then stReadOnly
  else if exempt || s.nsExists loc then stGood else stInvalidNamespace

/-- The check of LIB_MOUNT and LIB_UNMOUNT (R345, R456): the disc is of the wrong kind for them. Log: 147 (DEDUCED). -/
def State.mountCheck (s : State) (slice ns : Nat) : Nat :=
  if s.localNs ns = 1 then stInvalidNamespace else s.writeCheck slice ns true

/-- The status that the namespace check gives a command (R345, R353, R456). Log: 151 (DEDUCED). -/
def State.nsCheck (s : State) (c : Cmd) : Nat :=
  let disc := fun (n : Nat) => n == 1
  let any := fun (n : Nat) => n == 1 || isLib n
  if c.isMmc then
    let r := s.readCheck c.slice c.nsid disc
    if isRemote (s.localNs c.nsid) && !mmcRemote.contains c.cdbOp && (r = stGood || r = stNoPeer) then stNotPrivileged
    else if c.cdbOp = 0x1B && bit (beAt c.cdb 4 1) 1 && r = stGood && !s.mayModify c.slice c.nsid then stInvalidNamespace
    else r
  else match c.opcode with
    | 0x10 => s.readCheck c.slice c.nsid any
    | 0x11 => s.writeCheck c.slice c.nsid false
    | 0x12 => s.writeCheck c.slice c.nsid false
    | 0x13 =>
      let r := s.readCheck c.slice c.nsid isLib
      let r := if isRemote (s.localNs c.nsid) && r = stGood then stInvalidNamespace else r
      if r ≠ stGood then r else s.readCheck c.slice (c.param 1) any
    | 0x14 => s.writeCheck c.slice c.nsid true
    | 0x15 => s.mountCheck c.slice c.nsid
    | 0x16 => s.mountCheck c.slice c.nsid
    | 0x18 =>
      let r := s.writeCheck c.slice c.nsid false
      if r ≠ stGood then r else s.readCheck c.slice (c.param 1) disc
    | 0x20 => if isRemote (s.localNs c.nsid) then stInvalidNamespace else s.readCheck c.slice c.nsid disc
    | 0x60 => if isRemote (s.localNs c.nsid) then stInvalidNamespace else s.readCheck c.slice c.nsid disc
    | 0x61 => if isRemote (s.localNs c.nsid) then stInvalidNamespace else s.readCheck c.slice c.nsid disc
    | _ => if c.nsid = 0 then stGood else stInvalidNamespace

/-- Whether a command's operation is listed (R344). -/
def Cmd.listed (c : Cmd) : Bool := if c.isMmc then mmcOps.contains c.cdbOp else nativeOps.contains c.opcode

/-- The unit attention that meets an MMC entry, if any: 1 after a bind or reset, 2 after a medium change (R358). -/
def State.uaFor (s : State) (c : Cmd) : Nat :=
  if c.isMmc && ! [0x12, 0x03, 0x46, 0x4A].contains c.cdbOp then (s.sl c.slice).ua else 0

/-- The unit attention reported and cleared (R358). -/
def State.uaReport (s : State) (c : Cmd) (why : Nat) : State :=
  let t := s.setSl { s.sl c.slice with ua := 0 }
  let t := (t.setMapBit CMD.UA_MAP_LO CMD.UA_MAP_HI c.slice false).add CMD.UA_REPORTED 1
  (t.setCmd { c with asc := some (if why = 1 then (0x29, 0) else (0x28, 0)) }).finish c.tag stUnitAttention 0

/-- LEVEL_MAX clamped, with its record (R315, R348). -/
def State.levelClamp (s : State) (c : Cmd) : State :=
  let v := leAt c.entry 0x02 1 % 8
  if v = c.levelMax then s
  else (s.clamped 2 c.slice 0x11 0x002 0 v c.levelMax).setCmd { c with clampSeen := true }

/-- A command taken by CMD: its counts and its checks in their order (R344 to R346, R358). -/
def State.take (s : State) (c : Cmd) : State :=
  let c := { c with stage := .dispatched }
  let before := s.xactFree
  let e := s.rd (Hdr.EPOCH 0x0F)
  let t := (s.setCmd c).add (if c.isMmc then CMD.MMC_CMDS else CMD.NATIVE_CMDS) 1
  let t := { t with openTags := t.openTags ++ [OpenTag.mk 0x0F c.tag e (t.rd (Hdr.EPOCH 0x11))] }
  let thr := t.rd QUE.XACT_LOW_THR
  let t := t.setLeaves ((if thr ≤ before && t.xactFree < thr then [Lf.QUE.XACT_LOW] else []) ++
    (if before ≠ 0 && t.xactFree = 0 then [Lf.QUE.XACT_EMPTY] else []))
  let ns := t.nsCheck c
  if !c.listed then t.finish c.tag stInvalidOpcode 0
  else if t.uaFor c ≠ 0 then t.uaReport c (t.uaFor c)
  else if ns ≠ stGood then t.finish c.tag ns 0
  else if !c.isMmc && slice0Ops.contains c.opcode && c.slice ≠ 0 then t.finish c.tag stNotPrivileged 0
  else t.levelClamp c

/-! ### The shared engines (R392 to R396) -/

/-- A slice's weight at an engine. -/
def State.weight (s : State) (e i : Nat) : Nat := match e with
  | 0 => s.rd (SLC.W_DEC.at i) | 1 => s.rd (SLC.W_NAND.at i) | 2 => s.rd (SLC.W_RYL.at i) | _ => s.rd (SLC.W_DMA.at i)

/-- Q of an engine. -/
def engQ : Nat → Nat
  | 0 => 16 | 1 => 1 | _ => 8

/-- A slice's place at an engine. -/
def Engine.of (g : Engine) (i : Nat) : EngSlice := (g.sl.find? fun x => x.slice == i).getD { slice := i }

/-- A slice's place at an engine replaced. -/
def Engine.setSlice (g : Engine) (x : EngSlice) : Engine :=
  { g with sl := sortBy EngSlice.slice (x :: g.sl.filter fun y => y.slice ≠ x.slice) }

/-- The credits of a slice's next unit. -/
def Engine.nextCredits (g : Engine) (i : Nat) : Nat := ((g.reqs.find? fun r => r.slice == i).map EngReq.credits).getD 0

/-- The next slice that a turn goes to: the head of new_list, or of old_list; slices that are no longer ready fall out. -/
def State.popTurn (s : State) (e : Nat) (g : Engine) : Nat → Engine × Option Nat
  | 0 => (g, none)
  | n + 1 =>
    match g.newList, g.oldList with
    | c :: r, _ => let h := { g with newList := r }
                   if s.ready e c then (h, some c) else s.popTurn e h n
    | [], c :: r => let h := { g with oldList := r }
                    if s.ready e c then (h, some c) else s.popTurn e h n
    | [], [] => (g, none)

/-- The slice that the unit boundary gives the engine to, with its deficit raised when a turn begins (R393). -/
def State.nextTurn (s : State) (e : Nat) : Engine × Option Nat :=
  let g := s.eng e
  let fuel := g.newList.length + g.oldList.length + 2
  let start := fun (r : Engine × Option Nat) => match r with
    | (h, some c) => let x := h.of c
                     ((h.setSlice { x with deficit := x.deficit + s.weight e c * engQ e }), some c)
    | (h, none) => (h, none)
  match g.cur with
  | none => start (s.popTurn e g fuel)
  | some c =>
    let on := s.ready e c
    if g.newList ≠ [] then start (s.popTurn e (if on then { g with oldList := c :: g.oldList } else g) fuel)
    else if !on then start (s.popTurn e (g.setSlice { g.of c with deficit := 0 }) fuel)
    else if (g.of c).deficit < g.nextCredits c then start (s.popTurn e { g with oldList := g.oldList ++ [c] } fuel)
    else (g, some c)

/-- One unit of a slice served: its request, its deficit, its share and its byte bucket (R389, R393, R396). -/
def State.serveUnit (s : State) (e c : Nat) (g : Engine) : State :=
  match g.reqs.find? fun r => r.slice == c with
  | none => s.setEng e { g with cur := none }
  | some r =>
    let left := if r.units ≤ 1 then g.reqs.erase r
      else g.reqs.map fun q => if q = r then { q with units := q.units - 1, since := none } else q
    let x := g.of c
    let g := { g with reqs := left, cur := some c, total := g.total + r.credits }
    let g := g.setSlice { x with deficit := x.deficit - r.credits, served := x.served + r.credits }
    let t := s.setEng e g
    let y := t.sl c
    let limited := e = 3 && t.rd (SLC.BYTE_RATE.at c) ≠ 0
    let t := if limited then t.setSl { y with byteLevel := y.byteLevel - 1024 * r.bytes } else t
    let held := limited && (t.sl c).byteLevel ≤ 0 && left.any fun q => q.slice == c
    let t := if held then (t.setSl { t.sl c with byteHeld := true }).setLeaf Lf.SLC.WADI_BYTE_EMPTY else t
    if t.ready e c then t else t.setEng e ((t.eng e).setSlice { (t.eng e).of c with allReady := false })

/-- The sum of the weights of the bound slices at an engine (R394). -/
def State.weightSum (s : State) (e : Nat) : Nat := (s.boundSlices.map (s.weight e)).foldl (· + ·) 0

/-- One slice's window at an engine judged and begun anew (R396). Log: 90 (DEDUCED). -/
def State.judgeShare (s : State) (e : Nat) (x : EngSlice) : State × EngSlice :=
  let w := s.weight e x.slice
  let sum := s.weightSum e
  let total := (s.eng e).total
  let whole := x.allReady && s.ready e x.slice
  let low := whole && x.served * 4 * sum < 3 * w * total
  let well := whole && x.low && w * total ≤ x.served * sum
  let t := s.setLeaves ((if low then [Lf.SLC.SHARE_LOW_DEC.plus e] else []) ++ (if well then [Lf.SLC.SHARE_RESTORED] else []))
  (t, { x with lastServed := x.served, served := 0, allReady := s.ready e x.slice, low := (x.low || low) && !well })

/-- A share window of an engine ends. Log: 90 (DEDUCED). -/
def State.shareWindow (s : State) (e : Nat) : State :=
  let (t, l) := (s.eng e).sl.foldl (fun (acc : State × List EngSlice) x =>
    let (t, y) := acc.1.judgeShare e x
    (t, acc.2 ++ [y])) (s, [])
  let g := t.eng e
  t.setEng e { g with sl := l, lastTotal := g.total, total := 0 }

/-! ### Slices (R374, R376, R384, R388, R398) -/

/-- A slice's buckets filled and its deficits 0 (R376, R398). -/
def State.fillSlice (s : State) (i : Nat) : State :=
  let x := s.sl i
  let t := s.setSl { x with cmdLevel := s.rd (SLC.CMD_BURST.at i) * 1024, byteLevel := (s.rd (SLC.BYTE_BURST.at i) : Int) * 1024 * 1024 }
  (List.range 4).foldl (fun (t : State) e =>
    let g := t.eng e
    t.setEng e { g with sl := g.sl.map fun y => if y.slice = i then { y with deficit := 0 } else y }) t

/-- LDR.PREVENT written with the OR of PREVENT_MAP (R365). -/
def State.writePrevent (s : State) : State :=
  if s.pageDown 0x1A then s else
  let v := b2n (s.rd CMD.PREVENT_MAP_LO ≠ 0 || s.rd CMD.PREVENT_MAP_HI ≠ 0)
  let was := s.rd LDR.PREVENT
  let t := s.wr LDR.PREVENT v
  if was = v then t else t.setLeaf (if v = 1 then Lf.CMD.PREVENT_ON else Lf.CMD.PREVENT_OFF)

/-- A slice bound (R376). -/
def State.bindSlice (s : State) (i : Nat) : State := ((s.fillSlice i).setUa i 1).setLeaf Lf.SLC.BIND_DONE

/-- A slice reset starts: every queue pair of the slice is aborted and then deleted (R398). -/
def State.sliceReset (s : State) (i rebind : Nat) (byGo : Bool) : State :=
  let x := s.sl i
  let t := s.setSl { x with resetting := true, rebind := max x.rebind rebind, resetGo := x.resetGo || byGo }
  (t.que.pairs.filter fun p => p.slice == i).foldl (fun (t : State) p => t.abortPair { p with deleteAfter := true } false) t

/-- SLICE_CMD.RESET or ABORT starts on the selected slice. -/
def State.sliceResetStart (s : State) : State := s.sliceReset (s.rd SLC.CMD_SLICE) 0 true
def State.sliceAbortStart (s : State) : State :=
  let i := s.rd SLC.CMD_SLICE
  let mine := s.que.pairs.filter fun p => p.slice == i
  if mine = [] then (s.setLeaf Lf.SLC.SLICE_ABORTED).goDone SLC.SL_ABORT
  else mine.foldl (fun (t : State) p => t.abortPair p false) (s.setSl { s.sl i with aborting := true })

/-- A write of 1 to SLICE_CMD.RESET (R398). -/
def State.sliceResetGo (s : State) : State :=
  if s.pageDown 0x10 then s
  else
    let (t, starts) := s.goWrite SLC.SL_RESET
    if starts then t.sliceResetStart else t

/-- A write of 1 to SLICE_CMD.ABORT (R398). -/
def State.sliceAbortGo (s : State) : State :=
  if s.pageDown 0x10 then s
  else
    let (t, starts) := s.goWrite SLC.SL_ABORT
    if starts then t.sliceAbortStart else t

/-- The end of a slice's abort, once none of its pairs is aborting (R398). -/
def State.sliceAbortCheck (s : State) (i : Nat) : State :=
  let x := s.sl i
  if x.aborting && !s.que.pairs.any fun p => p.slice == i && p.state == .aborting then
    let t := (s.setSl { x with aborting := false }).setLeaf Lf.SLC.SLICE_ABORTED
    let (t, again) := t.goEnd SLC.SL_ABORT
    if again then t.sliceAbortStart else t
  else s

/-- The end of a slice reset (R398, R376, R400). -/
def State.sliceResetEnd (s : State) (i : Nat) : State :=
  let x := s.sl i
  let t := (s.fillSlice i).setUa i 1
  let t := t.setSl { t.sl i with resetting := false, resetGo := false, rebind := 0, aborting := false }
  let had := t.mapBit CMD.PREVENT_MAP_LO CMD.PREVENT_MAP_HI i
  let t := t.setMapBit CMD.PREVENT_MAP_LO CMD.PREVENT_MAP_HI i false
  let t := if had then t.writePrevent else t
  let t := t.setLeaf Lf.SLC.SLICE_RESET
  let t := if x.aborting then
      let (u, again) := t.goEnd SLC.SL_ABORT
      if again then u.sliceAbortStart else u
    else t
  let t := if x.resetGo then
      let (u, again) := t.goEnd SLC.SL_RESET
      if again then u.sliceResetStart else u
    else t
  let t := t.leafIf (1 ≤ x.rebind) Lf.SLC.UNBIND_DONE
  if x.rebind = 2 then t.bindSlice i else t

/-- The buckets of a slice refilled (R388, R391). Log: 22 (DEDUCED). -/
def State.refill (s : State) (i : Nat) : State :=
  let x := s.sl i
  let cr := s.rd (SLC.CMD_RATE.at i)
  let br := s.rd (SLC.BYTE_RATE.at i)
  let cb := s.rd (SLC.CMD_BURST.at i) * 1024
  let bb : Int := (s.rd (SLC.BYTE_BURST.at i) : Int) * 1024 * 1024
  let cl := if cr = 0 then cb else min cb (x.cmdLevel + cr * 1024 / 1000)
  let bl : Int := if br = 0 then bb else min bb (x.byteLevel + (br * 16384 * 1024 / 1000 : Nat))
  let cf := x.cmdHeld && cl = cb
  let bf := x.byteHeld && bl = bb
  let was := s.ready 3 i
  let t := s.setSl { x with cmdLevel := cl, byteLevel := bl, cmdHeld := x.cmdHeld && !cf, byteHeld := x.byteHeld && !bf }
  let t := t.setLeaves ((if cf then [Lf.SLC.WADI_CMD_FULL] else []) ++ (if bf then [Lf.SLC.WADI_BYTE_FULL] else []))
  if !was && t.ready 3 i then
    let g := t.eng 3
    t.setEng 3 ({ g with newList := g.newList ++ [i] }.setSlice { g.of i with deficit := 0 })
  else t

/-- The namespaces that a grant table names. -/
def State.grantNames (s : State) : List Nat := ((List.range 48).map fun k => s.rd (SLC.G_NSID.at k)).filter (· ≠ 0)

/-- A namespace reachable by two or more of slices 1 to 63, one of which may modify it (R384). Log: 90 (DEDUCED). -/
def State.nsShared (s : State) (ns : Nat) : Bool :=
  let l := ((List.range 64).filter (1 ≤ ·)).filter fun i => s.mayAccess i ns
  2 ≤ l.length && l.any fun i => s.mayModify i ns

/-- The binding changes that a commit brings (R376). -/
def State.bindChanges (s : State) (old : State) : State :=
  ((List.range 64).filter (1 ≤ ·)).foldl (fun (t : State) i =>
    let was := old.bound i
    let now := s.bound i
    if !was && now then t.bindSlice i
    else if was && !now then t.sliceReset i 1 false
    else if was && now && (old.rd (SLC.PASID.at i) ≠ s.rd (SLC.PASID.at i) || old.rd (SLC.REQ_ID.at i) ≠ s.rd (SLC.REQ_ID.at i)) then
      t.sliceReset i 2 false
    else t) s

/-- The SLC commit point (R374, R376, R384, R391, R396). -/
def State.slcCommit (s : State) : State :=
  if !s.shdPend 0x10 || s.is (Hdr.SHD_HOLD 0x10) then s
  else
    let t := s.commitPage 0x10
    let names := s.grantNames ++ t.grantNames
    let slices := (List.range 64).filter (1 ≤ ·)
    let gain := names.any fun n => slices.any fun i => t.mayAccess i n && !s.mayAccess i n
    let lose := names.any fun n => slices.any fun i => s.mayAccess i n && !t.mayAccess i n
    let share := names.any fun n => t.nsShared n && !s.nsShared n
    let weights := (List.range 64).any fun i => (List.range 4).any fun e => s.weight e i ≠ t.weight e i
    let wadi := (List.range 64).any fun i => [SLC.CMD_RATE, SLC.CMD_BURST, SLC.BYTE_RATE, SLC.BYTE_BURST].any fun f =>
      s.rd (f.at i) ≠ t.rd (f.at i)
    let u := t.setLeaves ([Lf.SLC.TABLE_COMMIT] ++ (if gain then [Lf.SLC.NS_GRANT] else []) ++
      (if lose then [Lf.SLC.NS_REVOKE] else []) ++ (if share then [Lf.SLC.NS_SHARED] else []) ++
      (if wadi then [Lf.SLC.WADI_CHANGE] else []) ++ (if weights then [Lf.SLC.WEIGHT_CHANGE] else []))
    u.bindChanges s

end Sys2Proof.Machine
end

