-- ==== Sys2Proof/Machine/CmdOps.lean ====
section
/-! DEFINITION. What the commands of 13_command_set.md share: their turns at CMD, their clamps, their data in and out, the
medium that a disc command meets, and reads of the disc, of the library and of remote namespaces. -/

namespace Sys2Proof.Machine

/-! ### A command's turn -/

/-- The command of a tag, when CMD has taken it, it has not ended, and CMD runs. Log: 91 (DESIGN CHOICE). -/
def State.atTurn (s : State) (tag : Nat) : Option Cmd :=
  if s.pow.phase ≠ .run || s.pow.pfHeld || 1 < s.rd TIME.STATE || s.pageDown 0x11 then none
  else (s.cmd tag).filter fun c => c.stage == .dispatched

/-- Whether an entry carries the CDB of an MMC operation code, or a native opcode (R344). -/
def mmcIs (op : Nat) (c : Cmd) : Bool := c.isMmc && c.cdbOp == op
def nativeIs (op : Nat) (c : Cmd) : Bool := !c.isMmc && c.opcode == op

/-- The command of a tag changed. -/
def State.updCmd (s : State) (tag : Nat) (f : Cmd → Cmd) : State := match s.cmd tag with
  | some c => s.setCmd (f c)
  | none => s

/-- A command's work has begun. -/
def State.begin_ (s : State) (tag : Nat) : State := s.updCmd tag fun c => { c with started := true }

/-- The byte bucket holds a LOC 1 command that moves data (R389). -/
def State.byteHeldNow (s : State) (c : Cmd) : Bool :=
  c.loc && s.rd (SLC.BYTE_RATE.at c.slice) ≠ 0 && (s.sl c.slice).byteLevel ≤ 0

/-- A turn of a command that moves no data: nothing happens where the tag holds no such command. Log: 91 (DESIGN CHOICE). -/
def turn (s : State) (tag : Nat) (fits : Cmd → Bool) (f : Cmd → State) : Host.Outcome State Fault Refusal :=
  match (s.atTurn tag).filter fits with
  | some c => done (f c)
  | none => done s

/-- A turn of a command that moves data: an empty byte bucket holds it (R389, R391). Log: 91 (DESIGN CHOICE). -/
def dataTurn (s : State) (tag : Nat) (fits : Cmd → Bool) (f : Cmd → State) : Host.Outcome State Fault Refusal :=
  turn s tag fits fun c =>
    if s.byteHeldNow c then
      let x := s.sl c.slice
      if x.byteHeld then s else (s.setSl { x with byteHeld := true }).setLeaf Lf.SLC.WADI_BYTE_EMPTY
    else f c

/-! ### Turned away (R91, R92, R95, R348) -/

/-- A field of an MMC entry that names nothing accepted: in the CDB, or in a parameter list (R348, R356). -/
def State.badField (s : State) (c : Cmd) (param : Bool) : State :=
  (s.updCmd c.tag fun d => { d with asc := some (if param then (0x26, 0) else (0x24, 0)) }).finish c.tag stInvalidField 0

/-- The blocks that a command is to use: one that is down ends it with BLOCK_RESET, and a quiesced one keeps work that has
not begun waiting (R91, R92, R95). -/
def State.usePages (s : State) (c : Cmd) (pages : List Nat) (go : State) : State :=
  if pages.any s.pageDown then s.finish c.tag stBlockReset 0
  else if !c.started && pages.any fun p => s.is (Hdr.QUIESCE p) then s
  else go

/-! ### Clamps of command fields (R52, R53, R348, R349) -/

/-- A field clamped with its record: its offset in the entry, its lowest bit, the value given and the value kept. -/
def State.cmdClamp (s : State) (c : Cmd) (off lsb wrote kept : Nat) : State :=
  if wrote = kept then s
  else (s.clamped 2 c.slice 0x11 off lsb wrote kept).updCmd c.tag fun d => { d with clampSeen := true }

/-- The number of blocks transferred (R349): `total` ends the namespace and `room` is what the buffer holds. -/
def State.xferCount (s : State) (start ask total room : Nat) : Nat :=
  min (min ask (total - start)) (min (s.rd CMD.MAX_XFER) room)

/-! ### Data to and from the command's buffer -/

/-- Data of a served remote command sent in NS_DATA caravans of at most 4 KiB (R457). -/
def State.serveOut (s : State) (c : Cmd) (off : Nat) (data : List Byte) : State :=
  match s.ryl.serves.find? fun v => v.key == c.sqHead with
  | none => s
  | some v => (List.range (ceilDiv data.length 4096)).foldl (fun (t : State) k =>
      t.sendTo v.src { tag := v.tag, epoch := v.epoch, param := (off + 4096 * k) / 16, body := .nsData (slice data (4096 * k) (min 4096 (data.length - 4096 * k))) }) s

/-- Command data sent, and the status that the sending leaves (R268, R280, R457). -/
def State.cmdOut (s : State) (c : Cmd) (off : Nat) (data : List Byte) : State × Nat :=
  if data = [] then (s, stGood)
  else if c.qp = 8 then (s.serveOut c off data, stGood)
  else if !c.loc then (s.dataOut c off data, stGood)
  else if s.pageDown 0x0E then (s, stBlockReset)
  else
    let (t, ok) := s.cacheOut c off data
    (t, if ok then stGood else stMemoryUncorrectable)

/-- Small data of a native command: as much as DLEN admits, and RESIDUAL counts what the buffer does not receive (R350).
Log: 93 (DEDUCED). -/
def State.replyNative (s : State) (c : Cmd) (data : List Byte) (specific : Nat) : State :=
  let n := min data.length c.dlen
  let (t, st) := s.cmdOut c 0 (data.take n)
  t.finishFull c.tag st specific (c.dlen - n) none

/-- Small data of an MMC command under its allocation length, which clamps to DLEN; `at_` is the entry offset of that
length's least significant byte (R348, R350). Log: 92 (DEDUCED). -/
def State.replyMmc (s : State) (c : Cmd) (alloc at_ : Nat) (data : List Byte) : State :=
  let kept := min alloc c.dlen
  let t := s.cmdClamp c at_ 0 alloc kept
  let n := min data.length kept
  let (t, st) := t.cmdOut c 0 (data.take n)
  let cut : Bool := n < min data.length alloc
  t.finishFull c.tag (if st = stGood && cut then stResidual else st) (if cut then infoBit stResidual else 0) (alloc - n) none

/-- Command data of `len` bytes from the buffer: none while a DMA read brings them in, or when the source is uncorrectable,
which ends the command (R268, R280, R293). -/
def State.cmdIn (s : State) (c : Cmd) (len asked : Nat) : State × Option (List Byte) :=
  if len = 0 then (s, some [])
  else if c.loc then
    if s.pageDown 0x0E then (s.finishFull c.tag stBlockReset 0 asked none, none)
    else match s.cacheRead 2 c.dptr len with
      | (t, some l) => (t.chargeBytes c len, some l)
      | (t, none) => ((t.finishFull c.tag stMemoryUncorrectable 0 asked none).setLeaf Lf.SYS.RECOVERY_DONE, none)
  else match c.dataIn with
    | some l => (s, some (padTo len l))
    | none => (if c.dmaRead then s else s.startDma c len, none)

/-! ### The medium (R190, R354, R356) -/

/-- What a disc command meets at the loader: it waits, it goes on, or it ends with a status and its own sense codes. -/
inductive Medium where
  | wait
  | ok
  | bad (status : Nat) (asc : Option (Nat × Nat))
  deriving DecidableEq, Repr

/-- The medium now (R354): LDR STATE is 0 between the limits, 1 OPEN or EMPTY, 2 CLOSING or INSERTING, 3 CLOSED or LOADED,
4 OPENING or EJECTING, 5 DETECTING, 6 READY, 7 FAULT. Log: 94 (DEDUCED). -/
def State.medium (s : State) : Medium :=
  let closed := Medium.bad stNoMedium (some (0x3A, 0x01))
  if s.rd LDR.STATE = 7 then .bad stMechanismFault (some (0x53, 0x00))
  else if s.drv.ejecting then closed
  else match s.rd LDR.STATE with
    | 1 => .bad stNoMedium (some (0x3A, 0x02))
    | 4 => .bad stNoMedium (some (0x3A, 0x02))
    | 2 => .wait
    | 5 => .wait
    | 3 => if s.is LDR.MODE then .wait else closed
    | 6 => if s.rd LDR.DISC = 0 then closed
           else if s.rd LDR.DISC = 15 || s.is LDR.BLANK then .bad stMediumFormat none else .ok
    | _ => closed

/-- A disc command at the medium: work that has begun goes on; else it waits, ends, or goes on. Log: 94 (DEDUCED). -/
def State.atMedium (s : State) (c : Cmd) (asked : Nat) (go : State) : State :=
  if c.started then go
  else match s.medium with
    | .wait => s
    | .ok => go
    | .bad st asc => (s.updCmd c.tag fun d => { d with asc := asc }).finishFull c.tag st 0 asked none

/-- A latched spindle, focus loop or pull-in: the disc cannot be read (R146, R183, R355). -/
def State.mechLatched (s : State) : Bool := s.drv.latched || s.opt.foc.latched || s.opt.trk.latched

/-! ### Reads of the disc (R234, R336 to R338, R349 to R352) -/

/-- The piece of a read that one block gives: its bytes, or the status that ends the transfer there. -/
inductive Piece where
  | bytes (l : List Byte)
  | bad (status : Nat)
  deriving DecidableEq, Repr

/-- Free bytes, where the spec states none. Log: 5 (DESIGN CHOICE), 95 (DESIGN CHOICE). -/
def State.freeBytes (s : State) (n : Nat) : List Byte × State :=
  let (v, t) := s.free (2 ^ (8 * n))
  (leBytes n v, t)

/-- Whether a block lies in an audio track: the data bit of its track's CONTROL is 0. -/
def State.audioBlock (s : State) (b : Nat) : Bool :=
  !s.isDvd && match ((s.drv.toc.tracks.filter fun (t : DiscTrack) => t.first ≤ b).reverse).head? with
    | some t => !bit t.control 2
    | none => false

/-- The kind of a raw CD sector: 0 CD-DA, 1 mode 1, 2 form 1 of mode 2, 3 form 2 of mode 2. -/
def rawKind (audio : Bool) (l : List Byte) : Nat :=
  if audio then 0 else if leAt l 15 1 = 1 then 1 else if bit (leAt l 18 1) 5 then 3 else 2

/-- The 2,048 bytes of user data of a block; what a CD-DA or a form 2 sector gives here the spec does not state. Log: 95
(DESIGN CHOICE). -/
def State.userPiece (s : State) (b : Nat) (l : List Byte) : State × Piece :=
  if s.isDvd then (s, .bytes (padTo 2048 l))
  else match rawKind (s.audioBlock b) l with
    | 1 => (s, .bytes (slice l 16 2048))
    | 2 => (s, .bytes (slice l 24 2048))
    | _ => let (d, t) := s.freeBytes 2048; (t, .bytes d)

/-- The user data of a block for READ (10) and READ (12): none of a CD-DA sector (R355). -/
def State.mmcPiece (s : State) (b : Nat) (l : List Byte) : State × Piece :=
  if s.audioBlock b then (s, .bad stWrongTrackMode) else s.userPiece b l

/-- The highest ladder level and the most re-reads that a command's units may take (R315, R362). -/
def State.mostOf (s : State) (c : Cmd) : Nat × Nat := match (s.sl c.slice).retry with
  | some 0 => (min c.levelMax 1, 255)
  | some n => (c.levelMax, n)
  | none => (c.levelMax, 255)

/-- The bytes of a shadowed sector as the cache would hold them: its subcode is not stored, so it is free (R428). Log: 109
(DEDUCED). -/
def State.shadowBytes (s : State) (x : ShadowSec) : State × List Byte :=
  if x.dvd then (s, slice x.data 12 2048)
  else
    let (sub, t) := s.freeBytes 96
    (t, padTo 2352 x.data ++ sub ++ List.replicate 294 0)

/-- Whether a block of a command is settled: delivered, given up or in error. -/
def Cmd.blockSettled (c : Cmd) (ns b : Nat) : Bool :=
  c.got.contains (ns, b) || c.failed.contains b || c.errs.any fun e => e.1 == b

/-- VERIFY and RIP take the blocks of their source in instead of sending them to a buffer. -/
def Cmd.collects (c : Cmd) : Bool := !c.isMmc && (c.opcode == 0x13 || c.opcode == 0x18)

/-- A block of a read delivered, with what its source adds to INFO and LEVEL (R351); while a command runs, its RESIDUAL
field counts the bytes delivered. Log: 97 (DEDUCED). -/
def State.deliver (s : State) (tag b off info level : Nat) (p : Piece) : State :=
  match s.cmd tag with
  | none => s
  | some c => match p with
    | .bad st => s.setCmd { c with errs := c.errs ++ [(b, st)] }
    | .bytes l =>
      let l := if c.collects then l else l.take (c.dlen - off)
      let (t, st) := if c.collects then (s.updCmd tag fun d => { d with remote := d.remote ++ [(off, l)] }, stGood) else s.cmdOut c off l
      if st ≠ stGood then t.updCmd tag fun d => { d with errs := d.errs ++ [(b, st)] }
      else
        let rec_ := if (s.sl c.slice).per && 1 ≤ level && level ≤ 4 then infoBit stRecovered else 0
        t.updCmd tag fun d => { d with got := d.got ++ [(1, b)], residual := d.residual + l.length,
                                       specific := (d.specific % 256 ||| info ||| rec_) + 256 * max (bits d.specific 8 3) level }

/-- The TLP with EP that carries an uncorrectable word of the cache, the command's last data (R268); its payload is open.
Log: 71 (DESIGN CHOICE). -/
def State.poisoned (s : State) (c : Cmd) (off : Nat) : State :=
  let (d, t) := s.freeBytes 8
  ((t.hostWrite c.slice (c.dptr + off) d true).add HPT.POISON_SENT 1).setLeaf Lf.HPT.POISON_SENT

/-- A cached copy that is uncorrectable: over PCIe a poisoned TLP is the command's last data; the command ends there
(R268, R272). -/
def State.poisonOut (s : State) (c : Cmd) (b off : Nat) : State :=
  let t := if c.loc || c.qp = 8 then s else s.poisoned c off
  (t.updCmd c.tag fun d => { d with errs := d.errs ++ [(b, stMemoryUncorrectable)] }).setLeaf Lf.SYS.RECOVERY_DONE

/-- A read of the disc: its blocks' piece, first block, number of blocks and bytes per block; `inOrder` where the pieces differ
in length, so that each block waits for those before it; `shown` is the length field that stands for a number of
blocks; `fresh` on the command's first turn, where a held block took no unit of its own. -/
structure DiscJob where
  piece : State → Nat → List Byte → State × Piece
  lba : Nat
  ask : Nat
  size : Nat
  inOrder : Bool := false
  shown : Nat → Nat := id
  fresh : Bool := false

/-- Where block `i` of a read goes in the buffer. -/
def DiscJob.place (j : DiscJob) (c : Cmd) (i : Nat) : Nat := if j.inOrder then c.residual else i * j.size

/-- One block of a disc read: from the cache, from the shadow, or asked of the disc (R234, R336). Log: 97 (DEDUCED). -/
def State.discBlockStep (j : DiscJob) (tag : Nat) (s : State) (i : Nat) : State :=
  match s.cmd tag with
  | none => s
  | some c =>
    let b := j.lba + i
    let off := j.place c i
    let waits : Bool := j.inOrder && !(List.range i).all fun k => c.blockSettled 1 (j.lba + k)
    if c.blockSettled 1 b then s
    else match (s.cachedAt 1 b).filter fun _ => !waits with
      | some e => match (s.touchCached 1 b).cacheRead (if c.qp = 8 then 3 else 2) e.off e.len with
        | (t, some l) => let (u, p) := j.piece t b l; u.deliver tag b off e.info (if j.fresh then 0 else e.level) p
        | (t, none) => t.poisonOut c b off
      | none =>
        let (a, layer) := s.discAddr b
        match s.shadowNow layer a with
        | some x =>
          if waits then s
          else
            let (t, l) := s.shadowBytes x
            let (u, p) := j.piece t b l
            u.deliver tag b off (infoBit stShadowHit) 0 p
        | none =>
          if (s.cachedAt 1 b).isSome || (s.unitAt (s.unitAddr a) layer).any fun u => bit u.need (a - s.unitAddr a) then s
          else if s.mechLatched then s.setCmd { c with errs := c.errs ++ [(b, stMechanismFault)] }
          else
            let (most, tries) := s.mostOf c
            (s.needSector a layer most tries false).discWork (if c.qp = 8 then 3 else 1)

/-- The error that a read reports (R351): the highest class, and of its blocks the first one's status. -/
def worstErr (l : List (Nat × Nat)) : Nat :=
  let top := (l.map fun e => stClass e.2).foldl max 0
  ((sortBy Prod.fst (l.filter fun e => stClass e.2 = top)).head?.map Prod.snd).getD stGood

/-- The lowest informational status that INFO holds, GOOD with none (R351). -/
def infoStatus (info : Nat) : Nat := match (setBits 8 info).head? with
  | some k => 0x1001 + k
  | none => stGood

/-- The errors that a command's blocks met (R238, R351). -/
def Cmd.errors (c : Cmd) : List (Nat × Nat) :=
  c.failed.map (fun b => (b, if c.status = stGood then stMediumUnrecovered else c.status)) ++ c.errs

/-- Errors that end a transfer at once: a memory error, a reset of a block, and a mechanism that is latched. -/
def Cmd.endsNow (c : Cmd) : Bool :=
  c.errs.any fun e => e.2 == stMemoryUncorrectable || e.2 == stBlockReset || e.2 == stMechanismFault

/-- The first block of a read that is in error, or its number of blocks. Log: 97 (DEDUCED). -/
def Cmd.firstError (c : Cmd) (lba n : Nat) : Nat := (c.errors.map fun e => e.1 - lba).foldl min n

/-- Whether a disc read's blocks are all delivered, or all before the first one in error. -/
def Cmd.discReady (c : Cmd) (lba n : Nat) : Bool :=
  c.endsNow || (List.range (c.firstError lba n)).all fun i => c.got.contains (1, lba + i)

/-- A transfer of `n` blocks ends (R350 to R352). -/
def State.xferEnd (s : State) (j : DiscJob) (tag n : Nat) : State :=
  match s.cmd tag with
  | none => s
  | some c =>
    let bad := c.errors
    let info := (c.specific % 256) ||| (if n < j.ask then infoBit stResidual else 0)
    let level := bits c.specific 8 3
    let first := c.firstError j.lba n
    let sent := if j.inOrder then c.residual else first * j.size
    let st := if bad = [] then infoStatus info else worstErr bad
    let ofs := if 3 ≤ stClass st then first % 65536 else 0
    s.finishFull tag st (info + 256 * level + 65536 * ofs) (j.ask * j.size - sent)
      (if bad = [] then none else some (j.lba + first))

/-- A disc read goes on: its blocks as far as they are there, and its end. Log: 97 (DEDUCED). -/
def State.readStep (s : State) (j : DiscJob) (tag n : Nat) : State :=
  let t := (List.range n).foldl (State.discBlockStep j tag) s
  match t.cmd tag with
  | none => t
  | some c => if c.discReady j.lba n then t.xferEnd j tag n else t

/-- A disc read's first turn: the cache counts, and where read-ahead goes on (R336, R337). -/
def State.readStart (s : State) (c : Cmd) (lba n : Nat) : State :=
  let t := s.begin_ c.tag
  let held := (List.range n).all fun i => (s.cachedAt 1 (lba + i)).isSome
  if n = 0 then t
  else if held then t.add QUE.HITS 1
  else { t.add QUE.MISSES 1 with que := { (t.add QUE.MISSES 1).que with ahead := some (lba + n) } }

/-- A read of the disc; `off` is the entry offset of the length (R336, R349, R354). -/
def State.readDisc (s : State) (c : Cmd) (j : DiscJob) (off : Nat) : State :=
  s.usePages c [0x0B, 0x0E] <| s.atMedium c (j.ask * j.size) <|
    let n := s.xferCount j.lba j.ask s.drv.toc.leadOut (if j.size = 0 then j.ask else c.dlen / j.size)
    (if c.started then s else (s.cmdClamp c off 0 (j.shown j.ask) (j.shown n)).readStart c j.lba n).readStep { j with fresh := !c.started } c.tag n

/-! ### Remote namespaces (R455 to R458) -/

/-- A carried request sent to a node; without a route the command ends at once (R458). -/
def State.askRemote (s : State) (c : Cmd) (node : Nat) (entry : List Byte) : State :=
  if c.started then s
  else if !s.rylUp then s.finish c.tag stBlockReset 0
  else if s.is (Hdr.QUIESCE 0x13) then s
  else if (s.routeUp node).isNone then s.finishFull c.tag stPathFailed 0 c.dlen none
  else (s.begin_ c.tag).openTo node (some c.tag) none (.nsReq entry)

/-- A command to a remote namespace is carried whole; else `here` runs it. -/
def State.carried (s : State) (c : Cmd) (here : State) : State :=
  if isRemote (s.localNs c.nsid) then s.askRemote c (remoteNode (s.localNs c.nsid)) c.entry else here

/-! ### The library (R408, R413, R416) -/

/-- A library block as a command reads it: awaited, its bytes (unwritten ones are zeros), or an error. -/
inductive LibPiece where
  | wait
  | data (l : List Byte) (unwritten : Bool)
  | bad (status : Nat)
  deriving DecidableEq, Repr

/-- A library block now: from the cache, from the map once NAND has given it, or unwritten. -/
def State.libPiece (s : State) (c : Cmd) (k b : Nat) : State × LibPiece :=
  match s.cachedAt (0x10 + k) b with
  | some e => match s.cacheGet e with
    | (t, some l) => (t, .data (padTo 2048 l) false)
    | (t, none) => (t, .bad stMemoryUncorrectable)
  | none => match s.libGet k b with
    | none => (s, .data (List.replicate 2048 0) true)
    | some x =>
      if s.lib.dead.contains x.die || c.lost.contains (0x10 + k, b) then (s, .bad stNandFailure)
      else if c.got.contains (0x10 + k, b) then (s, .data (padTo 2048 x.data) false)
      else (s, .wait)

/-- NAND reads asked for the blocks of a range that need one, as units of the NAND engine (R392). -/
def State.libAsk (s : State) (c : Cmd) (k lo n : Nat) : State :=
  let need := ((List.range n).filter fun i => (s.cachedAt (0x10 + k) (lo + i)).isNone &&
    match s.libGet k (lo + i) with
      | some x => !s.lib.dead.contains x.die
      | none => false).length
  s.request 1 { slice := c.slice, tag := c.tag, credits := 1, units := ceilDiv need 8, bytes := 0, since := some s.elapsed }

/-- Whether every block of a library range can be read now. -/
def State.libReady (s : State) (c : Cmd) (k lo n : Nat) : Bool :=
  (List.range n).all fun i => (s.libPiece c k (lo + i)).2 ≠ .wait

/-- The blocks of a library range in order, with UNWRITTEN, and the first one in error with its status. -/
def State.libFetch (s : State) (c : Cmd) (k lo n : Nat) : State × List (List Byte) × Bool × Option (Nat × Nat) :=
  (List.range n).foldl (fun (acc : State × List (List Byte) × Bool × Option (Nat × Nat)) i =>
    let (t, l, unwritten, lost) := acc
    if lost.isSome then acc
    else match t.libPiece c k (lo + i) with
      | (u, .data d z) =>
        let v := if z || (u.cachedAt (0x10 + k) (lo + i)).isSome || u.pageDown 0x0E then u else (u.cacheAdd (0x10 + k) (lo + i) false 0 0 d).1
        (v, l ++ [d], unwritten || z, none)
      | (u, .bad st) => (u, l, unwritten, some (i, st))
      | (u, .wait) => (u, l, unwritten, none)) (s, [], false, none)

/-- A command that needs the library while it is not mounted ends with NOT_MOUNTED (R413). -/
def State.atLibrary (s : State) (c : Cmd) (asked : Nat) (go : State) : State :=
  s.usePages c [0x12] (if s.rd OAS.STATE ≠ 4 then s.finishFull c.tag stNotMounted 0 asked none else go)

/-- The INFO bits of a library read. -/
def libInfo (cut unwritten : Bool) : Nat := (if cut then infoBit stResidual else 0) ||| (if unwritten then infoBit stUnwritten else 0)

/-- A native READ of library namespace `k` (R349, R367, R408, R416). -/
def State.readLib (s : State) (c : Cmd) (k : Nat) : State :=
  let ask := c.count
  let asked := ask * 2048
  s.atLibrary c asked <|
    let n := s.xferCount c.block ask (s.rd (OAS.NS_SIZE.at k)) (c.dlen / 2048)
    let held := (List.range n).all fun i => (s.cachedAt (0x10 + k) (c.block + i)).isSome
    let t := if c.started then s
      else
        let u := (s.cmdClamp c 0x18 0 ask n).begin_ c.tag
        let u := if n = 0 then u else u.add (if held then QUE.HITS else QUE.MISSES) 1
        u.libAsk c k c.block n
    if !t.libReady c k c.block n then t
    else
      let (t, l, unwritten, lost) := t.libFetch c k c.block n
      let (t, st) := t.cmdOut c 0 l.flatten
      let cut : Bool := n < ask
      let info := libInfo cut unwritten
      let st := if st ≠ stGood then st else match lost with
        | some e => e.2
        | none => infoStatus info
      let t := if st = stMemoryUncorrectable && !c.loc && c.qp ≠ 8 then t.poisoned c (2048 * l.length) else t
      let ok := if 2 ≤ stClass st then (lost.map Prod.fst).getD 0 else n
      t.finishFull c.tag st (info + (if 3 ≤ stClass st then 65536 * (ok % 65536) else 0)) (asked - 2048 * ok) none

end Sys2Proof.Machine
end

