-- ==== Sys2Proof/Machine/CmdMmc.lean ====
section
/-! DEFINITION. The MMC commands (R354 to R366). Layouts of data that the spec leaves to MMC are MMC's. -/

namespace Sys2Proof.Machine

/-! ### Readiness, sense and inquiry -/

/-- TEST UNIT READY (R354): it never waits, and a spin-up that runs is not ready. -/
def State.testReady (s : State) (c : Cmd) : State :=
  match s.medium with
  | .wait => s.finish c.tag stMediumNotReady 0
  | .bad st asc => (s.updCmd c.tag fun d => { d with asc := asc }).finish c.tag st 0
  | .ok => s.finish c.tag (if s.rd SPN.STATE = 1 || s.rd SPN.STATE = 2 then stMediumNotReady else stGood) 0

/-- TEST_UNIT_READY (R354). -/
def execTestUnitReady (tag : Nat) (s : State) : Host.Outcome State Fault Refusal :=
  turn s tag (mmcIs 0x00) fun c => s.carried c (s.testReady c)

/-- Whether an earlier entry of a command's pair has not completed (R357). -/
def State.earlierOpen (s : State) (c : Cmd) : Bool :=
  (s.que.cmds.any fun d => d.slice == c.slice && d.qp == c.qp && d.place < c.place) ||
    s.que.accepted.any fun a => a.slice == c.slice && a.qp == c.qp && a.place < c.place

/-- Sense data of an empty buffer (R357). -/
def noSense : List Byte := [0x70, 0, 0, 0, 0, 0, 0, 10, 0, 0, 0, 0, 0, 0, 0, 0, 0, 0]

/-- REQUEST SENSE (R357): the buffer of the command's pair, which it empties. -/
def State.requestSense (s : State) (c : Cmd) : State :=
  if bit (beAt c.cdb 1 1) 0 then s.badField c false
  else if s.earlierOpen c then s
  else
    let p := s.pair c.slice c.qp
    let t := match p with
      | some q => s.setPair { q with sense := none }
      | none => s
    t.replyMmc c (beAt c.cdb 4 1) 0x24 ((p.bind QPair.sense).getD noSense)

/-- REQUEST_SENSE (R357). -/
def execRequestSense (tag : Nat) (s : State) : Host.Outcome State Fault Refusal :=
  dataTurn s tag (mmcIs 0x03) s.requestSense

/-- ASCII bytes of a text. -/
def ascii (t : String) : List Byte := t.toList.map fun c => BitVec.ofNat 8 c.toNat

/-- `n` uppercase hex digits of a number, in ASCII. -/
def hexDigits : Nat → Nat → List Byte
  | 0, _ => []
  | n + 1, v => hexDigits n (v / 16) ++ [BitVec.ofNat 8 (if v % 16 < 10 then 0x30 + v % 16 else 0x37 + v % 16)]

/-- UNIQUE_HI and UNIQUE_LO as 16 hex digits (R359). -/
def State.serial (s : State) : List Byte := hexDigits 16 (s.rd SYS.UNIQUE_HI * 2 ^ 32 + s.rd SYS.UNIQUE_LO)

/-- INQUIRY's data, by EVPD and page; none for a page that is not accepted (R359). -/
def State.inquiryData (s : State) (evpd : Bool) (page : Nat) : Option (List Byte) :=
  if !evpd then
    if page = 0 then some ([0x05, 0x80, 0x05, 0x02, 31, 0, 0, 0] ++ ascii "CAMWETA " ++ ascii "THOPEL CWT724   " ++
      ascii (if Config.revB then "B   " else "A   "))
    else none
  else match page with
    | 0x00 => some [0x05, 0x00, 0, 3, 0x00, 0x80, 0x83]
    | 0x80 => some ([0x05, 0x80, 0, 16] ++ s.serial)
    | 0x83 => some ([0x05, 0x83, 0, 28, 0x02, 0x01, 0, 24] ++ ascii "CAMWETA " ++ s.serial)
    | _ => none

/-- INQUIRY (R359). -/
def State.inquiry (s : State) (c : Cmd) : State :=
  match s.inquiryData (bit (beAt c.cdb 1 1) 0) (beAt c.cdb 2 1) with
  | some d => s.replyMmc c (beAt c.cdb 3 2) 0x24 d
  | none => s.badField c false

/-- INQUIRY (R359). -/
def execInquiry (tag : Nat) (s : State) : Host.Outcome State Fault Refusal :=
  dataTurn s tag (mmcIs 0x12) fun c => s.carried c (s.inquiry c)

/-! ### The loader and the spindle (R365) -/

/-- An eject or a load that waits for its motion to end (R365). -/
def State.motionEnd (s : State) (c : Cmd) : State :=
  if s.drv.ejecting || s.rd LDR.STATE = 2 || s.rd LDR.STATE = 4 then s
  else if s.rd LDR.STATE = 7 then (s.updCmd c.tag fun d => { d with asc := some (0x53, 0x00) }).finish c.tag stMechanismFault 0
  else s.finish c.tag stGood 0

/-- LOEJ 1, START 0: an eject request (R190, R365). One that the loader's state does not admit changes nothing. Log: 102
(DEDUCED). -/
def State.unitEject (s : State) (c : Cmd) (immed : Bool) : State :=
  if c.started then s.motionEnd c
  else if c.slice ≠ 0 && !s.is CMD.EJECT_OK then
    (((s.setLeaf Lf.LDR.EJECT_REQ).postEvent 3 3).setLeaf Lf.LDR.EJECT_LOCKED).finish c.tag stRemovalPrevented 0
  else
    let (t, ok) := s.ejectRequest false
    if t.is LDR.PREVENT then t.finish c.tag stRemovalPrevented 0
    else if immed || !ok then t.finish c.tag stGood 0
    else t.begin_ c.tag

/-- LOEJ 1, START 1: an open tray closes. Log: 102 (DEDUCED). -/
def State.unitLoad (s : State) (c : Cmd) (immed : Bool) : State :=
  if c.started then s.motionEnd c
  else
    let shuts : Bool := s.rd LDR.STATE = 7 || (s.rd LDR.STATE = 1 && !s.is LDR.MODE)
    let t := if shuts then (s.add LDR.LOADS 1).moveIn else s
    if immed || !shuts then t.finish c.tag stGood 0 else t.begin_ c.tag

/-- LOEJ 0: the spindle spins up to its zone's speed, or stops. Log: 102 (DEDUCED). -/
def State.unitSpin (s : State) (c : Cmd) (up immed : Bool) : State :=
  if up then
    s.atMedium c 0 <|
      let t := (({ s with drv := { s.drv with demand := true } }).discWork 1).begin_ c.tag
      if s.mechLatched then t.finish c.tag stMechanismFault 0
      else if immed || s.rd SPN.STATE = 3 then t.finish c.tag stGood 0 else t
  else
    let t := ({ s with drv := { s.drv with demand := false } }).begin_ c.tag
    if immed || s.rd SPN.STATE = 0 then t.finish c.tag stGood 0 else t

/-- START STOP UNIT (R359, R365). -/
def State.startStop (s : State) (c : Cmd) : State :=
  let b := beAt c.cdb 4 1
  let immed := bit (beAt c.cdb 1 1) 0
  if b / 16 ≠ 0 then s.badField c false
  else if !bit b 1 then s.unitSpin c (bit b 0) immed
  else s.usePages c [0x1A] (if bit b 0 then s.unitLoad c immed else s.unitEject c immed)

/-- START_STOP_UNIT (R365). -/
def execStartStopUnit (tag : Nat) (s : State) : Host.Outcome State Fault Refusal := turn s tag (mmcIs 0x1B) s.startStop

/-- PREVENT ALLOW MEDIUM REMOVAL (R365). -/
def State.preventRemoval (s : State) (c : Cmd) : State :=
  let p := beAt c.cdb 4 1 % 4
  if 1 < p then s.badField c false
  else ((s.setMapBit CMD.PREVENT_MAP_LO CMD.PREVENT_MAP_HI c.slice (p = 1)).writePrevent).finish c.tag stGood 0

/-- PREVENT_ALLOW_MEDIUM_REMOVAL (R365). -/
def execPreventAllowMediumRemoval (tag : Nat) (s : State) : Host.Outcome State Fault Refusal :=
  turn s tag (mmcIs 0x1E) s.preventRemoval

/-! ### Reads -/

/-- READ_10 (R349, R354). -/
def execRead10 (tag : Nat) (s : State) : Host.Outcome State Fault Refusal :=
  dataTurn s tag (mmcIs 0x28) fun c => s.carried c <|
    s.readDisc c { piece := State.mmcPiece, lba := beAt c.cdb 2 4, ask := beAt c.cdb 7 2, size := 2048 } 0x28

/-- READ_12 (R349, R354). -/
def execRead12 (tag : Nat) (s : State) : Host.Outcome State Fault Refusal :=
  dataTurn s tag (mmcIs 0xA8) fun c => s.carried c <|
    s.readDisc c { piece := State.mmcPiece, lba := beAt c.cdb 2 4, ask := beAt c.cdb 6 4, size := 2048 } 0x29

/-- What READ CD asks of a sector: the expected type, SYNC, the header codes, USER DATA, EDC/ECC, C2 and the sub-channel. -/
structure CdSel where
  type : Nat
  sync : Bool
  hdr : Nat
  user : Bool
  edc : Bool
  c2 : Nat
  sub : Nat
  deriving DecidableEq, Repr

/-- The selection of a READ CD CDB; none when a code is not accepted (R359). -/
def cdSel (d : List Byte) : Option CdSel :=
  let b := beAt d 9 1
  let x : CdSel := { type := bits (beAt d 1 1) 2 3, sync := bit b 7, hdr := bits b 5 2, user := bit b 4, edc := bit b 3,
                     c2 := bits b 1 2, sub := bits (beAt d 10 1) 0 3 }
  if 5 < x.type || x.c2 = 3 || 2 < x.sub then none else some x

/-- The parts of a sector's 2,352 bytes that a selection takes, by the sector's kind (4: mode 2 without a form). Log: 96
(PRESUMED). -/
def CdSel.parts (x : CdSel) (kind : Nat) : List (Nat × Nat) :=
  if kind = 0 then (if x.user then [(0, 2352)] else [])
  else
    (if x.sync then [(0, 12)] else []) ++ (if x.hdr = 1 || x.hdr = 3 then [(12, 4)] else []) ++
      (if 2 ≤ x.hdr && (kind = 2 || kind = 3) then [(16, 8)] else []) ++
      (if x.user then [match kind with | 1 => (16, 2048) | 2 => (24, 2048) | 3 => (24, 2324) | _ => (16, 2336)] else []) ++
      (if x.edc && kind < 4 then [match kind with | 1 => (2064, 288) | 2 => (2072, 280) | _ => (2348, 4)] else [])

/-- Bytes of C2 pointers and of the sub-channel. Log: 61 (PRESUMED), 96 (PRESUMED). -/
def CdSel.tail (x : CdSel) : Nat := (match x.c2 with | 0 => 0 | 1 => 294 | _ => 296) + (match x.sub with | 0 => 0 | 1 => 96 | _ => 16)

/-- Bytes per block of a kind. Log: 96 (PRESUMED), 149 (DEDUCED). -/
def CdSel.size (x : CdSel) (kind : Nat) : Nat := ((x.parts kind).map Prod.snd).foldl (· + ·) 0 + x.tail

/-- The formatted Q of a sector's 96 subcode bytes: Q is bit 6 of each, P bit 7. Log: 96 (PRESUMED). -/
def formattedQ (sub : List Byte) : List Byte :=
  let q := (List.range 12).map fun i => BitVec.ofNat 8 (((List.range 8).map fun k => b2n (bit (leAt sub (8 * i + k) 1) 6) * 2 ^ (7 - k)).foldl (· + ·) 0)
  q ++ [0, 0, 0, if bit (leAt sub 0 1) 7 then 0x80 else 0]

/-- The expected sector type of a kind (R359). -/
def cdType : Nat → Nat
  | 0 => 1 | 1 => 2 | 2 => 4 | _ => 5

/-- A block of READ CD: the selected parts of a cached raw sector (R359). -/
def CdSel.piece (x : CdSel) (s : State) (b : Nat) (l : List Byte) : State × Piece :=
  let kind := rawKind (s.audioBlock b) l
  if s.isDvd || (x.type ≠ 0 && x.type ≠ cdType kind) then (s, .bad stWrongTrackMode)
  else
    let c2 := slice l 2448 294
    let any := c2.foldl (fun (m : Byte) v => m ||| v) 0
    (s, .bytes ((x.parts kind).flatMap (fun p => slice l p.1 p.2) ++
      (match x.c2 with | 0 => [] | 1 => c2 | _ => c2 ++ [any, 0]) ++
      (match x.sub with | 0 => [] | 1 => slice l 2352 96 | _ => formattedQ (slice l 2352 96))))

/-- The kind that sizes a READ CD: its expected type's, else the one that the table of contents gives its first block. Log:
149 (DEDUCED). -/
def State.cdKind (s : State) (x : CdSel) (lba : Nat) : Nat := match x.type with
  | 0 => if s.audioBlock lba then 0 else 1
  | 1 => 0 | 2 => 1 | 3 => 4 | 4 => 2 | _ => 3

/-- READ CD of `ask` sectors from an LBA. -/
def State.readCd (s : State) (c : Cmd) (x : CdSel) (lba ask : Nat) (shown : Nat → Nat) : State :=
  s.readDisc c { piece := x.piece, lba := lba, ask := ask, size := x.size (s.cdKind x lba), inOrder := x.type == 0, shown := shown }
    0x28

/-- READ_CD (R359). -/
def execReadCd (tag : Nat) (s : State) : Host.Outcome State Fault Refusal :=
  dataTurn s tag (mmcIs 0xBE) fun c => s.carried c <| match cdSel c.cdb with
    | none => s.badField c false
    | some x => s.readCd c x (beAt c.cdb 2 4) (beAt c.cdb 6 3) id

/-- An MSF address of a CDB with its seconds and frames in range (R348). -/
def msfClamp (d : List Byte) (at_ : Nat) : Nat × Nat × Nat := (beAt d at_ 1, min 59 (beAt d (at_ + 1) 1), min 74 (beAt d (at_ + 2) 1))

/-- The frames of an MSF address. -/
def msfFrames (m : Nat × Nat × Nat) : Nat := (m.1 * 60 + m.2.1) * 75 + m.2.2

/-- READ CD MSF (R348, R349, R359): fields out of range clamp, and an end below the start clamps to the start; an address
below 00:02:00 names the first sector. Log: 99 (DEDUCED). -/
def State.readCdMsf (s : State) (c : Cmd) (x : CdSel) : State :=
  let d := c.cdb
  let a := msfClamp d 3
  let e := msfClamp d 6
  let lo := msfFrames a
  let hi := msfFrames e
  let packed := fun (m : Nat × Nat × Nat) => (m.1 * 256 + m.2.1) * 256 + m.2.2
  let begins : Bool := !c.started && s.medium ≠ .wait && ! [0x0B, 0x0E].any fun p => s.is (Hdr.QUIESCE p)
  let t := if !begins then s
    else
      let u := ((s.cmdClamp c 0x24 0 (beAt d 4 1) a.2.1).cmdClamp c 0x25 0 (beAt d 5 1) a.2.2).cmdClamp c 0x27 0 (beAt d 7 1) e.2.1
      let u := u.cmdClamp c 0x28 0 (beAt d 8 1) e.2.2
      if hi < lo then u.cmdClamp c 0x28 0 (packed e) (packed a) else u
  let msf := fun (f : Nat) => packed (f / 4500, f / 75 % 60, f % 75)
  t.readCd c x (lo - 150) ((hi - 150) - (lo - 150)) fun n => msf (max 150 lo + n)

/-- READ_CD_MSF (R359). -/
def execReadCdMsf (tag : Nat) (s : State) : Host.Outcome State Fault Refusal :=
  dataTurn s tag (mmcIs 0xB9) fun c => s.carried c <| match cdSel c.cdb with
    | none => s.badField c false
    | some x => s.readCdMsf c x

/-! ### The table of contents -/

/-- The tracks, sessions and lead-out that the host is shown: a DVD has one session with one track (R359). -/
def State.tocTracks (s : State) : List DiscTrack :=
  if s.isDvd then [{ number := 1, first := 0, control := 4 }] else s.drv.toc.tracks
def State.tocSessions (s : State) : Nat := if s.isDvd then 1 else max 1 s.drv.toc.sessions

/-- A 4-byte address: an LBA, or an MSF in binary. -/
def addrBytes (msf : Bool) (lba : Nat) : List Byte :=
  if msf then [0, BitVec.ofNat 8 ((lba + 150) / 4500), BitVec.ofNat 8 ((lba + 150) / 75 % 60), BitVec.ofNat 8 ((lba + 150) % 75)]
  else beBytes 4 lba

/-- ADR 1 and CONTROL of a track. -/
def adrControl (t : DiscTrack) : Byte := BitVec.ofNat 8 (0x10 + t.control % 16)

/-- Data behind its 2-byte length. -/
def withLength (l : List Byte) : List Byte := beBytes 2 l.length ++ l

/-- Format 0: the tracks from a number on, and the lead-out. Log: 96 (PRESUMED). -/
def State.tocFormat0 (s : State) (msf : Bool) (from_ : Nat) : List Byte :=
  let l := s.tocTracks
  let numbers := l.map DiscTrack.number
  let last := l.getLast?.getD { number := 1, first := 0 }
  withLength ([BitVec.ofNat 8 (numbers.foldl min 99), BitVec.ofNat 8 (numbers.foldl max 0)] ++
    ((l.filter fun t => from_ ≤ t.number).flatMap fun t => [0, adrControl t, BitVec.ofNat 8 t.number, 0] ++ addrBytes msf t.first) ++
    [0, adrControl last, 0xAA, 0] ++ addrBytes msf s.drv.toc.leadOut)

/-- Format 1: the sessions, and the first track of the last one. Log: 96 (PRESUMED). -/
def State.tocFormat1 (s : State) (msf : Bool) : List Byte :=
  let n := s.tocSessions
  let t := ((s.tocTracks.find? fun t => t.session == n).orElse fun _ => s.tocTracks.head?).getD { number := 1, first := 0 }
  withLength ([1, BitVec.ofNat 8 n, 0, adrControl t, BitVec.ofNat 8 t.number, 0] ++ addrBytes msf t.first)

/-- A BCD byte as a number; POINT values from 0xA0 stay as they are. -/
def fromBcd (b : Byte) : Byte := if 0xA0 ≤ b.toNat then b else BitVec.ofNat 8 (b.toNat / 16 * 10 + b.toNat % 16)

/-- Format 2: the Q entries of the lead-in from a session on. Log: 96 (PRESUMED). -/
def State.tocFormat2 (s : State) (from_ : Nat) : List Byte :=
  let l := if s.isDvd then [] else s.drv.toc.tocQ.filter fun q => from_ ≤ q.1
  withLength ([1, BitVec.ofNat 8 s.tocSessions] ++ l.flatMap fun q =>
    let b := fun (i : Nat) => (q.2[i]?).getD 0
    [BitVec.ofNat 8 q.1, BitVec.ofNat 8 ((b 0).toNat % 16 * 16 + (b 0).toNat / 16), b 1, fromBcd (b 2), fromBcd (b 3), fromBcd (b 4),
      fromBcd (b 5), b 6, fromBcd (b 7), fromBcd (b 8), fromBcd (b 9)])

/-- Format 4: the ATIP, or its header alone. Log: 96 (PRESUMED). -/
def State.tocFormat4 (s : State) : List Byte := withLength ([0, 0] ++ s.drv.toc.atip.getD [])

/-- A track or session number clamped: to the last one, or for tracks to the nearer of it and 0xAA (R348). -/
def State.tocNumber (s : State) (format v : Nat) : Nat :=
  if format = 0 then nearestOf (List.range ((s.tocTracks.map DiscTrack.number).foldl max 0 + 1) ++ [0xAA]) v
  else min v s.tocSessions

/-- READ TOC/PMA/ATIP (R348, R359). -/
def State.readToc (s : State) (c : Cmd) : State :=
  let d := c.cdb
  let msf := bit (beAt d 1 1) 1
  let f := beAt d 2 1 % 16
  if ! [0, 1, 2, 4].contains f then s.badField c false
  else s.atMedium c (beAt d 7 2) <|
    let v := beAt d 6 1
    let n := if f = 0 || f = 2 then s.tocNumber f v else v
    let t := s.cmdClamp c 0x26 0 v n
    t.replyMmc c (beAt d 7 2) 0x28 (match f with
      | 0 => t.tocFormat0 msf n | 1 => t.tocFormat1 msf | 2 => t.tocFormat2 n | _ => t.tocFormat4)

/-- READ_TOC_PMA_ATIP (R359). -/
def execReadTocPmaAtip (tag : Nat) (s : State) : Host.Outcome State Fault Refusal :=
  dataTurn s tag (mmcIs 0x43) fun c => s.carried c (s.readToc c)

/-- Whether the disc is rewritable, by LDR DISC. -/
def State.rewritable (s : State) : Bool := [3, 7, 9].contains (s.rd LDR.DISC)

/-- READ DISC INFORMATION's data: a complete disc. Log: 96 (PRESUMED). -/
def State.discInfo (s : State) : List Byte :=
  let n := s.tocSessions
  let l := s.tocTracks
  let mine := (l.filter fun t => t.session == n || s.isDvd).map DiscTrack.number
  let byte := fun (v : Nat) => (BitVec.ofNat 8 v : Byte)
  withLength ([byte (0x0E + (if s.rewritable then 0x10 else 0)), byte ((l.map DiscTrack.number).foldl min 99), byte n,
    byte (mine.foldl min 99), byte (mine.foldl max 0), 0, if s.isDvd then 0xFF else 0x00, 0, 0, 0, 0, 0, 0, 0] ++
    List.replicate 8 0xFF ++ List.replicate 8 0 ++ [0, 0])

/-- READ DISC INFORMATION (R359). -/
def State.readDiscInfo (s : State) (c : Cmd) : State :=
  if beAt c.cdb 1 1 % 8 ≠ 0 then s.badField c false
  else s.atMedium c (beAt c.cdb 7 2) (s.replyMmc c (beAt c.cdb 7 2) 0x28 s.discInfo)

/-- READ_DISC_INFORMATION (R359). -/
def execReadDiscInformation (tag : Nat) (s : State) : Host.Outcome State Fault Refusal :=
  dataTurn s tag (mmcIs 0x51) fun c => s.carried c (s.readDiscInfo c)

/-- The track that an address of READ TRACK INFORMATION names, and the address kept (R348). -/
def State.trackNamed (s : State) (type v : Nat) : DiscTrack × Nat :=
  let l := s.tocTracks
  let dflt : DiscTrack := l.head?.getD { number := 1, first := 0 }
  match type with
  | 0 => let k := min v (s.drv.toc.leadOut - 1); (((l.filter fun t => t.first ≤ k).reverse.head?).getD dflt, k)
  | 1 => let k := nearestOf (sortBy id (l.map DiscTrack.number)) v; ((l.find? fun t => t.number == k).getD dflt, k)
  | _ => let k := nearRange 1 s.tocSessions v; ((l.find? fun t => t.session == k).getD dflt, k)

/-- READ TRACK INFORMATION's data. Log: 96 (PRESUMED). -/
def State.trackInfo (s : State) (t : DiscTrack) : List Byte :=
  let next := ((s.tocTracks.filter fun u => t.first < u.first).map DiscTrack.first).foldl min s.drv.toc.leadOut
  let byte := fun (v : Nat) => (BitVec.ofNat 8 v : Byte)
  withLength ([byte t.number, byte t.session, 0, byte (t.control % 16), if bit t.control 2 then 1 else 0x0F, 0] ++
    beBytes 4 t.first ++ List.replicate 12 0 ++ beBytes 4 (next - t.first) ++ beBytes 4 (next - 1) ++ [0, 0, 0, 0])

/-- READ TRACK INFORMATION (R359). -/
def State.readTrackInfo (s : State) (c : Cmd) : State :=
  let type := beAt c.cdb 1 1 % 4
  if type = 3 then s.badField c false
  else s.atMedium c (beAt c.cdb 7 2) <|
    let v := beAt c.cdb 2 4
    let (t, k) := s.trackNamed type v
    (s.cmdClamp c 0x25 0 v k).replyMmc c (beAt c.cdb 7 2) 0x28 (s.trackInfo t)

/-- READ_TRACK_INFORMATION (R359). -/
def execReadTrackInformation (tag : Nat) (s : State) : Host.Outcome State Fault Refusal :=
  dataTurn s tag (mmcIs 0x52) fun c => s.carried c (s.readTrackInfo c)

/-! ### Features, events and mechanism (R360, R361) -/

/-- The profiles (R360). -/
def profiles : List Nat := [0x0008, 0x0009, 0x000A, 0x0010, 0x0011, 0x0014, 0x001A, 0x001B]

/-- A feature descriptor: its code, its version, whether it is persistent and current, and its data. -/
def feature (code version : Nat) (persistent current : Bool) (data : List Byte) : Nat × Bool × List Byte :=
  (code, current, beBytes 2 code ++ [BitVec.ofNat 8 (4 * version + 2 * b2n persistent + b2n current), BitVec.ofNat 8 data.length] ++ data)

/-- The features (R360), in ascending order: code, whether current, descriptor. Log: 96 (PRESUMED). -/
def State.features (s : State) : List (Nat × Bool × List Byte) :=
  let now := profileOf (s.rd LDR.DISC)
  let cd : Bool := 0x0008 ≤ now && now ≤ 0x000A
  let dvd : Bool := 0x0010 ≤ now
  let mech : Byte := if s.is LDR.MODE then 0x09 else 0x29
  [feature 0x0000 0 true true (profiles.flatMap fun p => beBytes 2 p ++ [if p = now then 1 else 0, 0]),
   feature 0x0001 0 true true [0, 0, 0, 0],
   feature 0x0002 0 true true [0, 0, 0, 0],
   feature 0x0003 0 true true [mech, 0, 0, 0],
   feature 0x0010 0 false (cd || dvd) (beBytes 4 2048 ++ beBytes 2 (if dvd then 16 else 1) ++ [1, 0]),
   feature 0x001D 0 false cd [],
   feature 0x001E 0 false cd [0x02, 0, 0, 0],
   feature 0x001F 0 false dvd [0, 0, 1, 0],
   feature 0x0100 0 true true [],
   feature 0x0108 0 true true s.serial]

/-- GET CONFIGURATION (R359, R360). -/
def State.getConfig (s : State) (c : Cmd) : State :=
  let rt := beAt c.cdb 1 1 % 4
  let from_ := beAt c.cdb 2 2
  if rt = 3 then s.badField c false
  else
    let l := s.features.filter fun f => match rt with
      | 0 => from_ ≤ f.1
      | 1 => from_ ≤ f.1 && f.2.1
      | _ => f.1 == from_
    let body := [0, 0] ++ beBytes 2 (profileOf (s.rd LDR.DISC)) ++ l.flatMap fun f => f.2.2
    s.replyMmc c (beAt c.cdb 7 2) 0x28 (beBytes 4 body.length ++ body)

/-- GET_CONFIGURATION (R360). -/
def execGetConfiguration (tag : Nat) (s : State) : Host.Outcome State Fault Refusal :=
  dataTurn s tag (mmcIs 0x46) fun c => s.carried c (s.getConfig c)

/-- The two status bytes of an event class. Log: 21 (DESIGN CHOICE), 45 (PRESUMED). -/
def State.eventStatus (s : State) (cls : Nat) : List Byte := match cls with
  | 2 => [BitVec.ofNat 8 (s.rd TIME.STATE + 1), 0]
  | 4 => [BitVec.ofNat 8 (b2n (s.rd LDR.STATE = 1) + 2 * b2n (s.rd LDR.DISC ≠ 0)), 0]
  | 6 => [BitVec.ofNat 8 (b2n (s.cal.work.isSome || s.pow.exit.isSome)), 0]
  | _ => [0, 0]

/-- GET EVENT STATUS NOTIFICATION (R359, R361, R366): the lowest requested class that holds an event, which it clears. -/
def State.getEvent (s : State) (c : Cmd) : State :=
  let want := beAt c.cdb 4 1
  let alloc := beAt c.cdb 7 2
  if !bit (beAt c.cdb 1 1) 0 || clearBits want 0x5E ≠ 0 then s.badField c false
  else if want = 0 then s.replyMmc c alloc 0x28 [0, 2, 0x80, 0x5E]
  else
    let x := s.sl c.slice
    let held := (setBits 8 want).filter fun k => x.events.any fun e => e.1 == k
    let cls := (held.head?.orElse fun _ => (setBits 8 want).head?).getD 0
    let code := ((x.events.find? fun e => e.1 == cls).map Prod.snd).getD 0
    let t := s.setSl { x with events := x.events.filter fun e => e.1 ≠ cls }
    t.replyMmc c alloc 0x28 ([0, 6, BitVec.ofNat 8 cls, 0x5E, BitVec.ofNat 8 code] ++ s.eventStatus cls ++ [0])

/-- GET_EVENT_STATUS_NOTIFICATION (R361). -/
def execGetEventStatusNotification (tag : Nat) (s : State) : Host.Outcome State Fault Refusal :=
  dataTurn s tag (mmcIs 0x4A) s.getEvent

/-- The 8-byte mechanism status header. Log: 96 (PRESUMED). -/
def State.mechStatus (s : State) : List Byte :=
  [BitVec.ofNat 8 (128 * b2n (s.rd LDR.STATE = 7)),
   BitVec.ofNat 8 (32 * b2n (s.rd AUD.STATE ≠ 0) + 16 * b2n (s.rd LDR.STATE = 1)), 0, 0, 0, 0, 0, 0]

/-- MECHANISM_STATUS (R359). -/
def execMechanismStatus (tag : Nat) (s : State) : Host.Outcome State Fault Refusal :=
  dataTurn s tag (mmcIs 0xBD) fun c => s.carried c (s.replyMmc c (beAt c.cdb 8 2) 0x29 s.mechStatus)

/-! ### Speed and mode pages (R362 to R364) -/

/-- SET CD SPEED (R348, R364). -/
def State.setSpeed (s : State) (c : Cmd) : State :=
  let v := beAt c.cdb 2 2
  let k := max 704 v
  let t := s.cmdClamp c 0x23 0 v k
  let cd := if k = 0xFFFF then 96 else nearRange 4 96 (4 * k / 176)
  let dvd := if k = 0xFFFF then 32 else nearRange 4 32 (4 * k / 1385)
  let may : Bool := (c.slice = 0 || s.is CMD.SPEED_OK) && !s.pageDown 0x07
  let t := if may && (cd ≠ s.rd SPN.CAP_CD || dvd ≠ s.rd SPN.CAP_DVD) then
      (((t.wrAll [(SPN.CAP_CD, cd), (SPN.CAP_DVD, dvd)]).speedCapWritten).setLeaf Lf.CMD.SPEED_CHANGED).postEvent 1 2
    else t
  t.finish c.tag stGood (256 * t.rd SPN.CAP_DVD + t.rd SPN.CAP_CD)

/-- SET_CD_SPEED (R364). -/
def execSetCdSpeed (tag : Nat) (s : State) : Host.Outcome State Fault Refusal := turn s tag (mmcIs 0xBB) s.setSpeed

/-- The read retry count of a slice (R362). -/
def State.retryNow (s : State) (i : Nat) : Nat := ((s.sl i).retry).getD (s.rd ECD.REREAD_N)

/-- Mode page 0x01 of a slice: PC 0 the present values, 1 what may change, 2 the defaults (R362). -/
def State.page01 (s : State) (i pc : Nat) : List Byte :=
  let (flags, n) := match pc with
    | 1 => (4, 0xFF)
    | 2 => (0, s.rd ECD.REREAD_N)
    | _ => (4 * b2n (s.sl i).per, s.retryNow i)
  [0x01, 0x0A, BitVec.ofNat 8 flags, BitVec.ofNat 8 n] ++ List.replicate 8 0

/-- A timer of mode page 0x1A in its unit of 100 ms. -/
def modeTimer (us : Nat) : Nat := (Config.quot 75 (us : Nat) 100000).toNat

/-- Mode page 0x1A: IDLE and STANDBY, and the two timers (R362). -/
def State.page1A (s : State) (i pc : Nat) : List Byte :=
  let build := fun (flags a b : Nat) => ([0x1A, 0x0A, 0, BitVec.ofNat 8 flags] : List Byte) ++ beBytes 4 a ++ beBytes 4 b
  match pc with
  | 1 => if i = 0 then build 3 0xFFFFFFFF 0xFFFFFFFF else build 0 0 0
  | 2 => build 3 (modeTimer TIME.IDLE_DOZE_US.reset) (modeTimer TIME.IDLE_NAP_US.reset)
  | _ => build (2 * s.rd TIME.DOZE_EN + s.rd TIME.NAP_EN) (modeTimer (s.rd TIME.IDLE_DOZE_US)) (modeTimer (s.rd TIME.IDLE_NAP_US))

/-- A speed in quarter steps in kB/s. -/
def State.capKb (s : State) (cd dvd : Nat) : Nat := if s.isDvd then (Config.quot 76 (dvd * 1385 : Nat) 4).toNat else cd * 176 / 4

/-- Mode page 0x2A: what the drive can do and its mechanism (R362); nothing of it can change. Log: 96 (PRESUMED). -/
def State.page2A (s : State) (pc : Nat) : List Byte :=
  if pc = 1 then [0x2A, 0x14] ++ List.replicate 20 0
  else
    let lock := b2n (s.rd CMD.PREVENT_MAP_LO ≠ 0 || s.rd CMD.PREVENT_MAP_HI ≠ 0)
    let mech := (if s.is LDR.MODE then 0 else 0x20) + 0x09 + 2 * lock
    [0x2A, 0x14, 0x1B, 0, 0x70, 0x13, BitVec.ofNat 8 mech, 0] ++ beBytes 2 (s.capKb 96 32) ++ [0, 0] ++ beBytes 2 6144 ++
      beBytes 2 (s.capKb (s.rd SPN.CAP_CD) (s.rd SPN.CAP_DVD)) ++ List.replicate 6 0

/-- The mode pages that a page code names; none for an unknown one. -/
def State.modePages (s : State) (i pc page : Nat) : Option (List Byte) := match page with
  | 0x01 => some (s.page01 i pc)
  | 0x1A => some (s.page1A i pc)
  | 0x2A => some (s.page2A pc)
  | 0x3F => some (s.page01 i pc ++ s.page1A i pc ++ s.page2A pc)
  | _ => none

/-- MODE SENSE (10) (R359, R362). -/
def State.modeSense (s : State) (c : Cmd) : State :=
  let b := beAt c.cdb 2 1
  if b / 64 = 3 then s.finish c.tag stSaveNotSupported 0
  else match s.modePages c.slice (b / 64) (b % 64) with
    | none => s.badField c false
    | some l =>
      if beAt c.cdb 3 1 ≠ 0 then s.badField c false
      else s.replyMmc c (beAt c.cdb 7 2) 0x28 (beBytes 2 (l.length + 6) ++ List.replicate 6 0 ++ l)

/-- MODE_SENSE_10 (R362). -/
def execModeSense10 (tag : Nat) (s : State) : Host.Outcome State Fault Refusal :=
  dataTurn s tag (mmcIs 0x5A) fun c => s.carried c (s.modeSense c)

/-- The pages of a parameter list from an offset on: each with its offset and its bytes; none when one is not accepted.
Log: 96 (PRESUMED). -/
def splitPages (l : List Byte) : Nat → Nat → Option (List (Nat × List Byte))
  | 0, _ => none
  | fuel + 1, pos =>
    if l.length ≤ pos then some []
    else
      let code := leAt l pos 1 % 128
      let n := 2 + leAt l (pos + 1) 1
      if l.length < pos + n || n < 12 || ! [0x01, 0x1A, 0x2A].contains code then none
      else (splitPages l fuel (pos + n)).map fun r => (pos, slice l pos n) :: r

/-- Page 0x01 applied for a slice, with the clamps of what cannot change or is out of range (R362, R363). Log: 99
(DEDUCED). -/
def State.applyPage01 (s : State) (c : Cmd) (base : Nat) (l : List Byte) : State :=
  let flags := leAt l 2 1
  let want := leAt l 3 1
  let n := min 8 want
  let t := ([0, 1, 3, 4, 5, 6, 7] : List Nat).foldl (fun (t : State) i => t.cmdClamp c (base + 2) i (bits flags i 1) 0) s
  let t := (t.cmdClamp c (base + 3) 0 want n)
  let t := (t.cmdClamp c (base + 8) 0 (leAt l 8 1) 0).cmdClamp c (base + 11) 0 (beAt l 10 2) 0
  let x := t.sl c.slice
  t.setSl { x with per := bit flags 2, retry := some n }

/-- Page 0x1A applied: from slice 0 its values, from others clamps to the present ones (R362, R363). Log: 99 (DEDUCED). -/
def State.applyPage1A (s : State) (c : Cmd) (base : Nat) (l : List Byte) : State :=
  let flags := leAt l 3 1
  let a := beAt l 4 4
  let b := beAt l 8 4
  let nowA := modeTimer (s.rd TIME.IDLE_DOZE_US)
  let nowB := modeTimer (s.rd TIME.IDLE_NAP_US)
  if c.slice ≠ 0 then
    (((s.cmdClamp c (base + 3) 0 (bits flags 0 1) (s.rd TIME.NAP_EN)).cmdClamp c (base + 3) 1 (bits flags 1 1) (s.rd TIME.DOZE_EN)).cmdClamp
      c (base + 7) 0 a nowA).cmdClamp c (base + 11) 0 b nowB
  else
    let ka := nearRange 1 42949 a
    let kb := nearRange 1 42949 b
    let t := (s.cmdClamp c (base + 7) 0 a ka).cmdClamp c (base + 11) 0 b kb
    let t := t.wrAll [(TIME.NAP_EN, bits flags 0 1), (TIME.DOZE_EN, bits flags 1 1)]
    let t := if ka = nowA then t else t.wr TIME.IDLE_DOZE_US (ka * 100000)
    let t := if kb = nowB then t else t.wr TIME.IDLE_NAP_US (kb * 100000)
    if [TIME.NAP_EN, TIME.DOZE_EN, TIME.IDLE_DOZE_US, TIME.IDLE_NAP_US].any fun f => t.rd f ≠ s.rd f then t.idleWritten else t

/-- Page 0x2A applied: every byte keeps its present value (R362, R363). Log: 99 (DEDUCED). -/
def State.applyPage2A (s : State) (c : Cmd) (base : Nat) (l : List Byte) : State :=
  let now := s.page2A 0
  (List.range 20).foldl (fun (t : State) i => t.cmdClamp c (base + 2 + i) 0 (leAt l (2 + i) 1) (leAt now (2 + i) 1)) s

/-- One page applied. -/
def State.applyPage (c : Cmd) (s : State) (p : Nat × List Byte) : State := match leAt p.2 0 1 % 128 with
  | 0x01 => s.applyPage01 c p.1 p.2
  | 0x1A => s.applyPage1A c p.1 p.2
  | _ => s.applyPage2A c p.1 p.2

/-- A parameter list taken in: its pages all applied, or none (R363). Log: 99 (DEDUCED). -/
def State.modeApply (s : State) (c : Cmd) (l : List Byte) (asked : Nat) : State :=
  let cut : Bool := l.length < asked
  let status := if cut then stResidual else stGood
  let fin := fun (t : State) => t.finishFull c.tag status (if cut then infoBit stResidual else 0) (asked - l.length) none
  if l = [] then fin s
  else if l.length < 8 + beAt (padTo 8 l) 6 2 then s.badField c true
  else match splitPages l (l.length + 1) (8 + beAt l 6 2) with
    | none => s.badField c true
    | some pages =>
      let t := pages.foldl (State.applyPage c) s
      let changed : Bool := (s.sl c.slice).per ≠ (t.sl c.slice).per || s.retryNow c.slice ≠ t.retryNow c.slice ||
        [TIME.NAP_EN, TIME.DOZE_EN, TIME.IDLE_DOZE_US, TIME.IDLE_NAP_US].any fun f => t.rd f ≠ s.rd f
      fin (if changed then (t.setLeaf Lf.CMD.MODE_CHANGED).postEvent 1 2 else t)

/-- MODE SELECT (10) (R348, R359, R362, R363). -/
def State.modeSelect (s : State) (c : Cmd) : State :=
  let b := beAt c.cdb 1 1
  let ask := beAt c.cdb 7 2
  if bit b 0 then s.finish c.tag stSaveNotSupported 0
  else if !bit b 4 then s.badField c false
  else
    let n := min ask c.dlen
    let t := if c.started then s else (s.cmdClamp c 0x28 0 ask n).begin_ c.tag
    match t.cmdIn ((t.cmd c.tag).getD c) n ask with
    | (u, none) => u
    | (u, some l) => u.modeApply c l ask

/-- MODE_SELECT_10 (R363). -/
def execModeSelect10 (tag : Nat) (s : State) : Host.Outcome State Fault Refusal := dataTurn s tag (mmcIs 0x55) s.modeSelect

end Sys2Proof.Machine
end

