-- ==== Sys2Proof/Machine/Recorder.lean ====
section
/-! DEFINITION. The event recorder: host records, flushes, the store, the life counters and reading (18_recorder_trace.md). -/

namespace Sys2Proof.Machine

/-! ### Records and pages (R491, R496, R497) -/

/-- The 32 bytes of an event record (R491). -/
def EvRec.bytes (r : EvRec) : List Byte :=
  let b := leBytes 4 r.opSeconds ++ leBytes 3 r.powerCycles ++ [BitVec.ofNat 8 r.sev] ++ leBytes 2 r.code ++
    [BitVec.ofNat 8 r.page, BitVec.ofNat 8 r.slice] ++ leBytes 2 r.repeats ++ padTo 14 r.data ++ leBytes 2 r.lastDelta
  b ++ leBytes 2 (crc16 b)

/-- The newest recorder page that reads, by PAGE_SEQ. -/
def State.newestPage (s : State) : Option RecPage := (s.recStore.reverse).find? RecPage.ok

/-- The RSN after the newest flushed record. -/
def State.flushedEnd (s : State) : Nat := match s.recStore.getLast? with
  | some p => p.firstRsn + p.recs.length
  | none => 0

/-- OLDEST_RSN (R497). -/
def State.oldestRsn (s : State) : Nat :=
  let low := match s.recStore with
    | p :: _ => p.firstRsn
    | [] => 0
  max low (max s.recd.erasedBelow (s.flushedEnd - 4096))

/-- Readable flushed records (R497). -/
def State.storeRecs (s : State) : Nat := if s.storeOk then min 4096 (s.flushedEnd - s.oldestRsn) else 0

/-- The record with an RSN in the ring. -/
def State.ringRec (s : State) (rsn : Nat) : Option EvRec :=
  (s.recd.ring.find? fun r => r.rsn == rsn).map RingRec.body

/-- The record with an RSN in the store; none where its page does not read. -/
def State.storeRec (s : State) (rsn : Nat) : Option EvRec :=
  match s.recStore.find? fun p => p.firstRsn ≤ rsn && rsn < p.firstRsn + p.recs.length with
  | none => none
  | some p => if p.ok then p.recs[rsn - p.firstRsn]? else none

/-- A page put into the active block; a full block makes the other one active, erased (R497). -/
def State.putPage (s : State) (p : RecPage) : State :=
  let t := { s with recStore := s.recStore ++ [p] }
  let n := (t.recStore.filter fun (q : RecPage) => q.block == p.block).length
  let t := t.leafIf (n = 48) Lf.REC.STORE_75
  if n < 64 then t
  else
    let other := 1 - p.block
    ({ t with recStore := t.recStore.filter (fun (q : RecPage) => q.block ≠ other), recd := { t.recd with active := other } }).setLeaf
      Lf.REC.STORE_WRAP

/-! ### Flushes (R496) -/

/-- A flush started, as a slice 0 request at the NAND engine, whose program no command holds. -/
def State.flushNow (s : State) (flags : Nat) : State :=
  if !s.storeOk || s.is REC.FLUSHING then s
  else (s.startFlush flags).request 1 { slice := 0, tag := 513, credits := 1, units := 1, bytes := 0, since := some s.elapsed }

/-- A write of 1 to REC_CMD.FLUSH (R496, R45): the field reads 1 until its flush has ended. -/
def State.recFlushGo (s : State) : State :=
  let (t, starts) := s.goWrite REC.FLUSH
  if !starts then t
  else if !t.storeOk then t.goDone REC.FLUSH
  else if t.is REC.FLUSHING then t
  else { t.flushNow 0 with recd := { (t.flushNow 0).recd with flushGo := true } }

/-- What may follow a flush at once: one that REC_CMD.FLUSH, a power failure or a REC_ERASE asks for, or a full ring. -/
def State.nextFlush (s : State) : State :=
  let (s, again) := if s.recd.flushGo then s.goEnd REC.FLUSH else (s, s.is REC.FLUSH)
  let s := { s with recd := { s.recd with flushGo := false } }
  if s.recd.eraseTag.isSome then s.flushNow 4
  else if s.pow.pfFlush && s.recd.ring ≠ [] then s.flushNow 1
  else if again then { s.flushNow 0 with recd := { (s.flushNow 0).recd with flushGo := true } }
  else s.flushWhenFull

/-- The recorder page has programmed (R496, R497, R500). Log: 129 (DEDUCED). -/
def State.flushGood (s : State) : State :=
  let r := s.recd
  let recs := (r.ring.take r.flushN).map RingRec.body
  let first := match r.ring with
    | e :: _ => if r.flushN = 0 then s.rd REC.NEXT_RSN else e.rsn
    | [] => s.rd REC.NEXT_RSN
  let flags := r.flushFlags % 4
  let sec := s.rd SYS.OP_SECONDS
  let pc := s.rd SYS.POWER_CYCLES
  let p : RecPage := { flags := flags, pageSeq := r.pageSeq, firstRsn := first, recs := recs, opSeconds := sec, powerCycles := pc,
                       erasedBelow := r.erasedBelow, block := r.active, ok := true }
  let moved := match s.recStore.getLast? with
    | some q => q.opSeconds ≠ sec || q.powerCycles ≠ pc
    | none => true
  let left := r.ring.drop r.flushN
  let t := { s with recd := { r with ring := left, flushN := 0, flushFlags := 0, lostSet := false,
                                     lostSlot := r.lostSlot && left ≠ [], pageSeq := r.pageSeq + 1, lastPageSec := sec } }
  let t := ((t.wr REC.FLUSHING 0).add REC.FLUSHES 1).putPage p
  let t := t.setLeaves ([Lf.REC.FLUSH_DONE] ++ (if bit flags 0 then [Lf.REC.POWER_FAIL_FLUSH] else []) ++
    (if moved then [Lf.REC.LIFE_SAVED] else []))
  match r.eraseTag with
  | some g => if r.flushFlags = 4 then
      let t := { t with recd := { t.recd with eraseTag := none } }
      (t.setLeaf Lf.REC.ERASE_DONE).finish g stGood (t.oldestRsn % 2 ^ 32)
    else t
  | none => t

/-- No page is left for the flush: its records stay in the ring (R496). -/
def State.flushBad (s : State) : State :=
  let r := s.recd
  let t := (({ s with recd := { r with flushN := 0, flushFlags := 0 } }).wr REC.FLUSHING 0).setLeaf Lf.REC.FLUSH_FAIL
  match r.eraseTag with
  | some g => if r.flushFlags = 4 then ({ t with recd := { t.recd with eraseTag := none } }).finish g stNandFailure 0 else t
  | none => t

/-- REC_FLUSH_GO (R496). -/
def execRecFlushGo (s : State) : Host.Outcome State Fault Refusal :=
  if s.pageDown 0x15 then done s else done s.recFlushGo

/-- REC_FLUSH_TIMER (R496): FLUSH_S seconds since the oldest unflushed record was staged. -/
def execRecFlushTimer (s : State) : Host.Outcome State Fault Refusal :=
  if s.recd.ring = [] || s.pageDown 0x15 then done s else done (s.flushNow 0)

/-- REC_FLUSH_DONE (R496, R497): the page has programmed, or a failure has left no page. -/
def execRecFlushDone (ok : Bool) (s : State) : Host.Outcome State Fault Refusal :=
  if !s.is REC.FLUSHING then done s
  else if ok then done s.flushGood.nextFlush
  else
    let t := s.flushBad
    let (t, again) := if t.recd.flushGo then t.goEnd REC.FLUSH else (t, false)
    let t := { t with recd := { t.recd with flushGo := false } }
    done (if again then { t.flushNow 0 with recd := { (t.flushNow 0).recd with flushGo := true } } else t)

/-- LIFE_SAVE_TIMER (R500): a life-save page is flushed. -/
def execLifeSaveTimer (s : State) : Host.Outcome State Fault Refusal :=
  if s.recd.restored && !s.pageDown 0x15 then done (s.flushNow 2) else done s

/-! ### Host records (R499) -/

/-- REC_CMD.WRITE written 1: the host record that WR_HDR and WR_DATA hold. -/
def State.recWrite (s : State) : State :=
  let data := (List.range 3).flatMap (fun k => leBytes 4 (s.rd (REC.WR_DATA.at k))) ++ leBytes 2 (s.rd REC.WR_DATA_3)
  let (t, starts) := s.goWrite REC.WRITE
  if starts then (t.stage (s.rd REC.WR_CODE) 0xFF 0 (s.rd REC.WR_SEV) data).goDone REC.WRITE else t

/-- REC_WRITE (R499). -/
def execRecWrite (s : State) : Host.Outcome State Fault Refusal :=
  if s.pageDown 0x15 then done s else done s.recWrite

/-! ### The life counters (R500, R509, R511) -/

/-- The newest TRACE_SLEEP record of the store with the present POWER_CYCLES (R509). -/
def State.sleepRec (s : State) (pc : Nat) : Option EvRec :=
  ((s.recStore.filter RecPage.ok).flatMap RecPage.recs).reverse.find? fun r => r.code == 0x0405 && r.powerCycles == pc

/-- RESUME taken from the newest TRACE_SLEEP record after a STANDBY exit (R509). -/
def State.resumeFrom (s : State) : State :=
  match s.sleepRec (s.rd SYS.POWER_CYCLES) with
  | some r => s.wrAll [(TRC.RS_VALID, 1), (TRC.RESUME_SEQ, leAt r.data 0 2), (TRC.RESUME_LOST, leAt r.data 2 4)]
  | none => s

/-- Records staged before the restore take the counters, and their RSNs follow the store's (R500). Log: 129 (DEDUCED). -/
def State.ageEarly (s : State) (base : Nat) : State :=
  let sec := s.rd SYS.OP_SECONDS
  let pc := s.rd SYS.POWER_CYCLES
  let fix := fun (r : RingRec) => if r.early then
      { rsn := base + r.rsn, body := { r.body with opSeconds := sec, powerCycles := pc }, early := false } else r
  let t := { s with recd := { s.recd with ring := s.recd.ring.map fix, restored := true, again := false } }
  (t.wr REC.NEXT_RSN (min 0xFFFFFFFF (base + s.rd REC.NEXT_RSN))).wr REC.RESTORED 1

/-- The restore of R500: what the newest page's header gives, and, except after a reset of REC, the SYS counters. Log: 129
(DEDUCED). -/
def State.lifeRestore (s : State) : State :=
  let page := if s.storeOk then s.newestPage else none
  let por := s.pow.kind = .por && !s.recd.again
  let s1 := match page with
    | some p =>
      let t := { s with recd := { s.recd with erasedBelow := p.erasedBelow, pageSeq := p.pageSeq + 1, active := p.block,
                                              lastPageSec := p.opSeconds } }
      if s.recd.again then t
      else t.wrAll [(SYS.OP_SECONDS, p.opSeconds), (SYS.POWER_CYCLES, p.powerCycles + b2n por)]
    | none => if s.recd.again then s else s.wrAll [(SYS.OP_SECONDS, 0), (SYS.POWER_CYCLES, b2n por)]
  let base := match page with
    | some p => p.firstRsn + p.recs.length
    | none => 0
  let first := !s.recd.again
  let t := s1.ageEarly base
  let t := t.setLeaf (if page.isSome then Lf.REC.STAGE_RESTORED else Lf.SYS.LIFE_RESTORE_FAIL)
  let t := if first && s.pow.kind = .stby then t.resumeFrom else t
  if por then t.flushNow 2 else t.flushWhenFull

/-- LIFE_COUNTER_RESTORE (R500). -/
def execLifeCounterRestore (s : State) : Host.Outcome State Fault Refusal :=
  if s.pow.phase = .run && !s.recd.restored && !s.pageDown 0x15 then done s.lifeRestore else done s

/-! ### Reading a ring record (R513) -/

/-- The holding registers take the ring record that RD_RSN names; all ones where the ring does not hold it. -/
def State.recHold (s : State) : State :=
  let b := match s.ringRec (s.rd REC.RD_RSN) with
    | some r => r.bytes
    | none => List.replicate 32 0xFF#8
  (List.range 8).foldl (fun t k => t.wr (REC.RD_DATA.at k) (leAt b (4 * k) 4)) s

/-- RD_DATA_READ (R513): reading RD_DATA_0 fills the holding registers. -/
def execRdDataRead (port : HostPort) (k : Nat) (s : State) : Host.Outcome State Fault Refusal :=
  let t := if k = 0 && !s.pageDown 0x15 then s.recHold else s
  done (t.emit (.regData port (0x15080 + 4 * k) (if s.is (Hdr.GATED 0x15) then 0 else t.rd (REC.RD_DATA.at k))))

/-! ### The native commands' parts (R498) -/

/-- REC_DUMP's bytes: a record of 32 bytes for each RSN from a start, with whether a record failed to read. -/
def State.dumpRecs (s : State) (from_ n : Nat) : List Byte × Bool :=
  (List.range n).foldl (fun (acc : List Byte × Bool) i =>
    let rsn := from_ + i
    let blank := List.replicate 32 0xFF#8
    match s.ringRec rsn with
    | some r => (acc.1 ++ r.bytes, acc.2)
    | none =>
      if rsn < s.oldestRsn then (acc.1 ++ blank, acc.2)
      else match s.storeRec rsn with
        | some r => (acc.1 ++ r.bytes, acc.2)
        | none => (acc.1 ++ blank, true)) ([], false)

/-- REC_ERASE: ERASED_BELOW raised, and a flush that carries it. Log: 101 (DEDUCED). -/
def State.recErase (s : State) (tag upTo : Nat) : State :=
  let v := max s.recd.erasedBelow (min upTo (s.rd REC.NEXT_RSN))
  let t := { s with recd := { s.recd with erasedBelow := v, eraseTag := some tag } }
  t.flushNow 4

end Sys2Proof.Machine
end

