-- ==== Sys2Proof/Machine/Trace.lean ====
section
/-! DEFINITION. The trace stream: batches, starts, stops, the trigger's end, and the marks of sleep (18_recorder_trace.md). -/

namespace Sys2Proof.Machine

/-! ### The buffer (R501, R504, R505) -/

/-- Records that the buffer has room for, as a count. -/
def State.trcSlots (s : State) : Nat := 2 ^ s.rd TRC.BUF_LOG2

/-- Records written and not consumed in mode 0. -/
def State.trcUsed (s : State) : Nat :=
  (s.rd TRC.WPTR + s.trcSlots - s.rd TRC.RPTR % s.trcSlots) % s.trcSlots

/-- The buffer's first byte. -/
def State.trcBase (s : State) : Nat := s.rd TRC.BUF_BASE_LO * 64 + s.rd TRC.BUF_BASE_HI * 2 ^ 32

/-- The 16 bytes of a trace record (R501). -/
def TrcRec.bytes (r : TrcRec) (seq : Nat) (drop : Bool) : List Byte :=
  leBytes 2 seq ++ [BitVec.ofNat 8 (r.src + 16 * r.kind), BitVec.ofNat 8 (b2n drop + 2 * b2n r.lost)] ++ leBytes 4 r.stamp ++
    padTo 8 r.payload

/-- Bytes put behind the last run that they continue, else as a run of their own. -/
def addRun (runs : List (Nat × List Byte)) (a : Nat) (b : List Byte) : List (Nat × List Byte) :=
  match runs.getLast? with
  | some (x, l) => if x + l.length = a then runs.dropLast ++ [(x, l ++ b)] else runs ++ [(a, b)]
  | none => [(a, b)]

/-- The TRIGGER marker (R503). -/
def TrcRec.isTrigger (r : TrcRec) : Bool := r.src == 15 && r.kind == 4

/-- A record that finds the buffer full in mode 0 (R505). -/
def State.trcStalled (s : State) : State :=
  let t := (s.traceDrop).wr TRC.STALLED 1
  if t.trc.stallSet then t else ({ t with trc := { t.trc with stallSet := true } }).setLeaf Lf.TRC.STREAM_STALL

/-- A record merged into the stream: its SEQ, its slot and the marks of the buffer (R504, R505). The bytes join `runs`.
Log: 131 (DEDUCED). -/
def State.trcPut (s : State) (runs : List (Nat × List Byte)) (r : TrcRec) : State × List (Nat × List Byte) :=
  let n := s.trcSlots
  let stop := s.rd TRC.MODE = 0
  if stop && s.trcUsed = n - 1 then (s.trcStalled, runs)
  else
    let seq := s.rd TRC.SEQ
    let w := s.rd TRC.WPTR
    let b := r.bytes seq (r.drop || s.trc.resumed)
    let after := s.trc.postLeft.isSome && !r.isTrigger && !s.trc.queue.any TrcRec.isTrigger
    let left := if after then s.trc.postLeft.map (· - 1) else s.trc.postLeft
    let t := { s with trc := { s.trc with resumed := false, written := s.trc.written + 1, postLeft := left } }
    let t := (t.wrAll [(TRC.SEQ, (seq + 1) % 0x10000), (TRC.WPTR, (w + 1) % n)]).add TRC.RECORDS 1
    let t := t.setLeaves ((if seq = 0xFFFF then [Lf.TRC.SEQ_WRAP] else []) ++
      (if !stop && w + 1 = n then [Lf.TRC.WRAPPED] else []) ++
      (if stop && t.trcUsed = n / 2 then [Lf.TRC.BUF_HALF] else []) ++ (if stop && t.trcUsed = n - 1 then [Lf.TRC.BUF_FULL] else []))
    (t, addRun runs (s.trcBase + 16 * w) b)

/-- Whether the buffer can be written: DMA may be used, or the buffer lies in the host region. Log: 132 (DEDUCED). -/
def State.trcDest (s : State) : Bool :=
  if s.is TRC.LOC then s.hostRange s.trcBase (16 * s.trcSlots) else s.dmaOk

/-- Runs of bytes handed to the PCIe island or stored. -/
def State.trcStore (s : State) (runs : List (Nat × List Byte)) : State :=
  runs.foldl (fun (t : State) r => if t.is TRC.LOC then t.cacheStore r.1 r.2 else t.hostWrite 0 r.1 r.2 false) s

/-- The oldest records of the stream written, as one DMA unit of slice 0 (R504). -/
def State.trcWrite : Nat → State → List (Nat × List Byte) → State
  | 0, s, runs => if runs = [] then s else (s.trcStore runs).request 3
      { slice := 0, tag := 512, credits := 1, units := 1, bytes := 16 * (runs.map fun r => r.2.length / 16).sum,
        since := some s.elapsed }
  | n + 1, s, runs =>
    match s.trc.queue with
    | [] => State.trcWrite 0 s runs
    | r :: rest =>
      let (t, out) := ({ s with trc := { s.trc with queue := rest } }).trcPut runs r
      State.trcWrite n t out

/-! ### Starts and stops (R506, R507, R509) -/

/-- The end of a trace: RUN and RUNNING read 0, and TRACE_CTL START completes. -/
def State.trcEnd (s : State) (status specific : Nat) : State :=
  let t := s.wrAll [(TRC.RUN, 0), (TRC.RUNNING, 0)]
  let tag := t.trc.startTag
  let t := { t with trc := { t.trc with queue := [], dropNext := [], postLeft := none, trigHit := false, startTag := none,
                                        stopSeq := specific } }
  let t := t.setLeaf Lf.TRC.STOPPED
  match tag with
  | some g => t.finish g status specific
  | none => t

/-- A DMA write failure stops the trace (R505, R506). Log: 132 (DEDUCED). -/
def State.trcDestErr (s : State) : State := (s.setLeaf Lf.TRC.DEST_ERR).trcEnd stHostMemory 0

/-- The stream written out to its last record; false when the buffer cannot be written. Log: 131 (DEDUCED). -/
def State.trcDrain (s : State) : State × Bool :=
  if s.trcDest then (State.trcWrite s.trc.queue.length s [], true) else (s.trcDestErr, false)

/-- The trace stops: its FIFOs are drained and a STOP marker is written (R506). Log: 131 (DEDUCED). -/
def State.traceStop (s : State) : State :=
  if !s.is TRC.RUNNING then s.wr TRC.RUN 0
  else match s.trcDrain with
    | (t, false) => t
    | (t, true) =>
      let seq := t.rd TRC.SEQ
      let t := t.marker 1 false (leBytes 4 s.trc.droppedRun)
      ((State.trcWrite 1 t [])).trcEnd stGood seq

/-- The trace starts (R506), after a WAKE marker where a STANDBY broke the stream (R509). -/
def State.traceStart (s : State) : State :=
  let tag := s.trc.startTag
  let t := { s with trc := { ({} : Trace) with startTag := tag } }
  let t := t.wrAll [(TRC.RUN, 1), (TRC.RUNNING, 1), (TRC.STALLED, 0), (TRC.TRIGGERED, 0), (TRC.WPTR, 0), (TRC.RPTR, 0)]
  let t := if t.is TRC.RS_VALID then
      let lost := t.rd TRC.RESUME_LOST
      let u := t.wrAll [(TRC.SEQ, (t.rd TRC.RESUME_SEQ + 1) % 0x10000), (TRC.RS_VALID, 0)]
      (u.marker 3 true (leBytes 4 0xFFFFFFFF ++ leBytes 4 lost)).setLeaves [Lf.TRC.WAKE_MARK, Lf.TRC.WAKE_LOST]
    else t
  (t.marker 0 false (leBytes 8 t.now)).setLeaf Lf.TRC.STARTED

/-- RUN written (R506). -/
def State.setRun (s : State) (v : Bool) : State :=
  if v then (if s.is TRC.RUNNING then s else s.traceStart)
  else if s.is TRC.RUNNING then s.traceStop else s

/-- TRACE_START (R506). -/
def execTraceStart (s : State) : Host.Outcome State Fault Refusal :=
  if s.pageDown 0x16 then done s else done (s.setRun true)

/-- TRACE_STOP (R506). -/
def execTraceStop (s : State) : Host.Outcome State Fault Refusal :=
  if s.pageDown 0x16 then done s else done (s.setRun false)

/-! ### Batches (R504, R505) -/

/-- A batch of at most 32 records written, or its write failed. -/
def State.traceBatch (s : State) (ok : Bool) : State :=
  if ok && s.trcDest then State.trcWrite (min 32 s.trc.queue.length) s [] else s.trcDestErr

/-- TRACE_BATCH_WRITE (R504): 32 records wait. -/
def execTraceBatchWrite (ok : Bool) (s : State) : Host.Outcome State Fault Refusal :=
  if s.is TRC.RUNNING && 32 ≤ s.trc.queue.length then done (s.traceBatch ok) else done s

/-- TRACE_BATCH_TIMEOUT (R504): 100 µs without a new record. -/
def execTraceBatchTimeout (ok : Bool) (s : State) : Host.Outcome State Fault Refusal :=
  if s.is TRC.RUNNING && s.trc.queue ≠ [] then done (s.traceBatch ok) else done s

/-- TRACE_POST_DONE (R506): POST records have been written after the trigger's marker. -/
def execTracePostDone (s : State) : Host.Outcome State Fault Refusal :=
  if s.is TRC.RUNNING && s.trc.postLeft = some 0 && !s.trc.queue.any TrcRec.isTrigger then done s.traceStop else done s

/-- What a write of RPTR frees (R505). -/
def State.trcFreed (s : State) : State :=
  if s.is TRC.STALLED && s.trcUsed ≠ s.trcSlots - 1 then
    ({ s.wr TRC.STALLED 0 with trc := { s.trc with resumed := true } }).setLeaf Lf.TRC.STREAM_RESUMED
  else s

/-! ### Sleep (R508) -/

/-- The stream drained and the SLEEP marker written. Log: 20 (DEDUCED). -/
def State.trcSleepMark (s : State) : State :=
  if !s.is TRC.RUNNING then s
  else match s.trcDrain with
    | (t, false) => t
    | (t, true) => (State.trcWrite 1 (t.marker 2 false (leBytes 8 t.now)) []).setLeaf Lf.TRC.SLEEP_MARK

/-- The TRACE_SLEEP record: the SEQ that the SLEEP marker takes, and the records not consumed (R492, R508). -/
def State.trcSleepRecord (s : State) : State :=
  if !s.is TRC.RUNNING then s
  else
    let seq := s.trcDrain.1.rd TRC.SEQ
    let n := if !s.is TRC.LOC then 0 else if s.is TRC.MODE then min s.trc.written s.trcSlots else s.trcUsed
    s.event true 0x0405 0x16 0 0 (leBytes 2 seq ++ leBytes 4 n ++ [BitVec.ofNat 8 (s.rd TRC.LOC)])

/-- The WAKE marker of a NAP exit. Log: 20 (DEDUCED). -/
def State.trcWakeMark (s : State) : State :=
  if !s.is TRC.RUNNING then s
  else (s.marker 3 false (leBytes 4 (s.rd TIME.SLEEP_US) ++ leBytes 4 0)).setLeaf Lf.TRC.WAKE_MARK

/-! ### TRACE_CTL (R507) -/

/-- TRACE_CTL START: a running trace stops first; the buffer is the entry's. -/
def State.traceCtlStart (s : State) (c : Cmd) (log2 : Nat) : State :=
  let t := s.traceStop
  let t := t.wrAll [(TRC.SRC_EN, bits c.param0 8 8), (TRC.MODE, bits c.param0 16 1), (TRC.LOC, b2n c.loc), (TRC.BUF_LOG2, log2),
    (TRC.BUF_BASE_LO, bits c.dptr 6 26), (TRC.BUF_BASE_HI, bits c.dptr 32 32)]
  ({ t with trc := { t.trc with startTag := some c.tag } }).traceStart

/-- TRACE_CTL STOP. -/
def State.traceCtlStop (s : State) (c : Cmd) : State :=
  if s.is TRC.RUNNING then
    let t := s.traceStop
    t.finish c.tag stGood t.trc.stopSeq
  else s.finish c.tag stGood 0xFFFFFFFF

/-- TRC.FILTER_CHANGE when SRC_EN or a divider changes while RUN is 1 (R506). -/
def State.noteFilter (s : State) (before : State) : State :=
  s.leafIf (s.is TRC.RUN && [TRC.SRC_EN, TRC.DIV_0, TRC.DIV_1, TRC.DIV_2, TRC.DIV_3, TRC.DIV_4, TRC.DIV_5].any fun f =>
    s.rd f ≠ before.rd f) Lf.TRC.FILTER_CHANGE

/-- TRACE_CTL FILTER. -/
def State.traceCtlFilter (s : State) (c : Cmd) : State :=
  ((s.wr TRC.SRC_EN (bits c.param0 8 8)).noteFilter s).finish c.tag stGood 0

end Sys2Proof.Machine
end

