-- ==== Sys2Proof/Machine/CmdDevice.lean ====
section
/-! DEFINITION. The native commands of the servo, the calibration, the recorder, the trace and direct audio (R367, R368, R476,
R483, R498, R507). -/

namespace Sys2Proof.Machine

/-! ### SERVO_TEST -/

/-- SERVO_TEST of one kind (R367): it needs the disc, its standing requests stand as they were when it ends, and what its
results hold the spec does not state. While it runs, RESIDUAL holds its start. Log: 100 (DESIGN CHOICE). -/
def State.servoTest (s : State) (c : Cmd) (seeks : Bool) : State :=
  s.usePages c [0x04, 0x05, 0x08] <| s.atMedium c c.dlen <|
    if s.mechLatched then s.finishFull c.tag stMechanismFault 0 c.dlen none
    else if !c.started then
      let t := (s.updCmd c.tag fun d => { d with started := true, residual := s.elapsed }).discWork 1
      let (a, layer) := t.discAddr c.block
      if seeks then t.askSeek a layer else t
    else if seeks && (s.drv.seek.isSome || s.drv.seeks ≠ []) then s
    else
      let (n, t) := s.free (c.dlen + 1)
      let (l, t) := t.freeBytes n
      t.replyNative c l ((s.elapsed - c.residual) / 1000)

/-- The SERVO_TEST commands by PARAM_0. -/
def servoIs (k : Nat) (c : Cmd) : Bool := nativeIs 0x40 c && c.param0 % 4 == k

/-- SERVO_TEST_ACQUIRE (R367). -/
def execServoTestAcquire (tag : Nat) (s : State) : Host.Outcome State Fault Refusal :=
  dataTurn s tag (servoIs 0) fun c => s.servoTest c false
/-- SERVO_TEST_SEEK (R367). -/
def execServoTestSeek (tag : Nat) (s : State) : Host.Outcome State Fault Refusal :=
  dataTurn s tag (servoIs 1) fun c => s.servoTest c true
/-- SERVO_TEST_RUNOUT (R367). -/
def execServoTestRunout (tag : Nat) (s : State) : Host.Outcome State Fault Refusal :=
  dataTurn s tag (servoIs 2) fun c => s.servoTest c false
/-- SERVO_TEST_SWEEP (R367). -/
def execServoTestSweep (tag : Nat) (s : State) : Host.Outcome State Fault Refusal :=
  dataTurn s tag (servoIs 3) fun c => s.servoTest c false

/-! ### Calibration (R132, R367) -/

/-- A calibration operation of a command put behind those that wait for the slot. Log: 26 (DEDUCED). -/
def State.calQueue (s : State) (c : Cmd) (op : CalOp) : State :=
  let t := s.begin_ c.tag
  { t with cal := { t.cal with wait := t.cal.wait ++ [op] } }

/-- CAL_RUN (R132): it ends with the run. -/
def execCalRun (tag : Nat) (s : State) : Host.Outcome State Fault Refusal :=
  turn s tag (nativeIs 0x48) fun c => s.usePages c [0x03] (if c.started then s else s.calQueue c (.run (some tag)))

/-- CAL_RESTORE (R132): of the retained copy, or of a blob of 256 bytes. -/
def execCalRestore (tag : Nat) (s : State) : Host.Outcome State Fault Refusal :=
  dataTurn s tag (nativeIs 0x49) fun c => s.usePages c [0x03] <|
    if c.started then s
    else if bit c.param0 0 then s.calQueue c (.restoreCmd tag none)
    else match s.cmdIn c (min 256 c.dlen) 0 with
      | (t, none) => t
      | (t, some l) => t.calQueue c (.restoreCmd tag (some (padTo 256 l)))

/-- CAL_SAVE (R367): BLOB_OUT, and COUNTS. -/
def execCalSave (tag : Nat) (s : State) : Host.Outcome State Fault Refusal :=
  dataTurn s tag (nativeIs 0x4A) fun c => s.usePages c [0x03] <|
    s.replyNative c ((List.range 64).flatMap fun k => leBytes 4 (s.rd (CAL.BLOB_OUT.at k)))
      (s.rd CAL.RUNS * 2 ^ CAL.RUNS.lsb + s.rd CAL.RESTORES * 2 ^ CAL.RESTORES.lsb)

/-! ### The recorder (R498) -/

/-- REC_DUMP (R349, R498). -/
def State.recDump (s : State) (c : Cmd) : State :=
  let n := s.xferCount c.block c.count (s.rd REC.NEXT_RSN) (c.dlen / 32)
  let (data, bad) := s.dumpRecs c.block n
  let (t, st) := (s.cmdClamp c 0x18 0 c.count n).cmdOut c 0 data
  let t := t.setLeaves ((if bad then [Lf.REC.STORE_CRC] else []) ++ [Lf.REC.READ_DONE])
  t.finishFull c.tag (if st ≠ stGood then st else if n < c.count then stResidual else stGood) n (32 * (c.count - n)) none

/-- REC_DUMP (R498). -/
def execRecDump (tag : Nat) (s : State) : Host.Outcome State Fault Refusal :=
  dataTurn s tag (nativeIs 0x50) fun c => s.usePages c [0x15] (s.recDump c)

/-- REC_ERASE (R498): without a store there is no page that could carry the new value. Log: 101 (DEDUCED). -/
def execRecErase (tag : Nat) (s : State) : Host.Outcome State Fault Refusal :=
  turn s tag (nativeIs 0x51) fun c => s.usePages c [0x15] <|
    if c.started then s
    else if !s.storeOk then s.finish c.tag stNandFailure 0
    else if s.recd.eraseTag.isSome then s
    else (s.begin_ c.tag).recErase tag (c.block + c.count)

/-! ### The trace (R507) -/

/-- OP of TRACE_CTL: 3 clamps to 2. -/
def Cmd.traceOp (c : Cmd) : Nat := min 2 (c.param0 % 4)

/-- TRACE_CTL_START (R507). -/
def execTraceCtlStart (tag : Nat) (s : State) : Host.Outcome State Fault Refusal :=
  turn s tag (fun c => nativeIs 0x58 c && c.traceOp == 0) fun c => s.usePages c [0x16] <|
    if c.started then s
    else
      let v := Nat.log2 (c.dlen / 16)
      let k := nearRange 8 24 v
      let t := (s.cmdClamp c 0x38 0 v k).begin_ c.tag
      t.traceCtlStart ((t.cmd c.tag).getD c) k

/-- TRACE_CTL_STOP (R507). -/
def execTraceCtlStop (tag : Nat) (s : State) : Host.Outcome State Fault Refusal :=
  turn s tag (fun c => nativeIs 0x58 c && c.traceOp == 1) fun c => s.usePages c [0x16] (s.traceCtlStop c)

/-- TRACE_CTL_FILTER (R507). -/
def execTraceCtlFilter (tag : Nat) (s : State) : Host.Outcome State Fault Refusal :=
  turn s tag (fun c => nativeIs 0x58 c && c.traceOp == 2) fun c => s.usePages c [0x16] <|
    (s.cmdClamp c 0x1C 0 (c.param0 % 4) 2).traceCtlFilter c

/-! ### Direct audio (R476, R483) -/

/-- AUDIO_PLAY (R349, R476). Log: 103 (DEDUCED). -/
def State.audioPlay (s : State) (c : Cmd) : State :=
  if c.started then s
  else s.usePages c [0x0A, 0x0B, 0x14] <| s.atMedium c 0 <|
    if s.isDvd || !s.audioBlock c.block then s.finish c.tag stWrongTrackMode 0
    else
      let left := s.drv.toc.leadOut - c.block
      let n := min c.count left
      let t := (s.cmdClamp c 0x18 0 c.count n).begin_ c.tag
      (t.playStart c.tag c.block c.count).discWork 1

/-- AUDIO_PLAY (R476). -/
def execAudioPlay (tag : Nat) (s : State) : Host.Outcome State Fault Refusal := turn s tag (nativeIs 0x60) s.audioPlay

/-- AUDIO_STOP (R483): it ends with the play. -/
def State.audioStop (s : State) (c : Cmd) : State :=
  if c.started then s
  else if s.aud.play.isNone then s.finish c.tag stGood 0xFFFFFFFF
  else
    let t := s.begin_ c.tag
    ({ t with aud := { t.aud with stops := t.aud.stops ++ [c.tag] } }).playStop stGood

/-- AUDIO_STOP (R483). -/
def execAudioStop (tag : Nat) (s : State) : Host.Outcome State Fault Refusal :=
  turn s tag (nativeIs 0x61) fun c => s.usePages c [0x14] (s.audioStop c)

end Sys2Proof.Machine
end

