-- ==== Sys2Proof/Machine/CmdNative.lean ====
section
/-! DEFINITION. The native commands that read, write and manage the disc and the library (R367 to R369, R413 to R416, R420 to
R423, R429, R558). -/

namespace Sys2Proof.Machine

/-! ### NOP, IDENTIFY and ABORT_ALL -/

/-- NOP (R367). -/
def execNop (tag : Nat) (s : State) : Host.Outcome State Fault Refusal := turn s tag (nativeIs 0x00) fun c => s.finish c.tag stGood 0

/-- The IDENTIFY data (R369). -/
def State.identify (s : State) : List Byte :=
  let map := (nativeOps.map fun n => 2 ^ n).foldl (· + ·) 0
  padTo 512 (leBytes 4 (s.rd SYS.DEVICE_ID) ++ leBytes 4 (s.rd SYS.REV) ++ leBytes 4 (s.rd SYS.UNIQUE_LO) ++ leBytes 4 (s.rd SYS.UNIQUE_HI) ++
    leBytes 4 (s.rd TIME.EXIT_DOZE_US) ++ leBytes 4 (s.rd TIME.EXIT_NAP_US) ++ leBytes 4 (s.rd TIME.EXIT_STBY_US) ++
    leBytes 2 512 ++ [64, 8] ++ leBytes 2 1024 ++ leBytes 2 128 ++ leBytes 4 (s.rd CMD.MAX_XFER) ++ leBytes 8 cacheBytes ++
    leBytes 8 (if s.rd OAS.STATE = 4 then s.usable * 2048 else 0) ++ leBytes 2 (s.rd RYL.NODE_ID) ++ leBytes 2 (s.rd RYL.ID_VALID) ++
    leBytes 4 (s.rd TIME.STAGE_PS) ++ leBytes 32 map)

/-- IDENTIFY (R369). -/
def execIdentify (tag : Nat) (s : State) : Host.Outcome State Fault Refusal :=
  dataTurn s tag (nativeIs 0x02) fun c => s.replyNative c s.identify 0

/-- The slice that ABORT_ALL names: slice 0 names one, others name themselves (R367). Log: 104 (DEDUCED). -/
def Cmd.abortTarget (c : Cmd) : Nat := if c.slice = 0 then c.param0 % 64 else c.slice

/-- Whether commands that an ABORT_ALL ends are still there. Log: 104 (DEDUCED). -/
def State.abortLeft (s : State) (c : Cmd) : Bool :=
  let i := c.abortTarget
  (s.que.cmds.any fun d => d.slice == i && d.place < c.place && d.tag ≠ c.tag && d.stage ≠ .ended) ||
    s.que.accepted.any fun a => a.slice == i && a.place < c.place && (a.qp == 8 || match s.pair i a.qp with
      | some p => p.state == .active || p.state == .aborting
      | none => false)

/-- ABORT_ALL (R367, R368): every command of the target slice accepted before it ends with ABORTED. Log: 104 (DEDUCED). -/
def State.abortAll (s : State) (c : Cmd) : State :=
  let i := c.abortTarget
  let mine := fun (d : Cmd) => d.slice == i && d.place < c.place && d.tag ≠ c.tag && d.stage ≠ .ended
  let fresh := fun (a : Accepted) => a.slice == i && a.place < c.place
  let t := if c.started then s
    else
      let n := (s.que.cmds.filter mine).length + (s.que.accepted.filter fresh).length
      let u := s.updCmd c.tag fun d => { d with started := true, specific := n }
      let u := { u with que := { u.que with accepted := u.que.accepted.map fun (a : Accepted) => if fresh a then { a with abort := true } else a } }
      u.endWhere mine stAborted
  if t.abortLeft c then t else t.finish c.tag stGood (((t.cmd c.tag).map Cmd.specific).getD 0)

/-- ABORT_ALL (R368). -/
def execAbortAll (tag : Nat) (s : State) : Host.Outcome State Fault Refusal := turn s tag (nativeIs 0x03) s.abortAll

/-! ### READ -/

/-- A read of `n` blocks of 2,048 bytes from a disc block, native. -/
def userJob (lba ask : Nat) : DiscJob := { piece := State.userPiece, lba := lba, ask := ask, size := 2048 }

/-- READ of the disc, of a library namespace or of a remote one (R349, R367). -/
def State.nativeRead (s : State) (c : Cmd) : State :=
  let ns := s.localNs c.nsid
  s.carried c <| if ns = 1 then s.readDisc c (userJob c.block c.count) 0x18 else s.readLib c (ns - 0x10)

/-- READ (R367). -/
def execRead (tag : Nat) (s : State) : Host.Outcome State Fault Refusal := dataTurn s tag (nativeIs 0x10) s.nativeRead

/-! ### Library writes (R330, R415, R416, R420 to R423) -/

/-- How many blocks of a write the library has room for: those that were written before need none (R415). -/
def State.roomFor (s : State) (k lo n : Nat) : Nat :=
  (List.range n).foldl (fun (acc : Nat × Nat × Bool) i =>
    let (new, ok, on) := acc
    if !on then acc
    else
      let new := if (s.libGet k (lo + i)).isSome then new else new + 1
      if s.nand.lib.length + new ≤ s.usable then (new, ok + 1, true) else (new, ok, false)) (0, 0, true) |>.2.1

/-- A write finds a die with fewer than 4 free blocks and waits for collection (R415). -/
def State.gcShort (s : State) : Bool := s.nand.dies.any fun d => !s.lib.dead.contains d && s.dieFree d < 4

/-- The data of a write goes to Oasis: `n` blocks of which the first `have_` have come; `err` is what stopped the rest, `info` the
INFO and LEVEL of the source. A command whose data is all turned away ends at once. -/
def State.libWrite (s : State) (c : Cmd) (k have_ err info : Nat) (data : List Byte) (cut : Bool) : State :=
  if (s.writeOf c.tag).isSome then s
  else
    let asked := c.count * 2048
    let room := if c.atomic && s.roomFor k c.block have_ < have_ then 0 else s.roomFor k c.block have_
    let full : Bool := room < have_
    let take := if c.atomic && (err ≠ stGood || full) then 0 else room
    let st := if full then stLibraryFull else if err ≠ stGood then err else infoStatus (info % 256 ||| (if cut then infoBit stResidual else 0))
    let ofs := if 3 ≤ stClass st then (if full then room else have_) % 65536 else 0
    let spec := (info ||| (if cut then infoBit stResidual else 0)) + 65536 * ofs
    let s := s.leafIf full Lf.OAS.SPACE_FULL
    if take = 0 then s.finishFull c.tag st spec asked none
    else if s.gcShort then
      (if s.lib.gcBehind then s else ({ s with lib := { s.lib with gcBehind := true } }).setLeaf Lf.OAS.GC_BEHIND)
    else s.startWrite c { tag := c.tag, atomic := c.atomic, trim := false, ns := k, block := c.block, count := take, seq := 0,
                          data := data.take (2048 * take), status := st, specific := spec, residual := asked - 2048 * take }

/-- The blocks that a write or RIP may take: 128 at most in atomic mode (R330, R558). -/
def Cmd.writeMost (c : Cmd) : Nat := if c.atomic then 128 else c.count

/-- The sectors of a LOC 1 buffer up to the first uncorrectable one, and whether there was one (R423). -/
def State.localSectors (s : State) (c : Cmd) (n : Nat) : State × List Byte × Bool :=
  (List.range n).foldl (fun (acc : State × List Byte × Bool) i =>
    if acc.2.2 then acc
    else match acc.1.cacheRead 2 (c.dptr + 2048 * i) 2048 with
      | (t, some l) => (t.chargeBytes c 2048, acc.2.1 ++ l, false)
      | (t, none) => (t, acc.2.1, true)) (s, [], false)

/-- WRITE (R349, R367, R415, R420 to R423). -/
def State.nativeWrite (s : State) (c : Cmd) : State :=
  let k := s.localNs c.nsid - 0x10
  if (s.writeOf c.tag).isSome then s
  else s.atLibrary c (c.count * 2048) <|
    let n := min c.writeMost (s.xferCount c.block c.count (s.rd (OAS.NS_SIZE.at k)) (c.dlen / 2048))
    let cut : Bool := n < c.count
    let t := if c.started then s else (s.cmdClamp c 0x18 0 c.count n).begin_ c.tag
    let d := (t.cmd c.tag).getD c
    if c.loc then
      if t.pageDown 0x0E then t.finishFull c.tag stBlockReset 0 (c.count * 2048) none
      else
        let (u, l, bad) := t.localSectors d n
        let u := if bad then u.setLeaf Lf.SYS.RECOVERY_DONE else u
        u.libWrite d k (l.length / 2048) (if bad then stMemoryUncorrectable else stGood) 0 l cut
    else match t.cmdIn d (2048 * n) (c.count * 2048) with
      | (u, none) => u
      | (u, some l) => u.libWrite d k n stGood 0 l cut

/-- WRITE (R421). -/
def execWrite (tag : Nat) (s : State) : Host.Outcome State Fault Refusal := dataTurn s tag (nativeIs 0x11) s.nativeWrite

/-- TRIM (R349, R416): one commit record, which the next journal page brings; it moves no data. Log: 98 (DEDUCED). -/
def State.nativeTrim (s : State) (c : Cmd) : State :=
  let k := s.localNs c.nsid - 0x10
  if (s.writeOf c.tag).isSome then s
  else s.atLibrary c 0 <|
    let n := s.xferCount c.block c.count (s.rd (OAS.NS_SIZE.at k)) c.count
    let t := (s.cmdClamp c 0x18 0 c.count n).begin_ c.tag
    let st := if n < c.count then stResidual else stGood
    if n = 0 then t.finish c.tag st 0
    else t.startWrite ((t.cmd c.tag).getD c) { tag := c.tag, atomic := true, trim := true, ns := k, block := c.block, count := n, seq := 0, data := [],
                                               status := st }

/-- TRIM (R416). -/
def execTrim (tag : Nat) (s : State) : Host.Outcome State Fault Refusal := turn s tag (nativeIs 0x12) s.nativeTrim

/-! ### VERIFY and RIP -/

/-- The native READ that carries a remote source of `n` blocks (R456). -/
def Cmd.sourceEntry (c : Cmd) (n : Nat) : List Byte :=
  [0x10, 0] ++ Sys2Proof.slice c.entry 2 1 ++ List.replicate 9 0 ++ leBytes 4 (c.param 1) ++ leBytes 8 c.param0 ++ leBytes 4 n ++
    List.replicate 28 0 ++ leBytes 4 (2048 * n) ++ List.replicate 4 0

/-- What a source gave: its blocks, how many of them, the status that stopped the rest, and INFO and LEVEL. -/
structure SourceGot where
  data : List Byte
  count : Nat
  err : Nat
  info : Nat
  deriving DecidableEq, Repr

/-- Collected bytes by rising offset. -/
def collected (l : List (Nat × List Byte)) : List Byte := (sortBy Prod.fst l).flatMap Prod.snd

/-- The source of VERIFY or RIP read on: the disc, a library namespace, or a remote node; none while blocks are awaited. -/
def State.sourceStep (s : State) (c : Cmd) (n : Nat) (fresh : Bool) : State × Option SourceGot :=
  let ns := s.localNs (c.param 1)
  if isRemote ns then match c.remoteDone with
    | none => (s, none)
    | some (spec, resid, st) =>
      let k := (2048 * n - resid) / 2048
      if c.remoteLen < 2048 * k then (s, none)
      else (s, some { data := (collected c.remote).take (2048 * k), count := k, err := if stClass st ≤ 1 then stGood else st, info := spec % 0x800 })
  else if ns = 1 then
    let t := (List.range n).foldl (State.discBlockStep { userJob c.param0 n with fresh := fresh } c.tag) s
    match t.cmd c.tag with
    | none => (t, none)
    | some d =>
      let k := d.firstError c.param0 n
      if d.discReady c.param0 n then
        (t, some { data := (collected (d.remote.filter fun e => e.1 < 2048 * k)), count := k,
                   err := if d.errors = [] then stGood else worstErr d.errors, info := d.specific % 0x800 })
      else (t, none)
  else if s.libReady c (ns - 0x10) c.param0 n then
    let (t, l, unwritten, lost) := s.libFetch c (ns - 0x10) c.param0 n
    let err := match lost with
      | some e => e.2
      | none => stGood
    (t, some { data := l.flatten, count := l.length, err := err, info := libInfo false unwritten })
  else (s, none)

/-- The blocks of a source from its start to the end of its namespace; a remote end is met at its node. -/
def State.sourceRoom (s : State) (c : Cmd) : Nat :=
  let ns := s.localNs (c.param 1)
  if isRemote ns then c.count
  else if ns = 1 then s.drv.toc.leadOut - c.param0
  else s.rd (OAS.NS_SIZE.at (ns - 0x10)) - c.param0

/-- The source asked for its blocks, at the first turn: a disc must be there, a library mounted, and a node reachable. -/
def State.sourceStart (s : State) (c : Cmd) (n : Nat) : State :=
  let ns := s.localNs (c.param 1)
  if isRemote ns then s.askRemote c (remoteNode ns) (c.sourceEntry n)
  else if ns = 1 then s.readStart c c.param0 n
  else (s.begin_ c.tag).libAsk c (ns - 0x10) c.param0 n

/-- What a source needs beside its blocks: the medium of a disc, and its engine. -/
def State.atSource (s : State) (c : Cmd) (asked : Nat) (go : State) : State :=
  if s.localNs (c.param 1) = 1 then s.usePages c [0x0B, 0x0E] (s.atMedium c asked go) else go

/-- VERIFY's comparison: blocks that differ, at most 31 counted, and the leaf of the first (R351, R367). Log: 98 (DEDUCED). -/
def State.verifyEnd (s : State) (c : Cmd) (l : List (List Byte)) (lost : Option (Nat × Nat)) (unwritten cut : Bool) (g : SourceGot) : State :=
  let have_ := min l.length g.count
  let diff := ((List.range have_).filter fun i => (l[i]?).getD [] ≠ slice g.data (2048 * i) 2048).length
  let st := match lost with
    | some e => e.2
    | none => g.err
  let info := libInfo cut unwritten ||| g.info
  let ofs := if 3 ≤ stClass st then have_ % 65536 else 0
  let status := if st ≠ stGood then st else infoStatus (info % 256)
  (s.leafIf (0 < diff) Lf.CMD.VERIFY_MISMATCH).finishFull c.tag status (info % 0x800 + 0x800 * min 31 diff + 65536 * ofs) 0 none

/-- VERIFY (R349, R351, R367). -/
def State.nativeVerify (s : State) (c : Cmd) : State :=
  let k := s.localNs c.nsid - 0x10
  s.atLibrary c 0 <| s.atSource c 0 <|
    let n := min (s.sourceRoom c) (s.xferCount c.block c.count (s.rd (OAS.NS_SIZE.at k)) c.count)
    let t := if c.started then s
      else (s.cmdClamp c 0x18 0 c.count n).sourceStart ((s.cmdClamp c 0x18 0 c.count n).cmd c.tag |>.getD c) n |>.libAsk c k c.block n
    match t.cmd c.tag with
    | none => t
    | some d =>
      if d.stage = .ended || !d.started then t
      else match t.sourceStep d n (!c.started) with
        | (u, none) => u
        | (u, some g) =>
          let e := (u.cmd c.tag).getD d
          if u.libReady e k c.block n then
            let (v, l, unwritten, lost) := u.libFetch e k c.block n
            v.verifyEnd e l lost unwritten (decide (n < c.count)) g
          else u

/-- VERIFY (R367). -/
def execVerify (tag : Nat) (s : State) : Host.Outcome State Fault Refusal := turn s tag (nativeIs 0x13) s.nativeVerify

/-- RIP (R349, R351, R367, R558): the source range through the ladder into the target range, as a library write. -/
def State.nativeRip (s : State) (c : Cmd) : State :=
  let k := s.localNs c.nsid - 0x10
  if (s.writeOf c.tag).isSome then s
  else s.atLibrary c (c.count * 2048) <| s.atSource c (c.count * 2048) <|
    let n := min (min c.writeMost (s.sourceRoom c)) (s.xferCount c.block c.count (s.rd (OAS.NS_SIZE.at k)) c.count)
    let t := if c.started then s
      else
        let u := s.cmdClamp c 0x18 0 c.count n
        u.sourceStart ((u.cmd c.tag).getD c) n
    match t.cmd c.tag with
    | none => t
    | some d =>
      if d.stage = .ended || !d.started then t
      else match t.sourceStep d n (!c.started) with
        | (u, none) => u
        | (u, some g) => u.libWrite ((u.cmd c.tag).getD d) k g.count g.err g.info g.data (decide (n < c.count))

/-- RIP (R558). -/
def execRip (tag : Nat) (s : State) : Host.Outcome State Fault Refusal := turn s tag (nativeIs 0x18) s.nativeRip

/-! ### LIB_FORMAT, LIB_MOUNT, LIB_UNMOUNT (R413, R414) -/

/-- The end of a command that may have changed the library identity (R372). -/
def State.libEnd (s : State) (c : Cmd) (status : Nat) : State :=
  (s.leafIf (s.rd OAS.LIB_ID ≠ c.specific) Lf.CMD.LIBRARY_ID_CHANGED).finish c.tag status 0

/-- The first turn of a library command notes the identity: while it runs, SPECIFIC holds it and RESIDUAL says whether the
command has started a mount or an unmount. -/
def State.libBegin (s : State) (c : Cmd) : State × Cmd :=
  let t := if c.started then s else s.updCmd c.tag fun d => { d with started := true, specific := s.rd OAS.LIB_ID, residual := 0 }
  (t, (t.cmd c.tag).getD c)

/-- Cached blocks of one library namespace dropped, or of all. -/
def State.dropLib (s : State) (k : Option Nat) : State :=
  s.dropCached fun x => 0x10 ≤ x.ns && match k with
    | some i => x.ns == 0x10 + i
    | none => true

/-- LIB_FORMAT by STATE (R414); `bad` is what the factory marks of the dies say. A format that creates the system area flushes the
recorder ring into it (R497). -/
def State.libFormat (s : State) (c : Cmd) (bad : List (Nat × Nat)) : State :=
  let k := s.localNs c.nsid - 0x10
  let (t, d) := s.libBegin c
  match t.rd OAS.STATE with
  | 0 => t.libEnd d stNandFailure
  | 2 => t.mountStart
  | 3 => t
  | 5 => t
  | 4 => ((t.formatNs k).dropLib (some k)).libEnd d stGood
  | _ => ((((t.formatAll bad).formatNs k).dropLib none).flushNow 0).libEnd d stGood

/-- LIB_FORMAT (R414). Log: 141 (DESIGN CHOICE). -/
def execLibFormat (tag : Nat) (bad : List (Nat × Nat)) (s : State) : Host.Outcome State Fault Refusal :=
  turn s tag (nativeIs 0x14) fun c => s.usePages c [0x12] (s.libFormat c bad)

/-- LIB_MOUNT by STATE (R414). -/
def State.libMount (s : State) (c : Cmd) : State :=
  let (t, d) := s.libBegin c
  let ran : Bool := d.residual = 1
  match t.rd OAS.STATE with
  | 3 => t
  | 5 => t
  | 0 => t.libEnd d stNandFailure
  | 4 => t.libEnd d stGood
  | 1 => t.libEnd d (if ran then stNandFailure else stGood)
  | _ => if ran then t.libEnd d stNandFailure else (t.updCmd c.tag fun e => { e with residual := 1 }).mountStart

/-- LIB_MOUNT (R414). -/
def execLibMount (tag : Nat) (s : State) : Host.Outcome State Fault Refusal :=
  turn s tag (nativeIs 0x15) fun c => s.usePages c [0x12] (s.libMount c)

/-- Background work of the library that an unmount ends first. -/
def State.libBusy (s : State) : Bool := s.lib.shadowQ ≠ [] || s.nand.writes.any LibWrite.live

/-- LIB_UNMOUNT by STATE (R414). -/
def State.libUnmount (s : State) (c : Cmd) : State :=
  let (t, d) := s.libBegin c
  let st := t.rd OAS.STATE
  if st = 3 then t
  else if st = 5 && d.residual ≠ 1 then t
  else if st = 4 || st = 5 then
    if t.libBusy then (t.updCmd c.tag fun e => { e with residual := 1 }).wr OAS.STATE 5
    else
      let u := { t with nand := { t.nand with mark := 1, writes := [] }, lib := { t.lib with known := [] } }
      ((u.wr OAS.STATE 2).dropLib none).finish c.tag stGood 0
  else t.finish c.tag stGood 0

/-- LIB_UNMOUNT (R414). -/
def execLibUnmount (tag : Nat) (s : State) : Host.Outcome State Fault Refusal :=
  turn s tag (nativeIs 0x16) fun c => s.usePages c [0x12] (s.libUnmount c)

/-! ### The shadow and the roster -/

/-- SHADOW_LOOKUP (R349, R367): one bit per block, and their number. Log: 103 (DEDUCED). -/
def State.shadowLookup (s : State) (c : Cmd) : State :=
  s.atMedium c (ceilDiv c.count 8) <|
    let n := s.xferCount c.block c.count s.drv.toc.leadOut (8 * c.dlen)
    let held := (List.range n).filter fun i =>
      let (a, layer) := s.discAddr (c.block + i)
      (s.shadowNow layer a).isSome
    let data := leBytes (ceilDiv n 8) ((held.map fun i => 2 ^ i).foldl (· + ·) 0)
    let (t, st) := (s.cmdClamp c 0x18 0 c.count n).cmdOut c 0 data
    t.finishFull c.tag (if st ≠ stGood then st else if n < c.count then stResidual else stGood) held.length
      (ceilDiv c.count 8 - data.length) none

/-- SHADOW_LOOKUP (R367). -/
def execShadowLookup (tag : Nat) (s : State) : Host.Outcome State Fault Refusal := dataTurn s tag (nativeIs 0x20) s.shadowLookup

/-- SHADOW_PURGE (R367, R429): sectors of all identities, or of the one in use. -/
def State.shadowPurge (s : State) (c : Cmd) : State :=
  let all := bit c.param0 0
  let goes := fun (x : ShadowSec) => all || some x.ident == s.drv.discId
  let n := (s.nand.shadow.filter goes).length
  let t := { s with nand := { s.nand with shadow := s.nand.shadow.filter fun x => !goes x } }
  let t := if n = 0 then t else { t with lib := { t.lib with shadowFull := false } }
  t.finish c.tag stGood n

/-- SHADOW_PURGE (R429); its NSID is 0, so the library need not be mounted (R413). Log: 148 (DEDUCED). -/
def execShadowPurge (tag : Nat) (s : State) : Host.Outcome State Fault Refusal :=
  turn s tag (nativeIs 0x21) fun c => s.usePages c [0x12] (s.shadowPurge c)

/-- A roster entry's 32 bytes (R451); the neighbour ID of a port that is not connected is 0. Log: 143 (DEDUCED). -/
def RosterEnt.bytes (e : RosterEnt) : List Byte :=
  let port := fun (x : Nat) => (e.neigh[x]?).getD none
  let flags := b2n (port 0).isSome + 2 * b2n (port 1).isSome + 4 * b2n (port 2).isSome + 8 * b2n e.elder + 16 * b2n e.disc + 32 * b2n e.borrow
  leBytes 8 e.unique ++ leBytes 2 e.id ++ ((List.range 3).flatMap fun x => leBytes 2 ((port x).getD 0)) ++
    [BitVec.ofNat 8 flags, BitVec.ofNat 8 e.priority] ++ leBytes 2 e.libs ++ leBytes 4 e.discTag ++ leBytes 8 e.bloom

/-- RYL_ROSTER (R451, R453): the entries held, and the generation. -/
def execRylRoster (tag : Nat) (s : State) : Host.Outcome State Fault Refusal :=
  dataTurn s tag (nativeIs 0x30) fun c => s.usePages c [0x13] <|
    s.replyNative c ((s.ryl.roster.take (s.rd RYL.ROSTER_HELD)).flatMap RosterEnt.bytes) (s.rd RYL.GEN)

end Sys2Proof.Machine
end

