-- ==== Sys2Proof/Machine/Blocks.lean ====
section
/-! DEFINITION. What a forced reset, a gate and a quiesce do to each block (R91 to R96, and each block's own rule). -/

namespace Sys2Proof.Machine

/-! ### Commands that end with BLOCK_RESET (R92) -/

/-- Commands that a test picks, among those whose work has begun, end with BLOCK_RESET. Log: 15 (DESIGN CHOICE). -/
def State.blockEnds (s : State) (p : Cmd → Bool) : State := s.endWhere (fun c => c.started && p c) stBlockReset

/-- A unit in decode or on the ladder answered with BLOCK_RESET, and the commands that need it ended with it (R252). Log:
15 (DESIGN CHOICE). -/
def State.unitReset (s : State) (u : EUnit) : State :=
  let t := if u.direct then s
    else s.endWhere (fun c => (s.unitBlocks u u.need).any fun b => s.needsBlock c b) stBlockReset
  t.unitGone u

/-- Units that a test picks answered so; borrowers that wait for them are told what is missing. Log: 15 (DESIGN CHOICE). -/
def State.unitsReset (s : State) (p : EUnit → Bool) : State :=
  ((s.ecd.units.filter p).foldl State.unitReset s).serveBorrowers

/-- SLD's seek and those that wait for it are answered: the units that they serve end (R92). Log: 15 (DESIGN CHOICE). -/
def State.seekReset (s : State) : State :=
  let l := (match s.drv.seek with
    | some r => [r]
    | none => []) ++ s.drv.seeks
  let t := { s with drv := { s.drv with seek := none, seeks := [], seekAbort := false, fixing := false, slip := none } }
  let t := t.unitsReset fun u => l.any fun r => !r.byGo && r.addr == u.addr && r.layer == u.layer
  if t.opt.jumpWait then ({ t with opt := { t.opt with jumpWait := false } }).jumpGo else t

/-- CAL: the working operation ends as an abort and the waiting ones go (R133). Log: 15 (DESIGN CHOICE). -/
def State.calReset (s : State) : State :=
  let t := match s.cal.work with
    | some (.run tag) => s.calRunEnd (.run tag) 2 stBlockReset [Lf.CAL.RUN_ABORTED]
    | some op => (({ s with cal := { s.cal with work := none } }).wr CAL.RESTORING 0).calLeave op stBlockReset
    | none => s
  let t := t.cal.wait.foldl (fun (t : State) op => t.calLeave op stBlockReset) t
  ({ t with cal := { t.cal with wait := [] } }).leafIf (s.is CAL.VALID) Lf.CAL.VALID_LOST

/-- QUE: every fetched command ends and no completion is written, a served request of another node is answered, and every
queue pair is deleted (R340). Log: 15 (DESIGN CHOICE). -/
def State.queReset (s : State) : State :=
  let t := s.playEnd stBlockReset []
  let t := t.ryl.serves.foldl (fun (t : State) v => (t.nsReply v.src v.tag v.epoch stBlockReset 0 0).serveEnd v) t
  t.deletePairs fun _ => true

/-- Native commands that Oasis holds (R434). -/
def State.atOasis (s : State) (c : Cmd) : Bool :=
  !c.isMmc && ([0x10, 0x11, 0x12, 0x13, 0x14, 0x15, 0x16, 0x18].contains c.opcode) && isLib (s.localNs c.nsid)

/-- A flush under way is answered with BLOCK_RESET: its records stay in the ring (R434). Log: 16 (DESIGN CHOICE). -/
def State.flushLost (s : State) : State :=
  if !s.is REC.FLUSHING then s
  else
    let t := ({ s with recd := { s.recd with flushN := 0, flushFlags := 0, flushGo := false, eraseTag := none } }).wr REC.FLUSHING 0
    let t := match s.recd.eraseTag with
      | some g => t.finish g stBlockReset 0
      | none => t
    if s.recd.flushGo then t.goDone REC.FLUSH else t

/-- OAS: what it holds ends as at a power loss (R434). Log: 15 (DESIGN CHOICE). -/
def State.oasReset (s : State) : State :=
  let t := (s.blockEnds s.atOasis).flushLost
  { t with nand := { t.nand with writes := t.nand.writes.map fun w => { w with live := false } }
           lib := { t.lib with raw := none } }

/-- RYL: remote commands end, and units at BORROW move on without their peers; the tags are quarantined (R94, R466). Log:
15 (DESIGN CHOICE). -/
def State.rylReset (s : State) : State :=
  let tags := s.ryl.opens.filterMap RylOpen.cmd
  let units := s.ryl.opens.filterMap RylOpen.unit
  let t := (s.endWhere (fun c => tags.contains c.tag) stBlockReset).closeOpens (fun _ => true) true
  (t.ecd.units.filter fun u => units.contains (u.addr, u.layer)).foldl State.borrowNext t

/-- REC: a REC_ERASE under way ends (R92, R511). Log: 15 (DESIGN CHOICE), 16 (DESIGN CHOICE). -/
def State.recReset (s : State) : State := match s.recd.eraseTag with
  | some g => ({ s with recd := { s.recd with eraseTag := none } }).finish g stBlockReset 0
  | none => s

/-- TRC: a running START ends, and no STOP marker is written (R511). Log: 15 (DESIGN CHOICE). -/
def State.trcReset (s : State) : State := match s.trc.startTag with
  | some g => ({ s with trc := { s.trc with startTag := none } }).finish g stBlockReset 0
  | none => s

/-- Commands of SERVO_TEST under way. -/
def Cmd.servoTest (c : Cmd) : Bool := !c.isMmc && c.opcode == 0x40

/-- A START STOP UNIT that waits for the loader, or for the spindle (R365). -/
def Cmd.startStopOf (c : Cmd) (loader : Bool) : Bool := c.isMmc && c.cdbOp == 0x1B && bit (beAt c.cdb 4 1) 1 == loader

/-! ### The steps of a reset or a gate -/

/-- Step 1 of R92: safe outputs. The laser, the loops and the spindle follow at once from their block being down. -/
def State.blockSafe (s : State) (p : Nat) : State :=
  match p with
  | 0x06 => { s.wr SLD.STATE 0 with loopOut := setAt s.loopOut 3 0, loopResult := setAt s.loopResult 3 0 }
  | 0x1A => if s.loaderMoving then s.loaderRecompute else s
  | _ => s

/-- Step 3 of R92: what each block holds is answered with BLOCK_RESET. Log: 15 (DESIGN CHOICE). -/
def State.blockAnswer (s : State) (p : Nat) : State :=
  match p with
  | 0x03 => s.calReset
  | 0x04 => s.blockEnds Cmd.servoTest
  | 0x05 => s.blockEnds Cmd.servoTest
  | 0x06 => s.seekReset
  | 0x07 => s.blockEnds fun c => c.startStopOf false
  | 0x08 => s.blockEnds Cmd.servoTest
  | 0x09 => if s.chn.entries = [] then s else s.unitsReset fun u => u.level == 0 || u.holding
  | 0x0A => (if s.chn.entries = [] then s else s.unitsReset fun u => u.level == 0 || u.holding).playEnd stBlockReset []
  | 0x0B => (s.unitsReset fun _ => true).playEnd stBlockReset []
  | 0x0D => s.avgAbort []
  | 0x0F => s.queReset
  | 0x11 => s.endWhere (fun c => c.stage == .dispatched) stBlockReset
  | 0x12 => s.oasReset
  | 0x13 => s.rylReset
  | 0x14 => s.playEnd stBlockReset []
  | 0x15 => s.recReset
  | 0x16 => s.trcReset
  | 0x17 => s.mirLock false
  | 0x1A => s.blockEnds fun c => c.startStopOf true
  | _ => s

/-- Step 4 of R92: the tags that the block had open toward other blocks close. -/
def State.blockTags (s : State) (p : Nat) : State := { s with openTags := s.openTags.filter fun o => o.page ≠ p }

/-- CMD fresh: sense, events, mode copies and PREVENT_MAP are gone, and every bound slice has its unit attention (R371). -/
def State.cmdFresh (s : State) : State :=
  let q := { s.que with pairs := s.que.pairs.map (fun (x : QPair) => { x with sense := none })
                        slices := s.que.slices.map (fun (x : SliceSt) => { x with events := [], per := false, retry := none, ua := 0 }) }
  let t := ({ s with que := q }).writePrevent
  t.boundSlices.foldl (fun t i => t.setUa i 1) t

/-- SLC fresh: a slice reset runs on every slice from 1 to 63 that has queue pairs (R401). -/
def State.slcFresh (s : State) : State :=
  ((List.range 64).filter fun i => i ≠ 0 && s.que.pairs.any fun q => q.slice == i).foldl (fun (t : State) i => t.sliceReset i 0 false) s

/-- Step 5 of R92 beside the registers: the block's other state is fresh. `old` is the state before its registers took
their reset values; what a block's own rule keeps comes from there (R194, R280). -/
def State.blockClear (s old : State) (p : Nat) : State :=
  match p with
  | 0x03 => { s with cal := {} }
  | 0x04 => { s with opt := { s.opt with foc := {}, jump := none, jumpRun := 0, jumpCross := false, sums := [], jumpWait := false } }
  | 0x05 => { s with opt := { s.opt with trk := {} } }
  | 0x06 => { s with drv := { s.drv with creepRun := 0, pwmRun := 0, learned := [], seekFrom := 0, seekTracks := 0 } }
  | 0x07 => { s.wr SPN.STATE (if old.rd SPN.STATE = 0 then 0 else 6) with
      drv := { s.drv with latched := false, toggled := false, comm := 0, angleOfs := 0, alignDue := false, integ := 0, unbal := 0,
                          ripples := 0, slowSet := false, ref := 0, lockRun := 0, slowRun := 0, rateRun := 0, overspeed := false } }
  | 0x08 => { s with opt := { s.opt with laserLatched := false, target := 0, integ := 0, okRun := 0, limRun := 0, overRun := 0,
                                         underRun := 0, cap780 := true, cap650 := true, deg780 := false, deg650 := false,
                                         drv780 := [], drv650 := [], lit780 := 0, lit650 := 0, switched := false } }
  | 0x09 => ({ s with chn := { s.chn with period := 0, phase := 0, errs := [], rateRef := 0, driftArmed := true, snrSince := none,
                                          snrSet := false, through := false, entries := [] } }).demFollow
  | 0x0A => { s with chn := { s.chn with q := [], syncs := 0, through := false, missed := 0, entries := [] } }
  | 0x0B => { s with ecd := {} }
  | 0x0C => { s with erg := {} }
  | 0x0E => { s.wrAll [(MEM.HOST_PAGES, old.rd MEM.HOST_PAGES), (MEM.HOST_NOW, old.rd MEM.HOST_NOW), (MEM.HOST_PEND, old.rd MEM.HOST_PEND),
                        (MEM.BANKS_OK, old.rd MEM.BANKS_OK)] with
              mem := { s.mem with ceTab := [], ueTab := [], ceSec := 0, ceCount := 0, scrubLate := false } }
  | 0x10 => s.slcFresh
  | 0x11 => s.cmdFresh
  | 0x12 => { s with lib := {} }
  | 0x13 => s.rylClear
  | 0x14 => { s with aud := {} }
  | 0x15 => { s with recd := { erasedBelow := s.recd.erasedBelow, active := s.recd.active, again := true } }
  | 0x16 => { s with trc := {} }
  | 0x17 => { s with mir := {} }
  | _ => s

/-- How a fresh block begins, after a reset or when its power is back: DEM searches when the channel delivers, the library
mounts, a node trains its ports, and the loader's STATE follows its limits (R194, R223, R434, R466). -/
def State.blockBegins (s : State) (p : Nat) : State :=
  match p with
  | 0x0A => s.wr DEM.STATE (if s.delivering then 0 else 3)
  | 0x12 => s.oasAfterReset
  | 0x13 => if s.pow.phase = .run then s.trainAll else s
  | 0x1A => s.loaderRecompute
  | _ => s

/-! ### Draining (R91) -/

/-- What a drain itself does: the trace's FIFOs go to the buffer (R511). -/
def State.blockDrain (s : State) (p : Nat) : State :=
  if p = 0x16 && s.is TRC.RUNNING && s.trc.queue ≠ [] then s.trcDrain.1 else s

/-- Whether a block holds an accepted request. -/
def State.blockBusy (s : State) (p : Nat) : Bool :=
  match p with
  | 0x03 => s.cal.work.isSome
  | 0x06 => s.drv.seek.isSome
  | 0x07 => s.rd SPN.STATE = 4
  | 0x0B => s.ecd.units ≠ []
  | 0x0D => s.rd AVG.STATE = 2
  | 0x0F => s.que.cmds ≠ []
  | 0x11 => s.que.cmds.any fun c => c.stage == .dispatched
  | 0x12 => s.nand.writes.any LibWrite.live || s.rd OAS.STATE = 3 || s.lib.raw.isSome
  | 0x13 => s.ryl.opens ≠ []
  | 0x14 => s.aud.fifo ≠ []
  | 0x15 => s.is REC.FLUSHING
  | 0x17 => !s.mirDrained
  | 0x1A => s.loaderMoving || s.rd LDR.STATE = 5
  | _ => false

end Sys2Proof.Machine
end

