-- ==== Sys2Proof/Machine/Power.lean ====
section
/-! DEFINITION. Power-on, resets, block reset and gating, power states, waking and power failure (04_power_reset_states.md). -/

namespace Sys2Proof.Machine

/-! ### What a loss of the main domains leaves (R83, R89) -/

/-- The keys of the register fields that lie in the wake domain (R83, R78). -/
def wakeKeys : List Nat :=
  [TIME.WAKE_POL, TIME.WAKE_EN, TIME.RYL_EN, TIME.LDR_EN, TIME.HWAKE_EN, TIME.RC_FLR, TIME.RC_PERST, TIME.RC_BROWNOUT,
    TIME.RC_CHIP_KEY, TIME.RC_STBY_EXIT, TIME.RC_POR, ATN.WAKE_NOTIFY, ATN.WAKE_HOLD].map Fld.key

/-- Everything outside the wake domain at its reset state; what lies outside the part (NAND contents, pins) stays. Log: 1
(DESIGN CHOICE). -/
def State.loseMain (s : State) (phase : Phase) (kind : BootKind) : State :=
  let z := State.reset
  { z with
    pending := s.pending, elapsed := s.elapsed, fresh := s.fresh, sent := s.sent, recStore := s.recStore
    regs := s.regs.filter fun e => wakeKeys.contains e.1
    calKept := s.calKept, maps := s.maps, tap := s.tap
    nand := { s.nand with writes := s.nand.writes.map fun w => { w with live := false, tag := noTag } }
    drv := { z.drv with limA := s.drv.limA, limB := s.drv.limB, slot := s.drv.slot, button := s.drv.button, flt := s.drv.flt }
    pow := { z.pow with phase := phase, kind := kind, pwrEn := phase != .standby, low := s.pow.low, pfail := s.pow.pfail,
                        flushShort := s.pow.flushShort || s.pow.pfFlush, perst := s.pow.perst, refclk := s.pow.refclk,
                        testen := s.pow.testen, sleepStart := s.pow.sleepStart, exit := s.pow.exit,
                        exitFrom := s.pow.exitFrom, exitStart := s.pow.exitStart, wakePend := s.pow.wakePend } }

/-- The wake domain back at its power-on values as well (R85); what is outside the part stays. Log: 1 (DESIGN CHOICE), 106
(DESIGN CHOICE). -/
def State.loseAll (s : State) (phase : Phase) : State :=
  let t := s.loseMain phase .por
  { t with regs := [], calKept := none,
           pow := { State.reset.pow with phase := phase, low := s.pow.low, pfail := s.pow.pfail, perst := s.pow.perst,
                                         refclk := s.pow.refclk, testen := s.pow.testen, pwrEn := phase != .off } }

/-- POWER_ON_RESET (R85, R89): VDD_STBY rises through 1.65 V. -/
def execPowerOnReset (s : State) : Host.Outcome State Fault Refusal :=
  if s.pow.phase = .off then done (s.loseAll .held) else done s

/-- STBY_POWER_LOSS (R85): VDD_STBY below 1.55 V for 1 µs. -/
def execStbyPowerLoss (s : State) : Host.Outcome State Fault Refusal := done (s.loseAll .off)

/-! ### Supplies (R99) -/

/-- Whether the core is out of reset. -/
def State.coreUp (s : State) : Bool := s.pow.phase == .boot || s.pow.phase == .run

/-- RAIL_LOW (R99, R115). -/
def execRailLow (rail : Nat) (s : State) : Host.Outcome State Fault Refusal :=
  let t := { s with pow := { s.pow with low := s.pow.low ||| 2 ^ rail } }
  done (t.leafIf s.coreUp (Lf.PWR.VCORE_LOW.plus rail))

/-- RAIL_GOOD (R99). -/
def execRailGood (rail : Nat) (s : State) : Host.Outcome State Fault Refusal :=
  done { s with pow := { s.pow with low := clearBits s.pow.low (2 ^ rail) } }

/-- BROWNOUT (R89): everything outside the wake domain is cleared, and NOW returns to 0 (R561). -/
def execBrownout (s : State) : Host.Outcome State Fault Refusal :=
  match s.pow.phase with
  | .off | .standby => done s
  | _ =>
    let t := { s with pow := { s.pow with low := s.pow.low ||| 1, exit := none } }
    done ((t.loseMain .held .brownout).wr TIME.RC_BROWNOUT 1)

/-- CORE_RESET_RELEASE (R86): no main-rail monitor reports low, so the core reset is released; a fuse word may fail, and a
retained calibration copy waits for its restore in all boots but a power-on's (R89, R106, R131). Log: 4 (DEDUCED). -/
def execCoreResetRelease (fuseErr : Bool) (s : State) : Host.Outcome State Fault Refusal :=
  if s.pow.phase = .held && s.pow.low % 32 = 0 && !s.pow.testen then
    let t := { s with pow := { s.pow with phase := .boot } }
    let t := if s.pow.kind ≠ .por && s.calKept.isSome then { t with cal := { t.cal with wait := [.restoreBoot] } } else t
    done (t.leafIf fuseErr Lf.SYS.FUSE_ERR)
  else done s

/-- SRAM_ZERO_FILL_DONE (R86, R263): the fill ends; banks that failed their read-back are retired. Log: 4 (DEDUCED). -/
def execSramZeroFillDone (upsets : List (Nat × Nat)) (s : State) : Host.Outcome State Fault Refusal :=
  if s.pow.phase = .boot && !s.pow.filled then
    done (({ s with pow := { s.pow with filled := true } }).memFilled upsets)
  else done s

/-! ### Power failure (R108 to R110) -/

/-- The steps of R108 from step 1. -/
def State.powerFailSteps (s : State) : State :=
  let t := s.setLeaf Lf.PWR.POWER_FAIL
  let entry := if t.pow.entry = some .standby then none else t.pow.entry
  let t := { t with pow := { t.pow with pfHeld := true, pfFlush := true, entry := entry } }
  let t := if s.pow.entry = some .standby then t.wr TIME.MOVING 0 else t
  let t := t.mechSafe.calPowerFail
  if t.recd.ring = [] then t else t.flushNow 1

/-- POWER_FAIL (R108): POWER_FAIL_N low for 1 µs; before engine release only the pin is seen. -/
def execPowerFail (s : State) : Host.Outcome State Fault Refusal :=
  let t := { s with pow := { s.pow with pfail := true } }
  if s.pow.phase = .run && !s.pow.pfHeld then done t.powerFailSteps else done t

/-- POWER_FAIL_FLUSH_DONE (R108, step 4). -/
def execPowerFailFlushDone (s : State) : Host.Outcome State Fault Refusal :=
  if s.pow.pfFlush && !s.is REC.FLUSHING then
    done (({ s with pow := { s.pow with pfFlush := false } }).oasPowerFlushed.setLeaf Lf.PWR.FLUSH_DONE)
  else done s

/-- POWER_RESTORED (R110): POWER_FAIL_N rises before power is lost. Log: 19 (DEDUCED). -/
def execPowerRestored (s : State) : Host.Outcome State Fault Refusal :=
  if !s.pow.pfail then done s
  else
    let t := { s with pow := { s.pow with pfail := false } }
    if s.pow.pfHeld then
      let t := { t with pow := { t.pow with pfHeld := false } }
      let t := (t.setLeaf Lf.PWR.POWER_RESTORED).oasPowerBack
      let t := { t with drv := { t.drv with moveHeld := false } }
      done (if t.rd TIME.STATE = 0 || t.pow.exit.isSome then t.mechRestart else t)
    else done t

/-! ### Boot and engine release (R86, R106) -/

/-- A power state reached: its event record, and the power event of every bound slice (R361, R492). Log: 21 (DESIGN
CHOICE). -/
def State.noteState (s : State) (left reached : Nat) : State :=
  (s.event (s.is REC.LOG_STATE) 0x0401 0x02 0 0 [BitVec.ofNat 8 left, BitVec.ofNat 8 reached]).postEvent 2 1

/-- The RESET_CAUSE word. -/
def State.resetCause (s : State) : Nat :=
  s.rd TIME.RC_FLR * 32 + s.rd TIME.RC_PERST * 16 + s.rd TIME.RC_BROWNOUT * 8 + s.rd TIME.RC_CHIP_KEY * 4 +
    s.rd TIME.RC_STBY_EXIT * 2 + s.rd TIME.RC_POR

/-- What every engine release does: the NAND island started, the loader's STATE and the Ryrram ports begun, the BOOT record
(R492), an unfinished flush reported (R109), and a POWER_FAIL_N still low acted on (R108). -/
def State.release (s : State) (ce0 ce1 : NandFind) : State :=
  let t := { s with pow := { s.pow with phase := .run } }
  let t := ((t.oasStart ce0 ce1).loaderRecompute).trainAll
  let t := t.event true 0x0400 0 0 0
    [BitVec.ofNat 8 t.resetCause, BitVec.ofNat 8 (t.rd TIME.LAST_WAKE), BitVec.ofNat 8 (t.rd TIME.FROM),
      BitVec.ofNat 8 (t.rd CAL.LAST_RESULT)]
  let t := if s.pow.flushShort then
      ({ t with pow := { t.pow with flushShort := false } }).setLeaf Lf.PWR.FLUSH_SHORT else t
  if s.pow.pfail then t.powerFailSteps else t

/-- ENGINE_RELEASE (R86, R114, R115). Log: 4 (DEDUCED), 141 (DESIGN CHOICE). -/
def execEngineRelease (ce0 ce1 : NandFind) (s : State) : Host.Outcome State Fault Refusal :=
  if s.pow.phase = .boot && s.pow.kind ≠ .stby && s.pow.filled && s.is TIME.REF_OK && !s.calBooting then
    let l := match s.pow.kind with
      | .chip => [Lf.SYS.CHIP_RESET_DONE]
      | .brownout => [Lf.SYS.BOOT_DONE, Lf.PWR.BROWNOUT]
      | _ => [Lf.SYS.BOOT_DONE]
    done ((s.release ce0 ce1).setLeaves l)
  else done s

/-- STANDBY_EXIT_DONE (R106 step 7, R77, R105, R116). Log: 141 (DESIGN CHOICE). -/
def execStandbyExitDone (ce0 ce1 : NandFind) (s : State) : Host.Outcome State Fault Refusal :=
  match s.pow.exit with
  | none => done s
  | some code =>
    if s.pow.phase = .boot && s.pow.kind = .stby && s.pow.filled && s.is TIME.REF_OK && !s.calBooting then
      let took := min 0xFFFFFFFF (s.elapsed - s.pow.exitStart)
      let t := { s with pow := { s.pow with exit := none }, drv := { s.drv with parked := true } }
      let t := t.wrAll [(TIME.LAST_WAKE, code), (TIME.FROM, 3), (TIME.SLEEP_US, 0xFFFFFFFF), (TIME.EXIT_US, took),
        (TIME.MOVING, 0), (TIME.RC_STBY_EXIT, 1)]
      let t := (t.release ce0 ce1).setLeaves ([Lf.PWR.LEAVE_STBY] ++ wakeLeaf code ++
        (if s.rd TIME.EXIT_STBY_US < took then [Lf.PWR.WAKE_LATE] else []))
      done (t.noteState 3 0)
    else done s

/-! ### Chip reset (R60, R47, R89) -/

/-- A value fed to SYS.CHIP_RESET: 0x5A17 and then 0xA5E8 within 64 µs start a chip reset; a restart is reported (R79).
Log: 12 (DEDUCED). -/
def State.feedChipKey (s : State) (value : Nat) : State :=
  let first := { s with pow := { s.pow with chipKey := if value = 0x5A17 then some s.elapsed else none } }
  match s.pow.chipKey with
  | none => first
  | some t0 =>
    if value = 0xA5E8 ∧ s.elapsed - t0 ≤ 64 then
      (({ s with pow := { s.pow with exit := none } }).loseMain .held .chip).wr TIME.RC_CHIP_KEY 1
    else first.setLeaf Lf.SYS.RESET_KEY_ABORT

/-- CHIP_RESET_KEY (R47, R60). -/
def execChipResetKey (_port : HostPort) (value : Nat) (s : State) : Host.Outcome State Fault Refusal :=
  done (s.feedChipKey value)

/-! ### Quiesce, forced reset and gating (R91 to R96) -/

/-- A page that has its own quiesce, reset and gate (R43). -/
def pageOwn (p : Nat) : Bool := pageExists p && !pageFixed p

/-- A write of QUIESCE (R91); with 0, QUIESCED clears and what the block held is accepted at its next turn. -/
def State.setQuiesce (s : State) (p : Nat) (v : Bool) : State :=
  if !pageOwn p then s
  else if v then s.wr (Hdr.QUIESCE p) 1
  else (s.wr (Hdr.QUIESCE p) 0).wr (Hdr.QUIESCED p) 0

/-- QUIESCED rises, with SYS.QUIESCE_DONE (R91, R114). -/
def State.quiesced (s : State) (p : Nat) : State :=
  if s.is (Hdr.QUIESCE p) && !s.is (Hdr.QUIESCED p) then (s.wr (Hdr.QUIESCED p) 1).setLeaf Lf.SYS.QUIESCE_DONE else s

/-- Steps 1 to 4 of R92: safe outputs, the epoch, the answers and the closed tags. -/
def State.resetSteps (s : State) (p : Nat) : State :=
  let t := s.blockSafe p
  let t := t.wr (Hdr.EPOCH p) (t.rd (Hdr.EPOCH p) + 1)
  (t.blockAnswer p).blockTags p

/-- The wait of R94: RYL's epoch would reach a value that a quarantined tag carries. -/
def State.epochHeld (s : State) (p : Nat) : Bool :=
  p == 0x13 && s.quarantine.any fun q => q.epoch == (s.rd (Hdr.EPOCH p) + 1) % 256

/-- A forced reset starts: its steps up to the closed tags, unless R94 makes it wait. -/
def State.startReset (s : State) (p : Nat) : State :=
  let t := { s with pow := { s.pow with resetting := s.pow.resetting ++ [p] } }
  if t.epochHeld p then { t with pow := { t.pow with rylEpochWait := true } } else t.resetSteps p

/-- A gate starts (R95). -/
def State.startGate (s : State) (p : Nat) : State :=
  let t := { s with pow := { s.pow with gating := s.pow.gating ++ [p] } }
  if t.epochHeld p then { t with pow := { t.pow with rylEpochWait := true } } else t.resetSteps p

/-- A reset that completes at once on a gated block (R96). -/
def State.resetAtOnce (s : State) (p : Nat) : State := (s.goDone (Hdr.RESET p)).setLeaf Lf.SYS.BLOCK_RESET_DONE

/-- A write of 1 to RESET (R92, R96). -/
def State.forcedReset (s : State) (p : Nat) : State :=
  if !pageOwn p then s
  else
    let (t, starts) := s.goWrite (Hdr.RESET p)
    if !starts then t
    else if t.is (Hdr.GATED p) then t.resetAtOnce p
    else if t.pow.gating.contains p then
      { t with pow := { t.pow with resetAfterGate := t.pow.resetAfterGate ++ [p] } }
    else t.startReset p

/-- A write of GATE (R95, R96). -/
def State.setGate (s : State) (p : Nat) (v : Bool) : State :=
  if !pageOwn p then s
  else
    let t := s.wr (Hdr.GATE p) (b2n v)
    if v then
      if t.is (Hdr.GATED p) || t.pow.gating.contains p then t
      else if t.pow.resetting.contains p then
        { t with pow := { t.pow with gateAfterReset := t.pow.gateAfterReset ++ [p] } }
      else t.startGate p
    else if t.is (Hdr.GATED p) && !t.pow.ungating.contains p then
      { t with pow := { t.pow with ungating := t.pow.ungating ++ [p] } }
    else { t with pow := { t.pow with gateAfterReset := t.pow.gateAfterReset.filter (· ≠ p) } }

/-- A forced reset ends: registers at reset values, RESET clears, SYS.BLOCK_RESET_DONE (R92 steps 5 and 6, R113). -/
def State.endReset (s : State) (p : Nat) : State :=
  let t := ((s.resetPage p).blockClear s p).blockBegins p
  let t := { t with pow := { t.pow with resetting := t.pow.resetting.filter (· ≠ p) } }
  let (t, again) := t.goEnd (Hdr.RESET p)
  let t := (t.setLeaves [Lf.SYS.BLOCK_RESET_DONE, Lf.SYS.RECOVERY_DONE]).quiesced p
  let t := if t.pow.gateAfterReset.contains p then
      ({ t with pow := { t.pow with gateAfterReset := t.pow.gateAfterReset.filter (· ≠ p) } }).startGate p else t
  if again then t.startReset p else t

/-- QUIESCE_WRITE (R91). -/
def execQuiesceWrite (page : Nat) (v : Bool) (s : State) : Host.Outcome State Fault Refusal := done (s.setQuiesce page v)

/-- BLOCK_DRAINED (R91): the block holds no accepted request and has no tag open. -/
def execBlockDrained (page : Nat) (s : State) : Host.Outcome State Fault Refusal :=
  if pageOwn page && s.is (Hdr.QUIESCE page) && !s.blockBusy page && !s.openTags.any (fun t => t.page == page) then
    done ((s.blockDrain page).quiesced page)
  else done s

/-- FORCED_BLOCK_RESET (R92). -/
def execForcedBlockReset (page : Nat) (s : State) : Host.Outcome State Fault Refusal := done (s.forcedReset page)

/-- FORCED_RESET_END (R92). -/
def execForcedResetEnd (page : Nat) (s : State) : Host.Outcome State Fault Refusal :=
  if s.pow.resetting.contains page && !(page == 0x13 && s.pow.rylEpochWait) then done (s.endReset page) else done s

/-- BLOCK_GATE (R95). -/
def execBlockGate (page : Nat) (s : State) : Host.Outcome State Fault Refusal := done (s.setGate page true)

/-- BLOCK_GATED (R95, R96): the block's power is removed; a reset that waited completes at once. -/
def execBlockGated (page : Nat) (s : State) : Host.Outcome State Fault Refusal :=
  if s.pow.gating.contains page && !(page == 0x13 && s.pow.rylEpochWait) then
    let waits := s.pow.resetAfterGate.contains page
    let t := ((s.resetPage page).blockClear s page).wr (Hdr.GATED page) 1
    let t := { t with pow := { t.pow with
      gating := t.pow.gating.filter (· ≠ page), resetAfterGate := t.pow.resetAfterGate.filter (· ≠ page)
      ungating := if s.is (Hdr.GATE page) then t.pow.ungating else t.pow.ungating ++ [page] } }
    done (if waits then t.resetAtOnce page else t)
  else done s

/-- BLOCK_UNGATE (R95). -/
def execBlockUngate (page : Nat) (s : State) : Host.Outcome State Fault Refusal := done (s.setGate page false)

/-- UNGATE_DONE (R95, R113). -/
def execUngateDone (page : Nat) (s : State) : Host.Outcome State Fault Refusal :=
  if s.pow.ungating.contains page then
    let t := (s.wr (Hdr.GATED page) 0).blockBegins page
    let t := { t with pow := { t.pow with ungating := t.pow.ungating.filter (· ≠ page) } }
    done ((t.setLeaves [Lf.SYS.BLOCK_RESET_DONE, Lf.SYS.RECOVERY_DONE]).quiesced page)
  else done s

/-- GATE_FAULT_TIMEOUT (R95). -/
def execGateFaultTimeout (page : Nat) (s : State) : Host.Outcome State Fault Refusal :=
  if s.pow.ungating.contains page && s.is (Hdr.GATED page) then
    done (({ s with pow := { s.pow with ungating := s.pow.ungating.filter (· ≠ page) } }).setLeaf Lf.PWR.GATE_FAULT)
  else done s

/-- SHD_HOLD_WRITE (R46). -/
def execShdHoldWrite (page : Nat) (v : Bool) (s : State) : Host.Outcome State Fault Refusal :=
  if pageOwn page then done (s.wr (Hdr.SHD_HOLD page) (b2n v)) else done s

/-! ### Replies and epochs (R93, R94) -/

/-- RYL's held reset or gate goes on once no quarantined tag carries the epoch it would reach (R94). -/
def State.epochWaitCheck (s : State) : State :=
  if s.pow.rylEpochWait && !s.epochHeld 0x13 then
    ({ s with pow := { s.pow with rylEpochWait := false } }).resetSteps 0x13
  else s

/-- INTERNAL_REPLY_ARRIVAL (R93, R94): taken when the tag is open and both epochs match, else discarded. -/
def execInternalReplyArrival (page tag reqEpoch repEpoch : Nat) (s : State) : Host.Outcome State Fault Refusal :=
  let fits := fun o : OpenTag => o.page == page && o.tag == tag && reqEpoch == s.rd (Hdr.EPOCH page) && repEpoch == o.repEpoch
  if s.openTags.any fits then done { s with openTags := s.openTags.filter fun o => !(o.page == page && o.tag == tag) }
  else
    let t := { s with quarantine := s.quarantine.filter fun q => !(page == 0x13 && q.tag == tag && q.epoch == reqEpoch) }
    done (t.epochWaitCheck.setLeaf Lf.SYS.EPOCH_DISCARD)

/-- QUARANTINE_EXPIRY (R94). -/
def execQuarantineExpiry (tag : Nat) (s : State) : Host.Outcome State Fault Refusal :=
  done ({ s with quarantine := s.quarantine.filter fun q => q.tag ≠ tag }).epochWaitCheck

/-! ### Power states (R97 to R107) -/

/-- The number that POWER_STATE gives a state. -/
def PState.num : PState → Nat
  | .active => 0 | .doze => 1 | .nap => 2 | .standby => 3

/-- The state one step deeper than STATE. -/
def State.deeper (s : State) : PState := match s.rd TIME.STATE with
  | 0 => .doze | 1 => .nap | _ => .standby

/-- Whether a step down is forbidden (R101). -/
def State.stepForbidden (s : State) : PState → Bool
  | .active => false
  | .doze => s.loaderMoving
  | .nap => s.pow.resetting ≠ [] || s.pow.gating ≠ [] || s.pow.ungating ≠ []
  | .standby => (s.is HPT.LINK_UP && s.rd HPT.DSTATE = 0) || (s.is RYL.ELDER && !s.is TIME.STBY_ELDER)

/-- The idleness that a step asks for (R100). -/
def State.idleFor (s : State) : PState → Bool
  | .doze => s.discIdle
  | _ => s.allIdle

/-- A state has been reached by stepping down: POWER_STATE, the leaf, the record, and the time it began. -/
def State.arrived (s : State) (n : Nat) (l : Leaf) : State :=
  let left := s.rd TIME.STATE
  let t := { s with pow := { s.pow with entry := none, sleepStart := s.elapsed } }
  ((t.wrAll [(TIME.STATE, n), (TIME.MOVING, 0)]).setLeaf l).noteState left n

/-- The actions of an entry (R102, R508); a DOZE entry that follows a NAP exit is done as soon as it starts (R103). -/
def State.enter (s : State) (p : PState) : State :=
  let t := ({ s with pow := { s.pow with entry := some p } }).wr TIME.MOVING 1
  match p with
  | .active => s
  | .doze => t.dozePark
  | .nap =>
    let t := t.trcSleepRecord
    if t.recd.ring = [] then t else t.flushNow 0
  | .standby => t.setLeaf Lf.PWR.ENTER_STBY

/-- POWER_CMD's next step (R103): taken when its idleness holds, ended by GO when forbidden or done. -/
def State.powerCmdStep (s : State) : State :=
  if !s.is TIME.PC_GO || s.pow.entry ≠ none || s.pow.exit ≠ none || s.pow.phase ≠ .run then s
  else if s.rd TIME.TARGET = s.rd TIME.STATE then s.goDone TIME.PC_GO
  else if s.rd TIME.STATE < s.rd TIME.TARGET then
    if s.stepForbidden s.deeper then (s.goDone TIME.PC_GO).setLeaf Lf.PWR.DOWN_BLOCKED
    else if s.idleFor s.deeper then s.enter s.deeper else s
  else s.beginExit 9

/-- IDLE_TIMER_EXPIRY (R100 to R102, R115): the timer toward a state runs out. -/
def execIdleTimerExpiry (target : Nat) (s : State) : Host.Outcome State Fault Refusal :=
  if s.pow.timer = some s.deeper && s.deeper.num = target && s.pow.phase = .run then
    let t := { s with pow := { s.pow with timerStart := s.elapsed } }
    let t := t.setLeaf (Lf.PWR.IDLE_DOZE.plus (target - 1))
    done (if t.stepForbidden t.deeper then t.setLeaf Lf.PWR.DOWN_BLOCKED else t.enter t.deeper)
  else done s

/-- DOZE_ENTRY_DONE (R102): SPN reports the spindle stopped. -/
def execDozeEntryDone (s : State) : Host.Outcome State Fault Refusal :=
  if s.pow.entry = some .doze && s.rd SPN.STATE = 0 then done (s.arrived 1 Lf.PWR.ENTER_DOZE).powerCmdStep else done s

/-- NAP_ENTRY_DONE (R102). Log: 20 (DEDUCED). -/
def execNapEntryDone (s : State) : Host.Outcome State Fault Refusal :=
  if s.pow.entry = some .nap && !s.is REC.FLUSHING then done ((s.trcSleepMark.arrived 2 Lf.PWR.ENTER_NAP).powerCmdStep) else done s

/-- STANDBY_ENTRY_COMMIT (R102, R561): NOW is kept, PWR_EN goes low, and all but the wake domain is lost. -/
def execStandbyEntryCommit (s : State) : Host.Outcome State Fault Refusal :=
  if s.pow.entry = some .standby then
    let t := s.loseMain .standby .stby
    done { t with now := s.now, pow := { t.pow with sleepStart := s.elapsed, exit := none, wakePend := none } }
  else done s

/-- DISCHARGE_WAIT_END (R102): a wake that came after the commit is acted on. -/
def execDischargeWaitEnd (s : State) : Host.Outcome State Fault Refusal :=
  if s.pow.phase = .standby then
    let t := { s with pow := { s.pow with discharged := true } }
    match s.pow.wakePend with
    | some code => done (t.beginStandbyExit code)
    | none => done t
  else done s

/-- A write of 1 to POWER_CMD.GO (R103). -/
def State.powerCmdGo (s : State) : State :=
  let (t, starts) := s.goWrite TIME.PC_GO
  if !starts then t
  else if t.rd TIME.TARGET < t.rd TIME.STATE then
    (if t.pow.entry = none && t.pow.exit = none then t.beginExit 9 else t.wake 9)
  else t.powerCmdStep

/-- POWER_CMD_GO (R103). -/
def execPowerCmdGo (s : State) : Host.Outcome State Fault Refusal := done s.powerCmdGo

/-- The end of an exit from DOZE or NAP (R105, R115, R116). -/
def State.exitDone (s : State) (code limit : Nat) (l : Leaf) : State :=
  let took := min 0xFFFFFFFF (s.elapsed - s.pow.exitStart)
  let from_ := s.rd TIME.STATE
  let t := { s with pow := { s.pow with exit := none } }
  let t := t.wrAll [(TIME.STATE, 0), (TIME.MOVING, 0), (TIME.FROM, from_), (TIME.LAST_WAKE, code), (TIME.EXIT_US, took),
    (TIME.SLEEP_US, min 0xFFFFFFFF (s.pow.exitStart - s.pow.sleepStart))]
  (t.setLeaves (l :: (if limit < took then [Lf.PWR.WAKE_LATE] else []))).noteState from_ 0

/-- DOZE_EXIT_DONE (R105). -/
def execDozeExitDone (s : State) : Host.Outcome State Fault Refusal :=
  match s.pow.exit with
  | some code =>
    if s.rd TIME.STATE = 1 && s.pow.phase = .run then
      done (s.exitDone code (s.rd TIME.EXIT_DOZE_US) Lf.PWR.LEAVE_DOZE).powerCmdStep
    else done s
  | none => done s

/-- NAP_EXIT_DONE (R105, R103, R508): ACTIVE with the mechanism parked; POWER_CMD toward DOZE enters it at once. Log: 19
(DEDUCED). -/
def execNapExitDone (s : State) : Host.Outcome State Fault Refusal :=
  match s.pow.exit with
  | some code =>
    if s.rd TIME.STATE = 2 && s.pow.phase = .run then
      let t := (s.exitDone code (s.rd TIME.EXIT_NAP_US) Lf.PWR.LEAVE_NAP).trcWakeMark
      let t := { t with drv := { t.drv with parked := true } }
      if t.is TIME.PC_GO && t.rd TIME.TARGET = 1 then
        done ((t.arrived 1 Lf.PWR.ENTER_DOZE).powerCmdStep)
      else done t.powerCmdStep
    else done s
  | none => done s

/-- HWAKE_EVENT (R104). -/
def execHwakeEvent (s : State) : Host.Outcome State Fault Refusal :=
  if s.is TIME.HWAKE_EN then done (s.wake 2) else done s

/-- WAKE_PIN_EVENT (R104). -/
def execWakePinEvent (n : Nat) (s : State) : Host.Outcome State Fault Refusal :=
  if bit (s.rd TIME.WAKE_EN) n then done (s.wake (5 + n)) else done s

/-- LOADER_WAKE_EVENT (R104). -/
def execLoaderWakeEvent (s : State) : Host.Outcome State Fault Refusal :=
  if s.is TIME.LDR_EN then done (s.wake 4) else done s

/-- RYL_WAKE_ACTIVITY (R104): in STANDBY, on a port whose comparator is live. -/
def execRylWakeActivity (rport : Nat) (s : State) : Host.Outcome State Fault Refusal :=
  if s.pow.phase = .standby && bit (s.rd TIME.RYL_EN) rport then done (s.wake 3) else done s

end Sys2Proof.Machine
end

