-- ==== Sys2Proof/Machine/Queue.lean ====
section
/-! DEFINITION. Queue pairs, doorbells, fetching, dispatch, completions, slices and shared engines (12_queues_ordering.md,
14_slices.md). -/

namespace Sys2Proof.Machine

/-- A memory request over a port is one that a BAR serves: over PCIe the function is in D0 and a PASID prefix is enabled;
what is not so arrives as UNSUPPORTED_REQUEST; over the serial port the engines are released (R287, R289, R304). Log: 77
(DEDUCED). -/
def State.served (s : State) (port : HostPort) (pasid : Option Nat) : Bool :=
  if port = .serial then s.pow.phase == .run
  else (s.pow.phase == .boot || s.pow.phase == .run) && s.rd HPT.DSTATE == 0 && (pasid.isNone || s.is HPT.PASID_EN)

/-! ### Queue pairs (R312 to R314) -/

/-- QP_CREATE (R312, R387). -/
def execQpCreate (s : State) : Host.Outcome State Fault Refusal := done s.qpCreate

/-- QP_DELETE (R314). -/
def execQpDelete (s : State) : Host.Outcome State Fault Refusal := done s.qpDelete

/-- QP_DELETE_DONE (R314): nothing of the draining pair is fetched any more. -/
def execQpDeleteDone (slice qp : Nat) (s : State) : Host.Outcome State Fault Refusal :=
  match s.pair slice qp with
  | none => done s
  | some p =>
    if p.state = .draining && s.pairIdle slice qp then
      let t := (s.dropPair slice qp).setLeaves [Lf.QUE.SQ_DRAINED, Lf.QUE.SQ_DELETED, Lf.QUE.CQ_DELETED]
      let (t, again) := if p.byGo then t.goEnd QUE.QP_DELETE else (t, false)
      done (if again then t.deleteStart else t)
    else done s

/-- QP_ABORT (R314). -/
def execQpAbort (s : State) : Host.Outcome State Fault Refusal := done s.qpAbort

/-- QP_ABORT_DONE (R314, R398): a pair of a slice reset is deleted with it. -/
def execQpAbortDone (slice qp : Nat) (s : State) : Host.Outcome State Fault Refusal :=
  match s.pair slice qp with
  | none => done s
  | some p =>
    let held := s.que.cmds.any fun c => c.slice == slice && c.qp == qp
    let waits := s.que.accepted.any fun a => a.slice == slice && a.qp == qp
    if p.state = .aborting && !held && !waits || p.state = .halted && !held && (p.byGo || p.deleteAfter) then
      let t := s.setLeaf Lf.QUE.ABORT_DONE
      let t := if p.deleteAfter then
          ({ t with que := { t.que with accepted := t.que.accepted.filter fun a => !(a.slice == slice && a.qp == qp) } }.dropPair slice qp).setLeaves
            [Lf.QUE.SQ_DRAINED, Lf.QUE.SQ_DELETED, Lf.QUE.CQ_DELETED]
        else t.setPair { p with state := if p.state = .halted then .halted else .active, byGo := false }
      let (t, again) := if p.byGo then t.goEnd QUE.QP_ABORT else (t, false)
      let t := t.sliceAbortCheck slice
      done (if again then t.abortStart else t)
    else done s

/-! ### Doorbells (R319 to R321, R379) -/

/-- SQ_DOORBELL (R319 to R321, R379). -/
def execSqDoorbell (port : HostPort) (slice qp tail rid : Nat) (pasid : Option Nat) (s : State) : Host.Outcome State Fault Refusal :=
  if !s.served port pasid then done s
  else
    let (t, ok) := s.doorCheck port slice rid pasid
    done (if ok then t.sqDoorbell port slice qp tail else t)

/-- CQ_HEAD_DOORBELL (R319, R324, R379). -/
def execCqHeadDoorbell (port : HostPort) (slice qp head rid : Nat) (pasid : Option Nat) (s : State) :
    Host.Outcome State Fault Refusal :=
  if !s.served port pasid then done s
  else
    let (t, ok) := s.doorCheck port slice rid pasid
    done (if ok then t.cqDoorbell port slice qp head else t)

/-! ### From fetch to completion (R322, R326, R328, R329, R316) -/

/-- ENTRY_FETCH (R322, R323, R380, R385, R389): the 64 bytes that the memory gives, and whether the fetch succeeds. -/
def execEntryFetch (entry : List Byte) (ok : Bool) (s : State) : Host.Outcome State Fault Refusal :=
  if !s.fetchOk then done s
  else
    let (t, grant) := s.mirGrant 0x0F
    if !grant then done t
    else match t.nextFetch t.que.accepted [] with
      | (u, none) => done u
      | (u, some a) => done ((u.mirStage 0x0F).takeEntry a entry ok)

/-- COMMAND_DISPATCH (R326, R328, R329, R344 to R346, R371). -/
def execCommandDispatch (tag : Nat) (s : State) : Host.Outcome State Fault Refusal :=
  match s.cmd tag with
  | none => done s
  | some c =>
    if c.stage ≠ .fetched || s.pow.pfHeld then done s
    else if s.pageDown 0x11 then done (s.finish tag stBlockReset 0)
    else if s.is (Hdr.QUIESCE 0x11) || s.chained c || s.orderHeld c || s.fenceHeld c || s.withheld 0x11 then done s
    else done ((s.mirStage 0x11).take c)

/-- COMPLETION_WRITE (R316, R317, R324, R326, R332, R457). -/
def execCompletionWrite (tag : Nat) (ok : Bool) (s : State) : Host.Outcome State Fault Refusal :=
  match s.cmd tag with
  | none => done s
  | some c => done (s.complete c ok)

/-! ### Timers and thresholds (R335, R342, R343, R372) -/

/-- OVERLOAD_TIMER (R335). -/
def execOverloadTimer (slice : Nat) (s : State) : Host.Outcome State Fault Refusal :=
  let thr := s.rd (QUE.BACKLOG_THR.at slice)
  if thr ≠ 0 && thr < s.backlog slice && !s.mapBit QUE.OVL_MAP_LO QUE.OVL_MAP_HI slice then
    done ((s.setMapBit QUE.OVL_MAP_LO QUE.OVL_MAP_HI slice true).setLeaf Lf.QUE.OVERLOAD)
  else done s

/-- HAZARD_WAIT_LONG (R342). -/
def execHazardWaitLong (tag : Nat) (s : State) : Host.Outcome State Fault Refusal :=
  match s.cmd tag with
  | none => done s
  | some c =>
    if c.stage ≠ .fetched then done s
    else done (s.setLeaves ((if s.chained c then [Lf.QUE.HAZARD_LONG] else []) ++ (if s.orderHeld c then [Lf.QUE.ORDER_WAIT] else [])))

/-- FENCE_WAIT_LONG (R329). -/
def execFenceWaitLong (tag : Nat) (s : State) : Host.Outcome State Fault Refusal :=
  match s.cmd tag with
  | none => done s
  | some c => done (s.leafIf (c.fenced && c.stage = .fetched && s.fenceHeld c) Lf.QUE.FENCE_LONG)

/-- LAT_CLR (R343). -/
def execLatClr (s : State) : Host.Outcome State Fault Refusal :=
  if s.pageDown 0x0F then done s else done ((s.wr QUE.LAT_MAX_US 0).goDone QUE.LAT_CLR)

/-- CMD_STALL_TIMEOUT (R372). -/
def execCmdStallTimeout (tag : Nat) (s : State) : Host.Outcome State Fault Refusal :=
  match s.cmd tag with
  | none => done s
  | some c => done (s.leafIf (c.stage = .dispatched) Lf.CMD.CMD_STALL)

/-- ENG_THR of an engine. -/
def engThr : Nat → Fld
  | 0 => QUE.THR_DEC | 1 => QUE.THR_NAND | 2 => QUE.THR_RYL | _ => QUE.THR_DMA

/-- ENGINE_BACKLOG (R342). -/
def execEngineBacklog (engine : Nat) (s : State) : Host.Outcome State Fault Refusal :=
  done (s.leafIf (s.rd (engThr engine) < (s.eng engine).reqs.length) (Lf.QUE.BACKLOG_DEC.plus engine))

/-- READAHEAD (R337): further sectors behind a missed read, while no other disc work waits. Log: 144 (DEDUCED). -/
def execReadahead (sectors : Nat) (s : State) : Host.Outcome State Fault Refusal :=
  match s.que.ahead with
  | none => done s
  | some b =>
    if s.rd LDR.STATE = 6 && s.ecd.units = [] && s.drv.seek.isNone && s.drv.seeks = [] && s.rd TIME.STATE = 0 && !s.drv.ejecting then
      let n := min sectors (s.rd QUE.READAHEAD)
      let want := (List.range n).filter fun i => b + i < s.drv.toc.leadOut && (s.cachedAt 1 (b + i)).isNone
      let t := want.foldl (fun (t : State) i => let (a, layer) := t.discAddr (b + i); t.needSector a layer 0 255 false) s
      done { t with que := { t.que with ahead := none } }
    else done s

/-! ### Slices (R374, R376, R388, R398) -/

/-- SLC_TABLE_COMMIT (R374, R376, R401). -/
def execSlcTableCommit (s : State) : Host.Outcome State Fault Refusal :=
  if s.pageDown 0x10 || s.is (Hdr.QUIESCE 0x10) then done s else done s.slcCommit

/-- SLICE_RESET (R398). -/
def execSliceReset (s : State) : Host.Outcome State Fault Refusal := done s.sliceResetGo

/-- SLICE_RESET_DONE (R398, R376): every queue pair of the slice is deleted. -/
def execSliceResetDone (slice : Nat) (s : State) : Host.Outcome State Fault Refusal :=
  if (s.sl slice).resetting && !s.que.pairs.any fun p => p.slice == slice then done (s.sliceResetEnd slice) else done s

/-- SLICE_ABORT (R398). -/
def execSliceAbort (s : State) : Host.Outcome State Fault Refusal := done s.sliceAbortGo

/-- WADI_REFILL (R388, R391): 1,000 µs of TIME.NOW have passed. -/
def execWadiRefill (s : State) : Host.Outcome State Fault Refusal :=
  if s.pageDown 0x10 then done s
  else done (((List.range 64).filter fun i => s.rd (SLC.CMD_RATE.at i) ≠ 0 || s.rd (SLC.BYTE_RATE.at i) ≠ 0).foldl State.refill s)

/-! ### The shared engines (R392 to R396) -/

/-- ENGINE_UNIT_BOUNDARY (R393): the next turn, and the next unit of the slice that has it. -/
def execEngineUnitBoundary (engine : Nat) (s : State) : Host.Outcome State Fault Refusal :=
  if engine = 3 && !s.dmaOk then done s
  else match s.nextTurn engine with
    | (g, some c) => done (s.serveUnit engine c g)
    | (g, none) => done (s.setEng engine { g with cur := none })

/-- UNIT_WAIT_LONG (R395): a request waits for its first unit. -/
def execUnitWaitLong (engine tag : Nat) (s : State) : Host.Outcome State Fault Refusal :=
  done (s.leafIf ((s.eng engine).reqs.any fun r => r.tag == tag && r.since.isSome) (Lf.SLC.UNIT_WAIT_DEC.plus engine))

/-- SHARE_WINDOW_END (R396): 100 ms of TIME.NOW have passed. -/
def execShareWindowEnd (s : State) : Host.Outcome State Fault Refusal :=
  done ((List.range 4).foldl State.shareWindow s)

end Sys2Proof.Machine
end

