-- ==== Sys2Proof/Machine/ReadReg.lean ====
section
/-! DEFINITION. Reading registers: the fields that follow other state, a register of BAR0, a register of a doorbell page
(R36, R38, R41, R42, R318). -/

namespace Sys2Proof.Machine

/-! ### Fields that follow other state -/

/-- The µs left on the running idle timer (R116). -/
def State.idleLeft (s : State) : Nat := match s.pow.timer with
  | some .doze => s.rd TIME.IDLE_DOZE_US - (s.elapsed - s.pow.timerStart)
  | some .nap => s.rd TIME.IDLE_NAP_US - (s.elapsed - s.pow.timerStart)
  | some .standby => s.rd TIME.IDLE_STBY_US - (s.elapsed - s.pow.timerStart)
  | _ => 0

/-- QP_CFG's view of the selected queue pair (R343). -/
def State.selPair (s : State) : Option QPair := s.pair (s.rd QUE.SEL_SLICE) (s.rd QUE.SEL_QP)

/-- The code of a queue pair's STATE (R343). -/
def QState.num : QState → Nat
  | .active => 1 | .draining => 2 | .halted => 3 | .aborting => 4

/-- A field of the selected queue pair. -/
def State.livePair (s : State) (off lsb : Nat) : Nat := match s.selPair with
  | none => if off = 0x064 && lsb = 31 then 1 else 0
  | some p => match off, lsb with
    | 0x05C, 24 => p.state.num
    | 0x05C, 17 => b2n p.loc
    | 0x05C, 16 => b2n p.atomic
    | 0x05C, _ => p.depth
    | 0x060, 16 => p.sqHead
    | 0x060, _ => p.sqTail
    | 0x064, 31 => b2n p.phase
    | 0x064, 16 => p.cqHead
    | 0x064, _ => p.cqTail
    | _, _ => (s.que.cmds.filter fun c => c.slice == p.slice && c.qp == p.qp).length

/-- How many slices are ready at an engine. -/
def State.readyCount (s : State) (e : Nat) : Nat := ((List.range 64).filter (s.ready e)).length

/-- A share in 1/32,768, truncated as in the example of 14_slices.md (R394, R404). Log: 14 (DEDUCED). -/
def shareOf (part whole : Nat) : Nat := if whole = 0 then 0 else part * 32768 / whole

/-- A field of the SLC page. Log: 22 (DEDUCED). -/
def State.liveSlc (s : State) (off lsb : Nat) : Nat :=
  let i := (off - 0x800) / 32
  let e := s.rd SLC.SH_ENGINE
  let k := s.rd SLC.SH_SLICE
  if 0x800 ≤ off then
    if off % 32 = 0x1C then s.tagsHeld i
    else if lsb = 16 then (if s.rd (SLC.CMD_RATE.at i) = 0 then s.rd (SLC.CMD_BURST.at i) else (s.sl i).cmdLevel / 1024)
    else toCode 16 (clampInt (-32767) 32767
      (if s.rd (SLC.BYTE_RATE.at i) = 0 then (s.rd (SLC.BYTE_BURST.at i) : Int) else (s.sl i).byteLevel / 1048576))
  else match off with
    | 0x054 => b2n (if lsb = 1 then (s.sl (s.rd SLC.CMD_SLICE)).resetting else (s.sl (s.rd SLC.CMD_SLICE)).aborting)
    | 0x06C => ofBits ((List.range 32).filter s.bound)
    | 0x070 => ofBits ((List.range 32).filter fun j => s.bound (32 + j))
    | 0x078 => s.readyCount (3 - lsb / 8)
    | _ => if lsb = 16 then (if s.bound k then shareOf (s.weight e k) (s.weightSum e) else 0)
      else shareOf ((s.eng e).of k).lastServed (s.eng e).lastTotal

/-- A field of the Mirage page (R515 to R528). -/
def State.liveMir (s : State) (off lsb : Nat) : Nat := match off with
  | 0x04C => if lsb = 29 then b2n s.mirDrained else if lsb = 24 then b2n s.mir.keyAt.isSome else s.hookCount
  | 0x050 => if s.is MIR.UNLOCKED then s.rd MIR.AUTO_LOCK_S - (s.elapsed - s.mir.touched) / 1000000 else 0
  | 0x054 => ofBits ((List.range 0x1B).filter fun p => s.rd (Hdr.HOOK p) ≠ 0)
  | _ => b2n (s.mirExhausted ((off - 0x180) / 4))

/-- A field of kind `live`, from what it follows. -/
def State.liveOf (s : State) (f : Fld) : Nat :=
  if f.off < 0x40 then b2n (s.shdPend f.page)
  else match f.page with
  | 0x01 => match f.off with
    | 0x040 => if f.lsb = 24 then s.sliceOct else s.groups
    | 0x044 => b2n s.pinCond
    | 0x050 => s.slicePend % 2 ^ 32
    | 0x054 => s.slicePend / 2 ^ 32
    | _ => s.grpPend ((f.off - 0x060) / 4)
  | 0x02 => match f.off with
    | 0x054 => s.now % 2 ^ 32
    | 0x098 => s.idleLeft
    | _ => if f.lsb = 8 then b2n s.pow.pfail else s.pow.low
  | 0x03 => b2n (if f.lsb = 8 then s.calKept.isSome else s.calWaitPark)
  | 0x0B => (s.ecd.units.filter fun u => (u.level == 2 || u.level == 3) && !u.holding).length
  | 0x0C => s.erg.segs.length
  | 0x0E => match f.off with
    | 0x048 => b2n s.scrubbing
    | 0x050 => s.freePages.length
    | _ => bits s.tblData0 f.lsb f.width
  | 0x0F =>
    if 0x100 ≤ f.off then s.backlog ((f.off - 0x100) / 4)
    else match f.off with
      | 0x06C => if f.lsb = 16 then s.xactFree else s.tagFree
      | 0x0B0 => (s.mem.owners.filter fun o => o.2 == PageUse.cache).length
      | _ => s.livePair f.off f.lsb
  | 0x10 => s.liveSlc f.off f.lsb
  | 0x12 => match f.off with
    | 0x074 => s.nand.shadow.length
    | _ => if f.lsb = 15 then b2n (s.ptrKnown (s.rd OAS.RAW_DIE) (s.rd OAS.RAW_BLOCK))
      else if s.ptrKnown (s.rd OAS.RAW_DIE) (s.rd OAS.RAW_BLOCK) then dbGet s.nand.ptrs (s.rd OAS.RAW_DIE) (s.rd OAS.RAW_BLOCK) else 0
  | 0x13 => match f.off with
    | 0x058 => s.ryl.roster.length
    | _ => match s.routeTo (s.rd RYL.QUERY_ID) with
      | none => 0
      | some (x, h) => if f.lsb = 31 then 1 else if f.lsb = 24 then x else h
  | 0x14 => s.audLevel
  | 0x15 => match f.off with
    | 0x058 => if f.lsb = 31 then b2n s.storeOk else if f.lsb = 16 then s.recd.ring.length else s.storeRecs
    | _ => s.oldestRsn
  | 0x17 => s.liveMir f.off f.lsb
  | 0x18 => s.pci.reads.length
  | _ => b2n (s.is LDR.PREVENT) * 16 + b2n s.drv.button * 8 + b2n s.drv.slot * 4 + b2n s.drv.limB * 2 + b2n s.drv.limA

/-! ### Registers -/

/-- What a field reads: zero on a gated page, its reset value while a forced reset runs on its page (R41); a KEY field
reads zero (R44). Log: 18 (DESIGN CHOICE). -/
def State.fieldRead (s : State) (f : Fld) : Nat :=
  if 0x40 ≤ f.off && s.is (Hdr.GATED f.page) then 0
  else if 0x40 ≤ f.off && s.pow.resetting.contains f.page then f.reset
  else match f.kind with
    | .key => 0
    | .live => s.liveOf f % 2 ^ f.width
    | _ => s.rd f

/-- The register at an offset of a page; reserved places read zero (R36, R42). -/
def State.regWord (s : State) (page off : Nat) : Nat :=
  if !pageExists page then 0
  else if off = 0 then page * 2 ^ 24 + pageCode page
  else if off = 4 then pageVer page
  else (fieldsAt page off).foldl (fun v f => v + s.fieldRead f * 2 ^ f.lsb) 0

/-- The source that an OBS pin shows (R554). Log: 13 (DEDUCED). -/
def State.obsSource (s : State) : Nat → Bool
  | 0 => s.fieldRead FOC.STATE = 4
  | 1 => s.fieldRead TRK.LOCKED = 1
  | 2 => s.fieldRead CHN.STATE = 2
  | 3 => s.fieldRead DEM.STATE = 1
  | 4 => s.fieldRead SPN.STATE = 3
  | 5 => s.fieldRead AUD.MUTED = 1
  | 6 => s.fieldRead TIME.STATE = 0
  | _ => s.pinCond

/-- GPIO_IN (R554): what the part drives, and an open value on a pin that it does not drive. Log: 13 (DEDUCED). -/
def State.gpioIn (s : State) : State × Nat :=
  let (pins, t) := s.free 256
  (t, ofBits ((List.range 8).filter fun n =>
    if bits (s.rd PIN.GPIO_FUNC) (2 * n) 2 = 1 then s.obsSource (bits (s.rd PIN.OBS_SEL) (3 * n) 3)
    else if bit (s.rd PIN.GPIO_OE) n then bit (s.rd PIN.GPIO_OUT) n else bit pins n))

/-- What a read of a register does beside returning it: the captures of R31, R220, R257, R283 and R513, and the end of the
wake hold (R78). A page that is down does none. Log: 10 (DEDUCED). -/
def State.readEffect (s : State) (page off : Nat) : State :=
  if s.is (Hdr.GATED page) || s.pow.resetting.contains page then s
  else match page, off with
    | 0x01, 0x040 => s.readSummary.1
    | 0x02, 0x054 => s.readNowLo.1
    | 0x0A, 0x04C => s.subqHold
    | 0x0C, 0x060 => s.segHold
    | 0x0E, 0x074 => s.tblHold
    | 0x15, 0x080 => s.recHold
    | _, _ => s

/-- A host read of a BAR0 register. Log: 10 (DEDUCED). -/
def State.readReg (s : State) (page off : Nat) : State × Nat :=
  if page = 0x19 && off = 0x050 then s.gpioIn
  else
    let t := s.readEffect page off
    (t, t.regWord page off)

/-- A read of a register of a slice's doorbell page (R71, R318). Log: 10 (DEDUCED). -/
def State.doorWord (s : State) (sl off : Nat) : Nat :=
  let q := fun (k : Nat) (f : QPair → Nat) (z : Nat) => ((s.pair sl k).map f).getD z
  if off < 0x040 then q (off / 8) (if off % 8 = 0 then QPair.sqTail else QPair.cqHead) 0
  else if off = 0x040 then s.notice sl
  else if off = 0x044 then s.noticeMask sl
  else if off = 0x048 then s.routeMap sl
  else if 0x080 ≤ off && off < 0x0C0 then
    (if off % 8 = 0 then q ((off - 0x080) / 8) QPair.sqHead 0
     else q ((off - 0x080) / 8) (fun p => b2n p.phase * 2 ^ 31 + p.cqTail) (2 ^ 31))
  else if 0x0C0 ≤ off && off < 0x120 then (if sl = 0 then 0 else s.grpRouted sl ((off - 0x0C0) / 4))
  else 0

end Sys2Proof.Machine
end

