-- ==== Sys2Proof/Machine/Ryl.lean ====
section
/-! DEFINITION. Ryrram links, caravans, the election, the roster, remote namespaces and borrows (16_ryrram_link.md). -/

namespace Sys2Proof.Machine

/-- A port that may carry symbols. -/
def State.portLive (s : State) (x : Nat) : Bool := s.rylUp && bit (s.rd RYL.PORT_EN) x

/-! ### Links (R440, R441) -/

/-- RYL_LINK_UP (R440, R447). -/
def execRylLinkUp (rport : Nat) (s : State) : Host.Outcome State Fault Refusal :=
  let p := s.rport rport
  if s.portLive rport && p.gotHello && p.sentHello && !s.is (RYL.LOOP.at rport) && !s.is (RYL.UP.at rport) then
    let t := (s.wr (RYL.UP.at rport) 1).setLeaf (Lf.RYP.LINK_UP_A.plus rport)
    let t := if t.rd RYL.JOIN_STATE = 0 then t.wr RYL.JOIN_STATE 1 else t
    done t.sendElect.rylReport
  else done s

/-- RYL_LINK_DOWN (R440). -/
def execRylLinkDown (rport : Nat) (s : State) : Host.Outcome State Fault Refusal :=
  if s.is (RYL.UP.at rport) then done (s.linkDown rport).rylReport else done s

/-- CODE_ERROR (R440). -/
def execCodeError (rport : Nat) (s : State) : Host.Outcome State Fault Refusal :=
  if s.portLive rport then done ((s.add RYL.SYMBOL_ERRS 1).setLeaf (Lf.RYP.SYMBOL_ERR_A.plus rport)) else done s

/-- The GO fields of PORT_CMD. -/
def retrainGo (x : Nat) : Fld := { RYL.RETRAIN_A with lsb := 4 + x }
def wakeGo (x : Nat) : Fld := { RYL.WAKE_A with lsb := x }

/-- A port retrained (R440). -/
def State.portRetrain (s : State) (x : Nat) : State :=
  if !s.rylUp then s
  else
    let t := if bit (s.rd RYL.PORT_EN) x then (s.linkDown x).train x else s
    (t.goDone (retrainGo x)).rylReport

/-- 20 µs of idle sent on a down port (R454). -/
def State.portWake (s : State) (x : Nat) : State :=
  if !s.rylUp then s
  else
    let t := if s.is (RYL.UP.at x) then s else s.sym x 3 0
    t.goDone (wakeGo x)

/-- PORT_RETRAIN (R440). -/
def execPortRetrain (rport : Nat) (s : State) : Host.Outcome State Fault Refusal := done (s.portRetrain rport)

/-- PORT_WAKE (R454). -/
def execPortWake (rport : Nat) (s : State) : Host.Outcome State Fault Refusal := done (s.portWake rport)

/-- HELLO_RECEIVED (R440, R441): a node's own UNIQUE marks a loop, and a looped port carries nothing until it is trained
again; else the neighbour's node ID is taken. Log: 116 (DEDUCED). -/
def execHelloReceived (rport : Nat) (c : Caravan) (s : State) : Host.Outcome State Fault Refusal :=
  s.rxDone rport c fun t => match c.body with
    | .hello unique node _ =>
      if unique = ownUnique then
        let was := t.is (RYL.LOOP.at rport)
        let t := if t.is (RYL.UP.at rport) then t.linkDown rport else t
        let t := t.setRport rport { t.rport rport with sentHello := true }
        (t.wr (RYL.LOOP.at rport) 1).leafIf (!was) (Lf.RYP.LOOP_A.plus rport)
      else
        let t := if (t.rport rport).sentHello then t else t.train rport
        let t := t.setRport rport { t.rport rport with gotHello := true }
        match node with
        | some n => t.wrAll [(RYL.NEIGH_VALID.at rport, 1), (RYL.NEIGH_ID.at rport, n)]
        | none => t.wrAll [(RYL.NEIGH_VALID.at rport, 0), (RYL.NEIGH_ID.at rport, 0)]
    | _ => t

/-! ### The link layer (R443, R445, R446) -/

/-- BAD_CARAVAN (R443, R445): a failure of this link sets CRC_ERR; a copy that ended in EBAD is only discarded and NAKed. -/
def execBadCaravan (rport : Nat) (own : Bool) (s : State) : Host.Outcome State Fault Refusal :=
  if s.portLive rport then
    let t := if own then (s.add RYL.CRC_ERRS 1).setLeaf (Lf.RYP.CRC_ERR_A.plus rport) else s
    done (t.sym rport 1 (t.rport rport).rxNext)
  else done s

/-- Caravans from an LSEQ on. -/
def fromSeq (l : List QCar) (n : Nat) : List QCar := l.dropWhile fun q => q.c.lseq ≠ n

/-- ACK_RECEIVED (R445, R446). -/
def execAckReceived (rport lseq : Nat) (s : State) : Host.Outcome State Fault Refusal :=
  let p := s.rport rport
  if s.portLive rport && p.unacked.any fun q => q.c.lseq == lseq then
    let rest := (fromSeq p.unacked lseq).drop 1
    let freed := p.unacked.take (p.unacked.length - rest.length)
    let t := freed.foldl State.creditBack (s.setRport rport { p with unacked := rest, replays := 0 })
    done (t.pump rport (p.queue.length + 1))
  else done s

/-- Caravans sent again; the fourth replay of one takes the link down (R440, R445). Log: 119 (DEDUCED). -/
def State.replay (s : State) (x : Nat) (l : List QCar) : State :=
  if l = [] then s
  else
    let p := s.rport x
    let t := (s.setRport x { p with replays := p.replays + 1 }).add RYL.REPLAYS 1
    if 4 ≤ p.replays + 1 then t.linkDown x
    else l.foldl (fun t q => t.emit (.caravan x q.c false)) t

/-- NAK_RECEIVED (R445). -/
def execNakReceived (rport lseq : Nat) (s : State) : Host.Outcome State Fault Refusal :=
  if s.portLive rport then done (s.replay rport (fromSeq (s.rport rport).unacked lseq)).rylReport else done s

/-- REPLAY_TIMEOUT (R445). -/
def execReplayTimeout (rport : Nat) (s : State) : Host.Outcome State Fault Refusal :=
  if s.portLive rport then done (s.replay rport (s.rport rport).unacked).rylReport else done s

/-- CREDITS_RECEIVED (R445). -/
def execCreditsReceived (rport n : Nat) (s : State) : Host.Outcome State Fault Refusal :=
  if s.portLive rport then
    let t := s.wr (RYL.CREDITS.at rport) (min 32 (s.rd (RYL.CREDITS.at rport) + n))
    done (t.pump rport ((t.rport rport).queue.length + 1))
  else done s

/-- CREDIT_STALL (R445): a caravan has waited 100 µs for credits. -/
def execCreditStall (rport : Nat) (s : State) : Host.Outcome State Fault Refusal :=
  match pickNext (s.rport rport) with
  | some q => done (s.leafIf (s.rd (RYL.CREDITS.at rport) < carCredits q.c) (Lf.RYP.CREDIT_STALL_A.plus rport))
  | none => done s

/-- The first forwarded caravan of a list taken out. -/
def dropForwarded : List QCar → Option (QCar × List QCar)
  | [] => none
  | q :: r => if q.came.isSome then some (q, r) else (dropForwarded r).map fun e => (e.1, q :: e.2)

/-- CARAVAN_LIFETIME_EXPIRY (R446): a forwarded caravan in a port's output queue, or held for sending again (3). -/
def execCaravanLifetimeExpiry (rport : Nat) (s : State) : Host.Outcome State Fault Refusal :=
  if rport = 3 then
    match dropForwarded s.ryl.held with
    | some (q, r) => done ((({ s with ryl := { s.ryl with held := r } }).creditBack q).add RYL.FWD_DROPS 1)
    | none => done s
  else
    let p := s.rport rport
    match dropForwarded p.queue with
    | some (q, r) => done (((s.setRport rport { p with queue := r }).creditBack q).add RYL.FWD_DROPS 1)
    | none => done s

/-- RESERVED_CARAVAN_RECEIVED (R444). -/
def execReservedCaravanReceived (rport : Nat) (c : Caravan) (s : State) : Host.Outcome State Fault Refusal :=
  s.rxDone rport c id

/-! ### The election (R447, R448) -/

/-- ELECT_RECEIVED (R447, R448). -/
def execElectReceived (rport : Nat) (c : Caravan) (s : State) : Host.Outcome State Fault Refusal :=
  s.rxDone rport c fun t => match c.body with
    | .elect p u h =>
      let (bp, bu, bh) := t.bestNow
      let ignored : Bool := match t.ryl.ignore with
        | some (ip, iu, until_) => ip == p && iu == u && decide (t.elapsed < until_)
        | none => false
      if 255 < h || ignored || u = ownUnique then t
      else if keyBetter p u bp bu || (p = bp && u = bu && h < bh) then
        t.setBest (some { priority := p, unique := u, hops := h, port := rport })
      else t
    | _ => t

/-- ELDER_QUIET_EXPIRY (R447, R449, R452): the node becomes elder, takes its own ID by the rule of the grants, and its
generations start 65,536 higher. Log: 113 (DEDUCED), 118 (DEDUCED). -/
def execElderQuietExpiry (s : State) : Host.Outcome State Fault Refusal :=
  if s.rylUp && s.ryl.best.isNone && !s.is RYL.ELDER then
    let kept := s.ryl.roster.filter fun e => !s.ryl.reserved.any fun r => r.1 == e.unique
    let t := { s with ryl := { s.ryl with awaitElder := false, needSync := false, reports := s.ryl.roster,
                                          reserved := s.ryl.reserved ++ kept.map fun (e : RosterEnt) => (e.unique, e.id) } }
    let t := (t.wrAll [(RYL.ELDER, 1), (RYL.GEN, (t.rd RYL.GEN + 65536) % 2 ^ 32)]).add RYL.ELECTIONS 1
    let t := match t.grantOfId ownUnique t.preferredId with
      | some n => ((t.noteGrant ownUnique n).takeId n).wr RYL.ELDER_ID n
      | none => t
    done (t.setLeaf Lf.RYL.SELF_ELDER).rylReport
  else done s

/-- HEARTBEAT_TIMER (R448). -/
def execHeartbeatTimer (s : State) : Host.Outcome State Fault Refusal :=
  if s.rylUp && s.is RYL.ELDER then
    done (s.broadcast none { src := s.rd RYL.NODE_ID, body := .roster (s.rd RYL.GEN) [] [] }).rylReport
  else done s

/-- ELDER_LOST (R448). -/
def execElderLost (s : State) : Host.Outcome State Fault Refusal :=
  match s.ryl.best with
  | none => done s
  | some b =>
    if !s.rylUp then done s
    else
      let until_ := s.elapsed + 2 * s.rd RYL.LOST_N * s.rd RYL.HEARTBEAT_MS * 1000
      let t := { s with ryl := { s.ryl with ignore := some (b.priority, b.unique, until_) } }
      done ((t.setLeaf Lf.RYL.ELDER_LOST).setBest none).rylReport

/-! ### Joining (R449, R450) -/

/-- JOIN_REQ_RECEIVED (R449). -/
def execJoinReqReceived (rport : Nat) (c : Caravan) (s : State) : Host.Outcome State Fault Refusal :=
  s.rxDone rport c fun t => match c.body with
    | .joinReq unique pref path =>
      if t.is RYL.ELDER then
        if 255 ≤ path.length then t
        else match t.grantOfId unique pref with
          | some n => (t.noteGrant unique n).sendOn rport { body := .joinGrant unique n path }
          | none => t
      else
        let p := t.rd RYL.ELDER_PORT
        if p = 0 || c.hops = 0 || !t.is (RYL.UP.at (p - 1)) then t.add RYL.FWD_DROPS 1
        else (t.enqueue (p - 1) { c := { c with hops := c.hops - 1, body := .joinReq unique pref (path ++ [rport]) },
                                  since := t.elapsed }).add RYL.FORWARDED 1
    | _ => t

/-- JOIN_GRANT_RECEIVED (R449, R450). -/
def execJoinGrantReceived (rport : Nat) (c : Caravan) (s : State) : Host.Outcome State Fault Refusal :=
  s.rxDone rport c fun t => match c.body with
    | .joinGrant unique n path =>
      match path.getLast? with
      | some y =>
        if c.hops = 0 || !t.is (RYL.UP.at y) then t.add RYL.FWD_DROPS 1
        else (t.enqueue y { c := { c with hops := c.hops - 1, body := .joinGrant unique n path.dropLast }, since := t.elapsed }).add
          RYL.FORWARDED 1
      | none =>
        if unique ≠ ownUnique || t.is RYL.ELDER then t
        else
          let conflict := t.is RYL.ID_VALID && t.rd RYL.NODE_ID ≠ n
          let t := (t.takeId n).setLeaf Lf.RYL.NODE_ID_ASSIGNED
          let t := if conflict then (t.add RYL.ID_CONFLICTS 1).setLeaf Lf.RYL.ID_CONFLICT else t
          if t.ryl.needSync then t.sendElder { body := .syncReq } else t
    | _ => t

/-- JOIN_RETRY (R449). -/
def execJoinRetry (s : State) : Host.Outcome State Fault Refusal :=
  if s.rylUp && s.rd RYL.JOIN_STATE = 2 then done s.sendJoin.rylReport else done s

/-- ID_RESERVATION_EXPIRY (R449, R467). -/
def execIdReservationExpiry (id : Nat) (s : State) : Host.Outcome State Fault Refusal :=
  if s.is RYL.ELDER && !s.ryl.roster.any fun e => e.id == id then
    done { s with ryl := { s.ryl with reserved := s.ryl.reserved.filter fun r => r.2 ≠ id } }
  else done s

/-! ### The roster (R448, R451 to R453) -/

/-- NEIGH_RECEIVED (R451): the elder takes a report of a node that it gave its ID. -/
def execNeighReceived (rport : Nat) (c : Caravan) (s : State) : Host.Outcome State Fault Refusal :=
  s.rxDone rport c fun t => match c.body with
    | .neigh e =>
      if t.is RYL.ELDER && t.ryl.reserved.contains (e.unique, e.id) then
        { t with ryl := { t.ryl with reports := (t.ryl.reports.filter fun f => f.unique ≠ e.unique) ++ [e] } }
      else t
    | _ => t

/-- The first ROSTER of a new elder: ELDER_ELECTED, and the join toward it (R448 to R450). Log: 113 (DEDUCED). -/
def State.newElder (s : State) (src : Nat) : State :=
  if !s.ryl.awaitElder then s
  else
    let t := ({ s with ryl := { s.ryl with awaitElder := false } }).wr RYL.ELDER_ID src
    ((t.add RYL.ELECTIONS 1).setLeaf Lf.RYL.ELDER_ELECTED).sendJoin

/-- A ROSTER's content taken: a heartbeat, the next generation, or a reason to take the whole roster (R452, R58). -/
def State.takeRoster (s : State) (gen : Nat) (es : List RosterEnt) (gone : List Nat) : State :=
  let diff := (gen + 2 ^ 32 - s.rd RYL.GEN) % 2 ^ 32
  let sync := s.sendElder { body := .syncReq }
  if s.ryl.needSync then (if s.is RYL.ID_VALID then sync else s)
  else if diff = 2 ^ 31 then ({ s with ryl := { s.ryl with needSync := true } }.setLeaf Lf.RYL.GEN_AMBIGUOUS).sendElder { body := .syncReq }
  else if es = [] && gone = [] then (if diff = 0 then s else { sync with ryl := { sync.ryl with needSync := true } })
  else if diff = 1 then s.applyRoster gen (applyDelta s.ryl.roster es gone)
  else { sync with ryl := { sync.ryl with needSync := true } }

/-- ROSTER_RECEIVED (R448, R452): only on ELDER_PORT, and forwarded to every other up port. -/
def execRosterReceived (rport : Nat) (c : Caravan) (s : State) : Host.Outcome State Fault Refusal :=
  s.rxDone rport c fun t => match c.body with
    | .roster gen es gone =>
      if t.rd RYL.ELDER_PORT ≠ rport + 1 then t
      else
        let t := if c.hops = 0 then t else t.broadcast (some rport) { c with hops := c.hops - 1 }
        (t.newElder c.src).takeRoster gen es gone
    | _ => t

/-- Entries in caravans of at most 127, at least one caravan (R444). Log: 117 (DEDUCED). -/
def rosterChunks : Nat → List RosterEnt → List (List RosterEnt)
  | 0, es => [es]
  | n + 1, es => if es.length ≤ 127 then [es] else es.take 127 :: rosterChunks n (es.drop 127)

/-- SYNC_REQ_RECEIVED (R452): answered over the route to the requester, or over the link that it came by when there is none
yet. Log: 118 (DEDUCED). -/
def execSyncReqReceived (rport : Nat) (c : Caravan) (s : State) : Host.Outcome State Fault Refusal :=
  s.rxDone rport c fun t =>
    if !t.is RYL.ELDER then t
    else
      let parts := rosterChunks t.ryl.roster.length t.ryl.roster
      ((List.range parts.length).zip parts).foldl (fun (t : State) p =>
        let m : Caravan := { last := p.1 + 1 == parts.length, dst := c.src, body := .rosterFull (t.rd RYL.GEN) p.2 }
        match t.routeUp c.src with
        | some x => t.sendOn x m
        | none => t.sendOn rport m) t

/-- ROSTER_FULL_RECEIVED (R452). -/
def execRosterFullReceived (rport : Nat) (c : Caravan) (s : State) : Host.Outcome State Fault Refusal :=
  s.rxDone rport c fun t => match c.body with
    | .rosterFull gen es =>
      let all_ := t.ryl.full ++ es
      if !c.last then { t with ryl := { t.ryl with full := all_ } }
      else ({ t with ryl := { t.ryl with full := [], needSync := false } }).applyRoster gen all_
    | _ => t

/-- Commands whose node has no route any more (R458). -/
def State.pathless (s : State) : State :=
  (s.ryl.opens.filter fun o => (s.routeTo o.node).isNone).foldl (fun (t : State) o => match o.cmd with
    | some g => t.remoteFail g stPathFailed
    | none => t) s

/-- ROUTE_REBUILD_DONE (R453, R446, R464). -/
def execRouteRebuildDone (s : State) : Host.Outcome State Fault Refusal :=
  if !s.ryl.rebuilding then done s
  else
    let held := s.ryl.held
    let loss := s.ryl.lossPending
    let t := { s with ryl := { s.ryl with rebuilding := false, lossPending := false, held := [],
                                          routes := routesOf s.ryl.roster (s.rd RYL.NODE_ID) } }
    let t := held.foldl (fun (t : State) q =>
      if q.came.isSome then t.forward { q with c := { q.c with hops := q.c.hops + 1 } } else t.sendTo q.c.dst q.c) t
    done ((t.pathless.leafIf loss Lf.SYS.RECOVERY_DONE).rylReport)

/-! ### Remote namespaces (R455 to R458) -/

/-- Whether this node exports a local namespace (R457). -/
def State.exported (s : State) (ns : Nat) : Bool :=
  (ns == 1 && s.is RYL.EXPORT_DISC) || (0x10 ≤ ns && ns < 0x20 && bit (s.rd RYL.EXPORT_LIB) (ns - 0x10))

/-- The namespace that a carried entry reads from: a VERIFY's and a RIP's is its source. -/
def nsReqNs (entry : List Byte) : Nat :=
  let op := leAt entry 0 1
  if op = 0x13 || op = 0x18 then leAt entry 0x20 4 else leAt entry 0x0C 4

/-- NS_REQ_RECEIVED (R457, R466). -/
def execNsReqReceived (rport : Nat) (c : Caravan) (s : State) : Host.Outcome State Fault Refusal :=
  s.rxDone rport c fun t => match c.body with
    | .nsReq entry =>
      if t.is (Hdr.QUIESCE 0x13) then t.nsReply c.src c.tag c.epoch stPathFailed 0 0
      else if t.ryl.serves.any fun v => v.src == c.src && v.tag == c.tag && v.epoch == c.epoch then t
      else if !t.exported (t.localNs (nsReqNs entry)) then t.nsReply c.src c.tag c.epoch stInvalidNamespace 0 0
      else
        let k := t.ryl.nextServe
        let i := t.rd RYL.SERVE_SLICE
        let a : Accepted := { slice := i, qp := 8, index := k, place := t.que.nextPlace, at_ := t.elapsed }
        let v : Serve := { src := c.src, tag := c.tag, epoch := c.epoch, key := k, entry := entry }
        { t with ryl := { t.ryl with serves := t.ryl.serves ++ [v], nextServe := k + 1 }
                 que := { t.que with accepted := t.que.accepted ++ [a], nextPlace := t.que.nextPlace + 1,
                                     hadWork := t.que.hadWork || i != 0 } }.coreWork 3
    | _ => t

/-- NS_DATA_RECEIVED (R458, R467): data placed at the offset that PARAM names. -/
def execNsDataReceived (rport : Nat) (c : Caravan) (s : State) : Host.Outcome State Fault Refusal :=
  s.rxDone rport c fun t => match (t.openOf c).bind RylOpen.cmd, c.body with
    | some tag, .nsData data =>
      match t.cmd tag with
      | none => t.discardReply c false
      | some d =>
        let t := t.setCmd { d with remote := d.remote ++ [(16 * c.param, data)] }
        let t := if d.remotePlain && d.stage ≠ .ended then t.dataOut d (16 * c.param) (data.take (d.dlen - 16 * c.param)) else t
        t.remoteCheck tag
    | _, _ => t.discardReply c false

/-- NS_DONE_RECEIVED (R458): the exporter's status. -/
def execNsDoneReceived (rport : Nat) (c : Caravan) (s : State) : Host.Outcome State Fault Refusal :=
  s.rxDone rport c fun t => match t.openOf c, c.body with
    | some o, .nsDone specific residual status =>
      match o.cmd.bind t.cmd with
      | none => t.discardReply c true
      | some d =>
        let t := t.closeOpens (· == o) false
        (t.setCmd { d with remoteDone := some (specific, residual, status) }).remoteCheck d.tag
    | _, _ => t.discardReply c true

/-- PROGRESS_RECEIVED (R458): a caravan for the command, which keeps its timer from running out. -/
def execProgressReceived (rport : Nat) (c : Caravan) (s : State) : Host.Outcome State Fault Refusal :=
  s.rxDone rport c fun t => if (t.openOf c).isSome then t else t.discardReply c false

/-- EXPORTER_PROGRESS_TIMER (R457). -/
def execExporterProgressTimer (src tag : Nat) (s : State) : Host.Outcome State Fault Refusal :=
  match s.ryl.serves.find? fun v => v.src == src && v.tag == tag with
  | some v => if s.rylUp then done (s.sendTo src { tag := tag, epoch := v.epoch, body := .progress }) else done s
  | none => done s

/-- REMOTE_PROGRESS_TIMEOUT (R458, R94): the exporter is still in the roster. -/
def execRemoteProgressTimeout (tag : Nat) (s : State) : Host.Outcome State Fault Refusal :=
  if s.ryl.opens.any fun o => o.cmd == some tag && s.ryl.roster.any fun e => e.id == o.node then done (s.remoteFail tag stPathFailed)
  else done s

/-! ### Borrows served (R461, R466) -/

/-- A borrow of this drive's own disc: what is not held is read through the ladder up to BORROW_LEVEL (R461). -/
def State.borrowOwn (s : State) (b : BServe) : State :=
  let missing := (setBits 16 b.need).filter fun i =>
    (s.cachedAt 1 (s.discBlock (b.addr + i) b.layer)).isNone && (s.shadowNow b.layer (b.addr + i)).isNone
  let t := { s with ryl := { s.ryl with bserves := s.ryl.bserves ++ [b] } }
  let t := missing.foldl (fun t i => t.needSector (b.addr + i) b.layer (s.rd RYL.BORROW_LEVEL) 255 false) t
  let t := if missing = [] then t else t.discWork 3
  t.serveBorrowers

/-- A borrow of another disc: only the shadow holds its sectors (R461). -/
def State.borrowShadow (s : State) (ident : List Byte) (b : BServe) : State :=
  let (t, missing, sent) := (setBits 16 b.need).foldl (fun (acc : State × Nat × Bool) i =>
    let (t, m, any) := acc
    match t.shadowGet ident b.layer (b.addr + i) with
    | some x => (t.sendBorrow b i x.data, m, true)
    | none => (t, m ||| 2 ^ i, any)) (s, 0, false)
  let t := t.sendTo b.src { tag := b.tag, epoch := b.epoch, body := .borrowDone missing }
  if sent then (t.add RYL.BORROWS_SERVED 1).setLeaf Lf.RYL.BORROW_SERVED
  else (t.add RYL.BORROW_MISSES 1).setLeaf Lf.RYL.BORROW_MISS

/-- BORROW_REQ_RECEIVED (R461, R466). -/
def execBorrowReqReceived (rport : Nat) (c : Caravan) (s : State) : Host.Outcome State Fault Refusal :=
  s.rxDone rport c fun t => match c.body with
    | .borrowReq ident layer addr mask =>
      let b : BServe := { src := c.src, tag := c.tag, epoch := c.epoch, layer := layer, addr := addr, need := mask }
      if t.is (Hdr.QUIESCE 0x13) || !t.is RYL.BORROW_SERVE then
        t.sendTo c.src { tag := c.tag, epoch := c.epoch, body := .borrowDone mask }
      else if t.ryl.bserves.any fun v => v.src == c.src && v.tag == c.tag && v.epoch == c.epoch then t
      else if t.drv.discId = some ident then t.borrowOwn b
      else (t.coreWork 3).borrowShadow ident b
    | _ => t

end Sys2Proof.Machine
end

