-- ==== Sys2Proof/Machine/RegWrite.lean ====
section
/-! DEFINITION. Writing registers: a dword of BAR0 by Kind, with what each field's write starts, and a dword of a doorbell
page (R37 to R53, R318). -/

namespace Sys2Proof.Machine

/-! ### Values by Kind (R39, R44, R49) -/

/-- The bits of a dword that its byte enables let through. -/
def byteMask (be : Nat) : Nat := ofBits ((List.range 32).filter fun b => bit be (b / 8))

/-- A value with the bits of a mask taken from another. -/
def mergeBits (old mask v : Nat) : Nat := clearBits old mask ||| (v &&& mask)

/-- One field of an access: the field, its bits in enabled bytes, and the value written at its place. -/
structure FldWrite where
  f : Fld
  mask : Nat
  v : Nat
  deriving DecidableEq, Repr

/-- The bits of a field that are reserved in one member of its family: the PASID of slice 0 (R377) and bit 0 of each mask
of the grant table (R382). Log: 146 (DEDUCED). -/
def Fld.reservedBits (f : Fld) : Nat :=
  if f.page = 0x10 then
    if f.off = 0x800 && f.lsb = 0 then 2 ^ 20 - 1
    else if 0x200 ≤ f.off && f.off < 0x800 && (f.off % 32 = 4 || f.off % 32 = 12) then 1
    else 0
  else 0

/-- The fields that an access of a register reaches, in ascending order (R39, R52); reserved bits are ignored (R10). -/
def fldWrites (page off be val : Nat) : List FldWrite :=
  let m := byteMask be
  ((fieldsAt page off).map fun f =>
    ({ f := f, mask := clearBits (bits m f.lsb f.width) f.reservedBits, v := bits val f.lsb f.width } : FldWrite)).filter
    fun x => x.mask ≠ 0

/-- A value kept by a field that holds one. ENABLE, HOOK and the fields of PLAY_CTL act when they change; QUIESCE and GATE
are taken with the operations of their register. -/
def State.putField (s : State) (f : Fld) (v : Nat) : State :=
  if f.off = 0x014 then s.setEnable f.page v
  else if f.off = 0x020 then s.setHook f.page v
  else if f.off = 0x008 && f.lsb ≠ 3 then s
  else if f.key = AUD.PAUSE.key then s.setPause (v = 1)
  else if f.key = AUD.MUTE.key then s.setMute (v = 1)
  else if f.key = AUD.SRC.key then s.setSource (v = 1)
  else s.setTarget f v

/-- A clamp of one access: its field, what was written and what was kept. -/
structure ClampNote where
  f : Fld
  wrote : Nat
  kept : Nat
  deriving DecidableEq, Repr

/-- One field's value merged, clamped and stored; a W1C flag cleared where 1 is written (R39, R44, R49). -/
def State.storeField (s : State) (x : FldWrite) : State × List ClampNote :=
  match x.f.kind with
  | .ctl | .cnt | .shd =>
    let v := mergeBits (s.target x.f) x.mask x.v
    let k := s.keptOf s.hookValues x.f v
    (s.putField x.f k, [{ f := x.f, wrote := v, kept := k }])
  | .w1c => (s.wr x.f (clearBits (s.rd x.f) (x.v &&& x.mask)), [])
  | _ => (s, [])

/-- A dependent field brought to a legal value in the same update; a field that the access wrote keeps one note (R50, R52).
Log: 11 (DEDUCED). -/
def State.fitField (s : State) (notes : List ClampNote) (f : Fld) : State × List ClampNote :=
  let v := s.target f
  let k := s.keptOf s.hookValues f v
  if k = v then (s, notes)
  else if notes.any fun n => n.f.key == f.key then
    (s.setTarget f k, notes.map fun n => if n.f.key = f.key then { n with kept := k } else n)
  else (s.setTarget f k, notes ++ [{ f := f, wrote := v, kept := k }])

/-- The fields of an access stored, and their clamps recorded in ascending order of position (R49 to R52). Log: 11
(DEDUCED). -/
def State.storeFields (s : State) (source : Nat) (l : List FldWrite) : State :=
  let (t, notes) := l.foldl (fun (a : State × List ClampNote) x =>
    let (u, n) := a.1.storeField x
    (u, a.2 ++ n)) (s, [])
  let (t, notes) := (l.flatMap fun x => dependents x.f).foldl (fun (a : State × List ClampNote) f => a.1.fitField a.2 f) (t, notes)
  (sortBy (fun n : ClampNote => n.f.key) notes).foldl (fun (t : State) n => t.clamped source 0 n.f.page n.f.off n.f.lsb n.wrote n.kept) t

/-! ### What writes start -/

/-- PORT_EN written: ports disabled go down, ports enabled train (R440, R454). -/
def State.portsWritten (s : State) (old : Nat) : State :=
  if !s.rylUp then s
  else
    let new := s.rd RYL.PORT_EN
    ((List.range 3).foldl (fun (t : State) x =>
      if bit old x && !bit new x then t.linkDown x
      else if !bit old x && bit new x then t.train x else t) s).rylReport

/-- PRIORITY written: a node whose BEST is its own key has a new BEST, which it sends (R447). -/
def State.priorityWritten (s : State) (old : Nat) : State :=
  if s.rylUp && s.ryl.best == none && s.rd RYL.PRIORITY ≠ old then s.sendElect.rylReport else s

/-- PCIE_CTL.RETRAIN written 1 (R309); with the link down there is nothing to leave, and the bit clears. -/
def State.pcieRetrain (s : State) : State :=
  let t := (s.goWrite HPT.RETRAIN).1
  if s.is HPT.LINK_UP then t else t.goDone HPT.RETRAIN

/-- AVG ABORT written 1 (R251). -/
def State.avgAbortGo (s : State) : State := (s.avgAbort [Lf.AVG.ABORTED]).goDone AVG.ABORT

/-- LAT_CLR written 1 (R343). -/
def State.latClear (s : State) : State := (s.wr QUE.LAT_MAX_US 0).goDone QUE.LAT_CLR

/-- What a write of 1 to a GO bit, or a value fed to a KEY field, starts (R44, R45, R47); a block that is being reset or
gated starts nothing. `v` holds the bits written. Log: 12 (DEDUCED). -/
def State.startField (s : State) (f : Fld) (v : Nat) : State :=
  if f.off = 0x018 then s.force f.page v
  else if f.off = 0x008 then s.forcedReset f.page
  else if s.pageDown f.page then s
  else match f.page, f.off, f.lsb with
  | 0x00, _, _ => s.feedChipKey v
  | 0x02, 0x050, _ => (s.goWrite TIME.WATER_CLR).1
  | 0x02, _, _ => s.powerCmdGo
  | 0x03, 0x044, 8 => s.calAbortRun stCalFailed
  | 0x03, 0x044, _ => s.calRunGo
  | 0x03, _, _ => s.calRestoreGo
  | 0x04, 0x098, _ => s.ffClear .foc
  | 0x04, _, _ => s.hostJump
  | 0x05, 0x098, _ => s.ffClear .trk
  | 0x05, _, _ => s.wr TRK.POS 0
  | 0x06, 0x040, _ => s.seekGo
  | 0x06, 0x064, _ => s.homeGo
  | 0x06, _, _ => s.sledAbort
  | 0x08, _, _ => s.refCapture
  | 0x09, _, _ => s.eqLoad.goDone CHN.EQ_LOAD
  | 0x0C, _, 0 => (s.ergEmpty.setLeaf Lf.ERG.MAP_CLEARED).goDone ERG.CLEAR
  | 0x0C, _, 1 => s.ergSave.goDone ERG.SAVE
  | 0x0C, _, _ => s.ergScan
  | 0x0D, _, _ => s.avgAbortGo
  | 0x0E, _, 0 => s.tblClearCe
  | 0x0E, _, _ => s.tblClearUe
  | 0x0F, 0x058, 0 => s.qpCreate
  | 0x0F, 0x058, 1 => s.qpDelete
  | 0x0F, 0x058, _ => s.qpAbort
  | 0x0F, _, _ => s.latClear
  | 0x10, _, 0 => s.sliceAbortGo
  | 0x10, _, _ => s.sliceResetGo
  | 0x12, _, _ => s.rawGo
  | 0x13, _, b => if 4 ≤ b then s.portRetrain (b - 4) else s.portWake b
  | 0x15, _, 0 => s.recWrite
  | 0x15, _, _ => s.recFlushGo
  | 0x17, 0x040, _ => s.mirKey v
  | 0x17, _, _ => (s.mirLock false).goDone MIR.LOCK
  | 0x18, _, _ => s.pcieRetrain
  | 0x1A, _, 0 => s.loaderOpen
  | 0x1A, _, 1 => s.loaderClose
  | 0x1A, _, _ => s.loaderDetect
  | _, _, _ => s

/-- Bits of QUIESCE or DRAIN of the slices from `base` on that a write has set: the leaf of a slice that holds nothing
(R397). Log: 150 (DEDUCED). -/
def State.sliceWatch (s : State) (old new base : Nat) (held : State → Nat → Nat) (l : Leaf) : State :=
  s.leafIf ((List.range 32).any fun i => bit new i && !bit old i && held s (base + i) == 0) l

/-- What the write of a stored field does beside storing it; `old` is what the field held before the access. Log: 53
(DEDUCED), 142 (DEDUCED). -/
def State.storedField (s : State) (source old : Nat) (f : Fld) : State :=
  let v := s.target f
  if f.key = FOC.CLOSE.key then s.closeChanged .foc old v
  else if f.key = TRK.CLOSE.key then s.closeChanged .trk old v
  else if f.key = SPN.QUIET.key then s.speedCapWritten
  else if f.key = SPN.HOLD_STOP.key then s.stopChanged old v
  else if f.key = SPN.CAP_CD.key || f.key = SPN.CAP_DVD.key then s.speedCapWritten
  else if f.key = LPC.WAVE.key then s.waveChanged old v
  else if f.key = CHN.FORMAT.key then s.formatChange
  else if f.page = 0x09 && f.kind = .shd then (if s.rd CHN.STATE = 2 then s else s.levelCommit)
  else if f.key = MEM.HOST_PAGES.key then s.askHostPages source v
  else if f.key = SLC.QUIESCE_LO.key then s.sliceWatch old v 0 State.tagsHeld Lf.SLC.SLICE_QUIESCED
  else if f.key = SLC.QUIESCE_HI.key then s.sliceWatch old v 32 State.tagsHeld Lf.SLC.SLICE_QUIESCED
  else if f.key = SLC.DRAIN_LO.key then s.sliceWatch old v 0 State.backlog Lf.SLC.SLICE_DRAINED
  else if f.key = SLC.DRAIN_HI.key then s.sliceWatch old v 32 State.backlog Lf.SLC.SLICE_DRAINED
  else if f.key = RYL.PORT_EN.key then s.portsWritten old
  else if f.key = RYL.PRIORITY.key then s.priorityWritten old
  else if f.key = REC.FLUSH_AT.key then s.flushWhenFull
  else if f.key = TRC.RPTR.key then s.trcFreed
  else if f.key = HPT.QUAD_EN.key && old = 0 && v = 1 then { s with pci := { s.pci with quadSeen := false } }
  else s

/-- One field of an access taken further, once all fields are stored: `old` is the state before the access. -/
def State.afterField (s old : State) (source : Nat) (x : FldWrite) : State :=
  let one := x.v &&& x.mask
  match x.f.kind with
  | .go => if one = 0 then s else s.startField x.f one
  | .key => s.startField x.f one
  | .live => if x.f.page = 0x01 && 0x060 ≤ x.f.off then s.clearGroup (fun _ => true) ((x.f.off - 0x060) / 4) one else s
  | .ctl | .cnt | .shd =>
    if x.f.off = 0x008 then
      (if x.f.lsb = 0 then s.setQuiesce x.f.page (one = 1) else if x.f.lsb = 2 then s.setGate x.f.page (one = 1) else s)
    else s.storedField source (old.target x.f) x.f
  | _ => s

/-- RUN of the trace, and the leaf of a changed filter (R506). -/
def State.afterTrace (s old : State) (page off : Nat) (l : List FldWrite) : State :=
  if page ≠ 0x16 then s
  else
    let s := if s.is TRC.RUN && old.is TRC.RUN then s.noteFilter old else s
    if (l.any fun x => x.f.key == TRC.RUN.key) && off = 0x040 then
      let v := s.is TRC.RUN
      (s.wr TRC.RUN (old.rd TRC.RUN)).setRun v
    else s

/-- What follows all fields of an access: the idle timer (R100), a re-armed Mirage slot (R519), and the trace. -/
def State.afterAccess (s old : State) (page off : Nat) (l : List FldWrite) : State :=
  if l = [] then s
  else if page = 0x02 && 0x088 ≤ off && off ≤ 0x094 then s.idleWritten
  else if page = 0x17 && 0x100 ≤ off && off < 0x180 then s.mirArm ((off - 0x100) / 16)
  else s.afterTrace old page off l

/-- OPEN and CLOSE of the loader in one write: OPEN (R193). -/
def openWins (l : List FldWrite) : List FldWrite :=
  let one := fun (f : Fld) (x : FldWrite) => x.f.key == f.key && x.v &&& x.mask == 1
  if l.any (one LDR.OPEN) then l.filter fun x => !one LDR.CLOSE x else l

/-- The block registers of a page ignore writes: the page is gated, or its forced reset runs (R41). -/
def State.regsClosed (s : State) (page : Nat) : Bool := s.is (Hdr.GATED page) || s.pow.resetting.contains page

/-- A host write of one BAR0 register with its byte enables (R36, R37, R39, R41, R44, R49 to R52). -/
def State.writeReg (s : State) (port : HostPort) (page off be val : Nat) : State :=
  let l := fldWrites page off be val
  if !pageExists page || (0x40 ≤ off && s.regsClosed page) then s
  else
    let t := s.storeFields (portSource port) l
    let t := (openWins l).foldl (fun (t : State) x => t.afterField s (portSource port) x) t
    t.afterAccess s page off l

/-! ### Doorbell pages (R71, R318, R319) -/

/-- A write of one register of a slice's doorbell page. -/
def State.writeDoor (s : State) (port : HostPort) (sl off be val : Nat) : State :=
  let m := byteMask be
  let tail := fun (old : Nat) => mergeBits old (m % 1024) (val % 1024)
  if off < 0x040 then
    (if m % 1024 = 0 then s
     else if off % 8 = 0 then s.sqDoorbell port sl (off / 8) (tail (((s.pair sl (off / 8)).map QPair.sqTail).getD 0))
     else s.cqDoorbell port sl (off / 8) (tail (((s.pair sl (off / 8)).map QPair.cqHead).getD 0)))
  else if off = 0x040 then s.setNotice sl (clearBits (s.notice sl) (val &&& m))
  else if off = 0x044 then
    { s with que := { s.que with noticeEn := storeSet s.que.noticeEn sl 0xFF (mergeBits (s.noticeMask sl) (m % 256) (val % 256)) } }
  else if 0x0C0 ≤ off && off < 0x120 then s.clearRouted sl ((off - 0x0C0) / 4) (val &&& m)
  else s

end Sys2Proof.Machine
end

