-- ==== Sys2Proof/Machine/HostWrite.lean ====
section
/-! DEFINITION. The register writes of the hosts that are commands of their own (02_register_pages.md and the chapters that
own the registers). -/

namespace Sys2Proof.Machine

/-- A write of a block register over a port that serves it (R287, R304). -/
def State.hostWriteReg (s : State) (port : HostPort) (page off be value : Nat) : State :=
  if s.served port none then s.writeReg port page off be value else s

/-- BAR0_WRITE (R36, R39, R44, R318): pages 0 to 31 are those of BAR0, and page 32 + s is the doorbell page of slice s. -/
def execBar0Write (port : HostPort) (page off be value rid : Nat) (pasid : Option Nat) (s : State) :
    Host.Outcome State Fault Refusal :=
  if !s.served port pasid then done s
  else if page < 32 then done (s.writeReg port page off be value)
  else
    let (t, ok) := s.doorCheck port (page - 32) rid pasid
    done (if ok then t.writeDoor port (page - 32) off be value else t)

/-- ATN_SLICE_WRITE (R66, R69, R75). -/
def execAtnSliceWrite (port : HostPort) (page be value : Nat) (s : State) : Host.Outcome State Fault Refusal :=
  done (s.hostWriteReg port page 0x01C be value)

/-- PIN_CTL_WRITE (R62, R63). -/
def execPinCtlWrite (port : HostPort) (be value : Nat) (s : State) : Host.Outcome State Fault Refusal :=
  done (s.hostWriteReg port 0x01 0x044 be value)

/-- IDLE_TIMER_WRITE (R100). -/
def execIdleTimerWrite (port : HostPort) (off be value : Nat) (s : State) : Host.Outcome State Fault Refusal :=
  done (s.hostWriteReg port 0x02 off be value)

/-- FOC_CLOSE_WRITE (R146). -/
def execFocCloseWrite (port : HostPort) (be value : Nat) (s : State) : Host.Outcome State Fault Refusal :=
  done (s.hostWriteReg port 0x04 0x040 be value)

/-- TRK_CLOSE_WRITE (R146). -/
def execTrkCloseWrite (port : HostPort) (be value : Nat) (s : State) : Host.Outcome State Fault Refusal :=
  done (s.hostWriteReg port 0x05 0x040 be value)

/-- LPC_WAVE_WRITE (R148). -/
def execLpcWaveWrite (port : HostPort) (be value : Nat) (s : State) : Host.Outcome State Fault Refusal :=
  done (s.hostWriteReg port 0x08 0x040 be value)

/-- SPN_CTL_WRITE (R178, R183). -/
def execSpnCtlWrite (port : HostPort) (be value : Nat) (s : State) : Host.Outcome State Fault Refusal :=
  done (s.hostWriteReg port 0x07 0x040 be value)

/-- SPEED_CAP_WRITE (R175, R178). -/
def execSpeedCapWrite (port : HostPort) (be value : Nat) (s : State) : Host.Outcome State Fault Refusal :=
  done (s.hostWriteReg port 0x07 0x048 be value)

/-- ZONE_TABLE_WRITE (R174, R177). -/
def execZoneTableWrite (port : HostPort) (dvd : Bool) (k be value : Nat) (s : State) : Host.Outcome State Fault Refusal :=
  done (s.hostWriteReg port 0x07 ((if dvd then 0x140 else 0x100) + 4 * k) be value)

/-- HOST_PAGES_WRITE (R276). -/
def execHostPagesWrite (port : HostPort) (be value : Nat) (s : State) : Host.Outcome State Fault Refusal :=
  done (s.hostWriteReg port 0x0E MEM.HOST_PAGES.off be value)

/-- TRACE_RPTR_WRITE (R505). -/
def execTraceRptrWrite (port : HostPort) (be value : Nat) (s : State) : Host.Outcome State Fault Refusal :=
  done (s.hostWriteReg port 0x16 TRC.RPTR.off be value)

/-! ### Mirage (R515 to R521) -/

/-- MIR_KEY_WRITE (R47, R515). -/
def execMirKeyWrite (value : Nat) (s : State) : Host.Outcome State Fault Refusal :=
  if s.regsClosed 0x17 then done s else done (s.mirKey value)

/-- MIR_LOCK (R516). -/
def execMirLock (s : State) : Host.Outcome State Fault Refusal :=
  if s.regsClosed 0x17 then done s else done ((s.mirLock false).goDone MIR.LOCK)

/-- MIR_AUTO_LOCK (R516). -/
def execMirAutoLock (s : State) : Host.Outcome State Fault Refusal := done (s.mirLock true)

/-- MIR_HOOK_WRITE (R517, R518). -/
def execMirHookWrite (port : HostPort) (page be value : Nat) (s : State) : Host.Outcome State Fault Refusal :=
  done (s.hostWriteReg port page 0x020 be value)

/-- MIR_SLOT_WRITE (R519). -/
def execMirSlotWrite (port : HostPort) (off be value : Nat) (s : State) : Host.Outcome State Fault Refusal :=
  done (s.hostWriteReg port 0x17 off be value)

/-- MIR_BACKPRESS_WINDOW (R521). -/
def execMirBackpressWindow (page : Nat) (s : State) : Host.Outcome State Fault Refusal := done (s.mirWindow page)

end Sys2Proof.Machine
end

