-- ==== Sys2Proof/Machine/Pcie.lean ====
section
/-! DEFINITION. The PCIe endpoint: its link, its function's resets, configuration requests, what it receives beside
register and cache accesses, and the completions of its DMA reads (04_power_reset_states.md, 11_host_ports.md). -/

namespace Sys2Proof.Machine

/-! ### The function reset (R90, R294) -/

/-- The configuration space back at its reset values, with what the HPT page shows of it (R90, R308, R309). Log: 75
(PRESUMED), 81 (DEDUCED). -/
def State.cfgReset (s : State) : State :=
  let t := { s with pci := { ({} : Pci) with serBuf := s.pci.serBuf, spiSeen := s.pci.spiSeen, quadSeen := s.pci.quadSeen } }
  let t := t.wrAll [(HPT.BME, 0), (HPT.DSTATE, 0), (HPT.PASID_EN, 0), (HPT.OWN_ID, 0)]
  t.setLeaves ((if s.rd HPT.DSTATE = 0 then [] else [Lf.HPT.D0]) ++ (if s.is HPT.BME then [Lf.HPT.BME_OFF] else []))

/-- The effects of R90: queue pairs in host memory are deleted, and their commands end without completions. Log: 81
(DEDUCED). -/
def State.functionReset (s : State) : State :=
  let t := (s.deletePairs fun p => !p.loc).cfgReset
  { t with pow := { t.pow with funcReset := true } }

/-- The link down: no Deassert_INTA is sent, and RETRAIN clears (R63, R308, R309). Log: 82 (DEDUCED). -/
def State.linkLost (s : State) : State :=
  let t := s.wrAll [(HPT.LINK_UP, 0), (HPT.SPEED, 0), (HPT.WIDTH, 0)]
  (t.goDone HPT.RETRAIN).leafIf (s.is HPT.LINK_UP) Lf.HPT.LINK_DOWN

/-- PERST_ASSERT (R90, R116, R308). -/
def execPerstAssert (s : State) : Host.Outcome State Fault Refusal :=
  if s.pow.perst then done s
  else
    let t := { s with pow := { s.pow with perst := true } }
    if s.pow.phase = .off then done t
    else
      let t := t.wr TIME.RC_PERST 1
      done (if s.coreUp then (t.linkLost.setLeaf Lf.HPT.PERST).functionReset else t)

/-- PERST_DEASSERT (R90): training may start; the link comes up with PCIE_LINK_UP. -/
def execPerstDeassert (s : State) : Host.Outcome State Fault Refusal := done { s with pow := { s.pow with perst := false } }

/-- An FLR (R90, R116, R308). -/
def State.flr (s : State) : State := ((s.wr TIME.RC_FLR 1).setLeaf Lf.HPT.FLR).functionReset

/-- FUNCTION_LEVEL_RESET (R90). -/
def execFunctionLevelReset (s : State) : Host.Outcome State Fault Refusal :=
  if s.pow.phase = .run && s.is HPT.LINK_UP then done s.flr else done s

/-- HOT_RESET (R294). Log: 82 (DEDUCED). -/
def execHotReset (s : State) : Host.Outcome State Fault Refusal :=
  if s.coreUp && s.is HPT.LINK_UP then done s.functionReset else done s

/-- FUNCTION_RESET_DONE (R90, R294). -/
def execFunctionResetDone (s : State) : Host.Outcome State Fault Refusal :=
  if s.pow.funcReset then done (({ s with pow := { s.pow with funcReset := false } }).setLeaf Lf.SYS.FLR_DONE) else done s

/-! ### The link (R294, R308, R309) -/

/-- The rate that the link trains to: 5 GT/s when both ends support it and GEN_MAX is 2 (R294). -/
def State.linkRate (s : State) (both5 : Bool) : Nat := if both5 && s.rd HPT.GEN_MAX = 2 then 2 else 1

/-- The link in L0 at a rate (R308). -/
def State.linkAt (s : State) (rate : Nat) : State :=
  (s.wrAll [(HPT.LINK_UP, 1), (HPT.SPEED, rate), (HPT.WIDTH, 1)]).leafIf (rate = 1 && s.rd HPT.GEN_MAX = 2) Lf.HPT.GEN1_ONLY

/-- PCIE_LINK_UP (R90, R294, R308). -/
def execPcieLinkUp (both5 : Bool) (s : State) : Host.Outcome State Fault Refusal :=
  if s.coreUp && !s.pow.perst && !s.is HPT.LINK_UP then done ((s.linkAt (s.linkRate both5)).setLeaf Lf.HPT.LINK_UP) else done s

/-- PCIE_LINK_DOWN (R294, R307). -/
def execPcieLinkDown (s : State) : Host.Outcome State Fault Refusal :=
  if s.is HPT.LINK_UP then done s.linkLost.functionReset else done s

/-- PCIE_RETRAIN (R309). -/
def execPcieRetrain (s : State) : Host.Outcome State Fault Refusal := if s.coreUp then done s.pcieRetrain else done s

/-- PCIE_RETRAIN_DONE (R308, R309). -/
def execPcieRetrainDone (up both5 : Bool) (s : State) : Host.Outcome State Fault Refusal :=
  if !s.is HPT.LINK_UP then done s
  else if up then done (((s.linkAt (s.linkRate both5)).setLeaf Lf.HPT.RETRAIN).goEnd HPT.RETRAIN).1
  else done s.linkLost.functionReset

/-- RECEIVER_ERR (R308). Log: 76 (DESIGN CHOICE), 80 (DEDUCED). -/
def execReceiverErr (e : RxErr) (msg : Option Nat) (s : State) : Host.Outcome State Fault Refusal :=
  if !s.coreUp then done s
  else match e with
    | .receiver => done (((s.add HPT.RECEIVER_ERRS 1).setLeaf Lf.HPT.RECEIVER_ERR).sendErr msg)
    | .badTlp => done ((s.setLeaf Lf.HPT.BAD_TLP).sendErr msg)
    | .badDllp => done ((s.setLeaf Lf.HPT.BAD_DLLP).sendErr msg)
    | .malformed => done ((s.setLeaf Lf.HPT.MALFORMED).sendErr msg)

/-- PCIE_REPLAY_TIMEOUT (R308). Log: 76 (DESIGN CHOICE), 80 (DEDUCED). -/
def execPcieReplayTimeout (rollover : Bool) (msg : Option Nat) (s : State) : Host.Outcome State Fault Refusal :=
  if !s.coreUp then done s
  else
    let l := if rollover then Lf.HPT.REPLAY_ROLLOVER else Lf.HPT.REPLAY_TIMEOUT
    done (((s.add HPT.REPLAYS 1).setLeaf l).sendErr msg)

/-! ### Configuration requests (R285 to R287, R290) -/

/-- The low halves of the BARs: 64-bit memory; BAR4 is prefetchable (R285). -/
def State.barLow (s : State) : Nat → Nat
  | 0 => clearBits ((s.pci.bars[0]?).getD 0 % 2 ^ 32) 0x1FFFF + 0x4
  | 1 => clearBits ((s.pci.bars[1]?).getD 0 % 2 ^ 32) 0x3FFFF + 0x4
  | _ => clearBits ((s.pci.bars[2]?).getD 0 % 2 ^ 32) 0x7FFFFF + 0xC

/-- What a dword of configuration space holds: the bits that the spec fixes, as a mask, and their values. The places within
the structures that R285 and R286 name are those of the Base Specification. Log: 75 (PRESUMED). -/
def State.cfgDword (s : State) (off : Nat) : Nat × Nat :=
  let all := 0xFFFFFFFF
  match off with
  | 0x00 => (all, 0x07241C3A)
  | 0x04 => (0x00180407, 2 * b2n s.pci.memEn + 4 * s.rd HPT.BME + 0x400 * b2n s.pci.intDisable + 0x80000 * b2n s.intStatus + 0x100000)
  | 0x08 => (all, 0x01800000 + (if Config.revB then 2 else 1))
  | 0x0C => (0x00FF0000, 0)
  | 0x10 => (all, s.barLow 0)
  | 0x14 => (all, (s.pci.bars[0]?).getD 0 / 2 ^ 32)
  | 0x18 => (all, s.barLow 1)
  | 0x1C => (all, (s.pci.bars[1]?).getD 0 / 2 ^ 32)
  | 0x20 => (all, s.barLow 2)
  | 0x24 => (all, (s.pci.bars[2]?).getD 0 / 2 ^ 32)
  | 0x2C => (all, 0x07241C3A)
  | 0x34 => (0xFF, 0x40)
  | 0x3C => (0xFF00, 0x0100)
  | 0x40 => (0x0007FFFF, 0x00035001)
  | 0x44 => (0x3, s.rd HPT.DSTATE)
  | 0x50 => (0x00FFFFFF, 0x00020010)
  | 0x54 => (0x10000027, 0x10000021)
  | 0x58 => (0x0000F1E0, (if s.pci.mps = 256 then 0x20 else 0) + (if s.pci.extTag then 0x100 else 0) + (s.pci.mrrs / 128).log2 * 0x1000)
  | 0x5C => (0x00000FFF, 0x00000812)
  | 0x60 => (0x03FF0000, s.rd HPT.SPEED * 0x10000 + s.rd HPT.WIDTH * 0x100000)
  | 0x100 => (all, 0x14010001)
  | 0x140 => (all, 0x15010003)
  | 0x144 => (all, ownUnique % 2 ^ 32)
  | 0x148 => (all, ownUnique / 2 ^ 32)
  | 0x150 => (all, 0x0001001B)
  | 0x154 => (0x00011F06, 0x1400 + s.rd HPT.PASID_EN * 0x10000)
  | _ => (0, 0)

/-- A configuration read: bits that the spec does not give are open. Log: 75 (PRESUMED). -/
def State.cfgRead (s : State) (off : Nat) : State × Nat :=
  let (mask, v) := s.cfgDword off
  if mask = 0xFFFFFFFF then (s, v)
  else
    let (open32, t) := s.free (2 ^ 32)
    (t, mergeBits open32 mask v)

/-- One half of a BAR replaced: the bits that decode the address; the low bits say what the BAR is. Log: 75 (PRESUMED). -/
def State.setBar (s : State) (k : Nat) (high : Bool) (v : Nat) : State :=
  let old := (s.pci.bars[k]?).getD 0
  let size := if k = 0 then 0x1FFFF else if k = 1 then 0x3FFFF else 0x7FFFFF
  let new := if high then old % 2 ^ 32 + v * 2 ^ 32 else old / 2 ^ 32 * 2 ^ 32 + clearBits v size
  { s with pci := { s.pci with bars := setAt s.pci.bars k new } }

/-- The Command register written (R63, R290). Log: 75 (PRESUMED). -/
def State.setCommand (s : State) (v : Nat) : State :=
  let t := { s with pci := { s.pci with memEn := bit v 1, intDisable := bit v 10 } }
  let t := t.wr HPT.BME (bits v 2 1)
  (t.leafIf (s.is HPT.BME && !bit v 2) Lf.HPT.BME_OFF).sendReads

/-- The power state written: D0, or D3hot; the codes of D1 and D2 change nothing (R284, R308). Log: 75 (PRESUMED). -/
def State.setDstate (s : State) (v : Nat) : State :=
  if v = s.rd HPT.DSTATE || v = 1 || v = 2 then s
  else ((s.wr HPT.DSTATE v).setLeaf (if v = 3 then Lf.HPT.D3HOT else Lf.HPT.D0)).sendReads

/-- Device Control written: Max Payload Size of at most 256, Max Read Request Size, extended tags, and the FLR (R284). Log:
75 (PRESUMED). -/
def State.setDevCtl (s : State) (v : Nat) : State :=
  let t := { s with pci := { s.pci with mps := if bits v 5 3 = 0 then 128 else 256, mrrs := 128 * 2 ^ min 5 (bits v 12 3),
                                        extTag := bit v 8 } }
  if bit v 15 then t.flr else t.sendReads

/-- A dword of configuration space written, merged by its byte enables. Log: 75 (PRESUMED). -/
def State.cfgPut (s : State) (off v : Nat) : State :=
  match off with
  | 0x04 => s.setCommand v
  | 0x10 => s.setBar 0 false v
  | 0x14 => s.setBar 0 true v
  | 0x18 => s.setBar 1 false v
  | 0x1C => s.setBar 1 true v
  | 0x20 => s.setBar 2 false v
  | 0x24 => s.setBar 2 true v
  | 0x44 => s.setDstate (v % 4)
  | 0x58 => s.setDevCtl v
  | 0x154 => s.wr HPT.PASID_EN (bits v 16 1)
  | _ => s

/-- What HPT.CFG_CHANGED watches: the Command register, the BARs, and PASID Control (R308). -/
def State.cfgWatched (s : State) : Bool × Bool × Nat × List Nat × Nat :=
  (s.pci.memEn, s.pci.intDisable, s.rd HPT.BME, s.pci.bars, s.rd HPT.PASID_EN)

/-- A configuration write: OWN_ID takes the requester ID that the write carries to the function (R309). Log: 81 (DEDUCED). -/
def State.cfgWrite (s : State) (off be value ident : Nat) : State :=
  let old := (s.cfgDword off).2
  let t := (s.wr HPT.OWN_ID ident).cfgPut off (mergeBits old (byteMask be) value)
  (t.leafIf (off ≠ 0x58 && t.cfgWatched ≠ s.cfgWatched) Lf.HPT.CFG_CHANGED)

/-- CONFIG_REQUEST (R87, R285 to R287, R308, R309). -/
def execConfigRequest (r : CfgReq) (ident : Nat) (s : State) : Host.Outcome State Fault Refusal :=
  if !s.coreUp || !s.is HPT.LINK_UP then done s
  else if s.pow.phase ≠ .run then done (s.emit (.completion 2 [] false))
  else match r with
    | .read off =>
      let (t, v) := s.cfgRead off
      done (t.emit (.completion 0 (leBytes 4 v) false))
    | .write off be v => done ((s.emit (.completion 0 [] false)).cfgWrite off be v ident)

/-! ### Other requests (R287, R288) -/

/-- UNSUPPORTED_REQUEST (R287, R289). Log: 77 (DEDUCED). -/
def execUnsupportedRequest (posted : Bool) (hdr : List Nat) (s : State) : Host.Outcome State Fault Refusal :=
  if s.coreUp then done (s.answerUr posted hdr) else done s

/-- PCIE_MESSAGE (R287). -/
def execPcieMessage (m : PcieMsg) (hdr : List Nat) (s : State) : Host.Outcome State Fault Refusal :=
  if !s.coreUp then done s
  else match m with
    | .vendor0 => done (s.dropTlp hdr)
    | .pmeTurnOff => done (s.emit .pmeToAck)
    | _ => done s

/-! ### Completions to DMA reads (R291, R293) -/

/-- The bytes of the data buffer that a command asked for, which its residual counts when none of them came. Log: 84
(DEDUCED). -/
def Cmd.askedIn (c : Cmd) : Nat :=
  if c.isMmc then (if c.cdbOp = 0x55 then beAt c.cdb 7 2 else 0) else if c.opcode = 0x11 then c.count * 2048 else 0

/-- The outstanding read that a PCIe tag names, taken out. -/
def State.takeRead (s : State) (ptag : Nat) : State × Option DmaRead :=
  match s.pci.reads.find? fun r => r.ptag == ptag with
  | some r => ({ s with pci := { s.pci with reads := s.pci.reads.filter fun x => x.ptag ≠ ptag } }, some r)
  | none => (s, none)

/-- A DMA read of command data fails (R293): the command ends with the host-memory status. Log: 84 (DEDUCED). -/
def State.readFails (s : State) (r : DmaRead) : State :=
  let off := fun (x : DmaRead) => if x.ctag == r.ctag then { x with ctag := noTag } else x
  let t := { s with pci := { s.pci with reads := s.pci.reads.map off } }
  match t.cmd r.ctag with
  | none => t.sendReads
  | some c => (((t.withdraw c.tag).finishFull c.tag stHostMemory 0 c.askedIn none).setLeaf Lf.QUE.DMA_ERR).sendReads

/-- The data that all reads of a command brought, in order. -/
def joinGot (l : List (Nat × List Byte)) : List Byte := (sortBy Prod.fst l).flatMap Prod.snd

/-- Data of one read delivered; with the last of them the command has its data. Log: 74 (DESIGN CHOICE). -/
def State.readArrives (s : State) (r : DmaRead) (data : List Byte) : State :=
  match s.cmd r.ctag with
  | none => s.sendReads
  | some c =>
    let got := c.dmaGot ++ [(r.off, padTo r.len data)]
    let more := s.pci.reads.any (fun x => x.ctag == c.tag) || s.pci.readQ.any fun x => x.ctag == c.tag
    let c := if more then { c with dmaGot := got } else { c with dmaGot := [], dmaRead := false, dataIn := some (joinGot got) }
    (s.setCmd c).sendReads

/-- DMA_READ_COMPLETION (R288, R293, R308): status 0 is Successful Completion, 1 Unsupported Request, 4 Completer Abort.
Log: 74 (DESIGN CHOICE). -/
def execDmaReadCompletion (ptag status : Nat) (data : List Byte) (poison : Bool) (s : State) : Host.Outcome State Fault Refusal :=
  let t := if poison then s.notePoison else s
  match t.takeRead ptag with
  | (t, none) => done (t.setLeaf Lf.HPT.CPL_UNEXPECTED)
  | (t, some r) =>
    if status = 0 && !poison then done (t.readArrives r data)
    else done ((t.leafIf (status = 1) Lf.HPT.UR_RECEIVED).readFails r)

/-- COMPLETION_TIMEOUT (R293, R308): of the read with a PCIe tag, or of an entry's fetch, which ENTRY_FETCH then fails. -/
def execCompletionTimeout (ptag : Option Nat) (s : State) : Host.Outcome State Fault Refusal :=
  let note := fun (t : State) => (t.add HPT.CPL_TIMEOUTS 1).setLeaf Lf.HPT.CPL_TIMEOUT
  match ptag with
  | none => done (note s)
  | some g => match s.takeRead g with
    | (t, some r) => done ((note t).readFails r)
    | (t, none) => done t

/-- POISONED_TLP (R261, R277, R288, R293). -/
def execPoisonedTlp (p : PoisonTlp) (s : State) : Host.Outcome State Fault Refusal :=
  if !s.coreUp then done s
  else match p with
    | .bar02 hdr => done (s.notePoison.dropTlp hdr)
    | .completion none => done s.notePoison
    | .completion (some g) => match s.notePoison.takeRead g with
      | (t, some r) => done (t.readFails r)
      | (t, none) => done (t.setLeaf Lf.HPT.CPL_UNEXPECTED)
    | .bar4 off data en =>
      let t := s.notePoison
      if s.rd HPT.DSTATE ≠ 0 || s.pageDown 0x0E || !s.windowOpen then done t
      else
        let zeroed := (List.range data.length).map fun k => if (en[k]?).getD true then (data[k]?).getD 0 else 0
        done (((wordsOf off data.length).filter fun w => s.windowLands (8 * w)).foldl (fun (t : State) w =>
          t.putWord w (mergeBytes [0, 0, 0, 0, 0, 0, 0, 0] (bytesInWord off zeroed [] w)) 0xFF) t)

end Sys2Proof.Machine
end

