-- ==== Sys2Proof/Machine/Serial.lean ====
section
/-! DEFINITION. The serial host port: its transactions, its tokens, its write buffer and its result register
(11_host_ports.md, R295 to R306). -/

namespace Sys2Proof.Machine

/-! ### Codes and addresses (R297, R298) -/

def tokReady : Nat := 0x5A
def tokWait : Nat := 0xF0
def tokUncorrectable : Nat := 0xE1
def tokBlockReset : Nat := 0xE2
def tokWaitLimit : Nat := 0xE3
def tokFraming : Nat := 0xE4
def tokOverrun : Nat := 0xE5
def tokBadOpcode : Nat := 0xE6

/-- What lies at a serial address. -/
inductive SerTarget where
  | bar0 (page off : Nat)
  | door (off : Nat)
  | window (off : Nat)
  | nothing
  deriving DecidableEq, Repr

/-- The serial address map; register addresses are taken dword aligned (R297, R299, R300). -/
def serTarget (a : Nat) : SerTarget :=
  if a < 0x20000 then .bar0 (a / 4096) (a % 4096 - a % 4)
  else if a < 0x21000 then .door (a % 4096 - a % 4)
  else if 0x01000000 ≤ a && a < 0x01800000 then .window (a - 0x01000000)
  else .nothing

/-- One byte as it is sent. Log: 79 (DEDUCED). -/
def tokByte (n : Nat) : Byte := BitVec.ofNat 8 n

/-! ### The result register and the error codes (R301, R302, R309) -/

/-- The result register without a new error: an error code stays; else WAIT while an access is unapplied, else READY. -/
def State.serResult (s : State) : State :=
  let r := s.rd HPT.RESULT
  if r = tokReady || r = tokWait then s.wr HPT.RESULT (if s.pci.serBuf = [] then tokReady else tokWait) else s

/-- An error code recorded (R301). -/
def State.serRecord (s : State) (code : Nat) : State :=
  let r := s.rd HPT.RESULT
  let t := s.wr HPT.LAST_ERR code
  if r = tokReady || r = tokWait then t.wr HPT.RESULT code else t

/-- An error code sent, as a token or in STATUS (R302). Log: 80 (DEDUCED). -/
def State.serSent (s : State) (code : Nat) : State :=
  ((s.wr HPT.LAST_ERR code).add HPT.ERR_BYTES 1).setLeaf Lf.HPT.SPI_ERR_BYTE

/-- BAD_OPCODE or FRAMING recorded (R308). -/
def State.serCmdErr (s : State) (code : Nat) : State := (s.serRecord code).setLeaf Lf.HPT.SPI_CMD_ERR

/-- A transaction begins (R308, R309). -/
def State.serBegin (s : State) (mode3 quad : Bool) : State :=
  let run := s.pow.phase == .run
  let first := run && !s.pci.spiSeen
  let on := run && quad && s.is HPT.QUAD_EN && !s.pci.quadSeen
  let t := { s with pci := { s.pci with spiSeen := s.pci.spiSeen || run, quadSeen := s.pci.quadSeen || on } }
  let t := (t.wrAll [(HPT.MODE3, b2n mode3), (HPT.QUAD, b2n quad)]).add HPT.TRANSACTIONS 1
  t.setLeaves ((if first then [Lf.HPT.SPI_ACTIVE] else []) ++ (if on then [Lf.HPT.SPI_QUAD_ON] else []))

/-- The port is powered (R97, R304). -/
def State.serUp (s : State) : Bool := s.pow.phase == .boot || s.pow.phase == .run

/-! ### Accesses (R299 to R301, R304) -/

/-- An access to the window has to wait: the engines are not released, or MEM is quiesced (R279, R304). Log: 72 (DESIGN
CHOICE). -/
def State.serWaits (s : State) (window : Bool) : Bool :=
  s.pow.phase != .run || (window && !s.pageDown 0x0E && s.is (Hdr.QUIESCE 0x0E))

/-- A dword read over the port, or the error token that it gets (R277, R280, R298). Log: 83 (DEDUCED). -/
def State.serRead (s : State) (a : Nat) : State × (Nat ⊕ List Byte) :=
  match serTarget a with
  | .bar0 page off =>
    let (t, v) := s.readReg page off
    (t, .inr (leBytes 4 v))
  | .door off => (s, .inr (leBytes 4 (s.doorWord 0 off)))
  | .window off =>
    if s.pageDown 0x0E then (s, .inl tokBlockReset)
    else match (s.mirStage 0x0E).windowRead 1 off 4 with
      | (t, some l) => (t, .inr l)
      | (t, none) => (t.setLeaf Lf.SYS.RECOVERY_DONE, .inl tokUncorrectable)
  | .nothing => (s, .inr [0, 0, 0, 0])

/-- Whether an address lies in the cache window. -/
def inWindow (a : Nat) : Bool := 0x01000000 ≤ a && a < 0x01800000

/-- The tokens and dwords of a read: before dword `i` stand the WAIT tokens that `waits` gives it (R299). Log: 79
(DEDUCED). -/
def State.serReads (s : State) (a : Nat) : Nat → List Nat → List Byte → State × List Byte
  | 0, _, out => (s, out)
  | n + 1, waits, out =>
    let limit := s.rd HPT.WAIT_MAX
    let w := waits.headD 0
    let held := out ++ List.replicate (min w limit) (tokByte tokWait)
    if limit ≤ w then
      ((s.serSent tokWaitLimit).setLeaf Lf.HPT.SPI_WAIT_LONG, held ++ [tokByte tokWaitLimit])
    else if s.serWaits (inWindow a) then (s, held)
    else match s.serRead a with
      | (t, .inl code) => (t.serSent code, held ++ [tokByte code])
      | (t, .inr data) => t.serReads ((a + 4) % 2 ^ 32) n waits.tail (held ++ [tokByte tokReady] ++ data)

/-- The accesses that a write's bytes make, and whether a partial dword was left over (R300). -/
def serGather : Nat → Nat → List Byte → List SerAcc × Bool
  | 0, _, _ => ([], false)
  | fuel + 1, a, l =>
    if l = [] then ([], false)
    else if inWindow a then
      let n := min l.length (8 - a % 8)
      let (r, f) := serGather fuel ((a + n) % 2 ^ 32) (l.drop n)
      (.window (a - 0x01000000) (l.take n) :: r, f)
    else if a < 0x21000 then
      let b := a - a % 4
      if l.length < 4 then ([], true)
      else
        let (r, f) := serGather fuel (b + 4) (l.drop 4)
        (.reg b (leAt l 0 4) :: r, f)
    else serGather fuel ((a + 1) % 2 ^ 32) (l.drop 1)

/-- The bytes that an access takes in the write buffer. -/
def SerAcc.size : SerAcc → Nat
  | .reg .. => 4
  | .window _ data => data.length

/-- Whether an access is one to the cache window. -/
def SerAcc.isWindow : SerAcc → Bool
  | .reg .. => false
  | .window .. => true

/-- An access applied; one that fails records its code (R39, R268, R280, R301). -/
def State.serApply (s : State) (x : SerAcc) : State :=
  match x with
  | .reg a v => match serTarget a with
    | .bar0 page off => s.writeReg .serial page off 15 v
    | .door off => s.writeDoor .serial 0 off 15 v
    | _ => s
  | .window off data =>
    if s.pageDown 0x0E then s.serRecord tokBlockReset
    else match (s.mirStage 0x0E).windowWrite 1 off data [] with
      | (t, true) => t
      | (t, false) => (t.serRecord tokUncorrectable).setLeaf Lf.SYS.RECOVERY_DONE

/-- Bytes in the write buffer. -/
def State.serUsed (s : State) : Nat := (s.pci.serBuf.map SerAcc.size).sum

/-- One access of a transaction: applied, or buffered behind what waits. `full` once bytes have been discarded (R301). -/
def State.serTake (s : State) (full : Bool) (x : SerAcc) : State × Bool :=
  let push := fun (y : SerAcc) => { s with pci := { s.pci with serBuf := s.pci.serBuf ++ [y] } }
  if full then (s, true)
  else if s.pci.serBuf = [] && !s.serWaits x.isWindow then (s.serApply x, false)
  else
    let room := 64 - s.serUsed
    if x.size ≤ room then (push x, false)
    else match x with
      | .window off data => (if room = 0 then s else push (.window off (data.take room)), true)
      | .reg .. => (s, true)

/-- The bytes of a write transaction (R300, R301). Log: 80 (DEDUCED). -/
def State.serWrites (s : State) (a : Nat) (data : List Byte) : State :=
  let (l, partialLeft) := serGather data.length a data
  let (t, full) := l.foldl (fun (acc : State × Bool) x => acc.1.serTake acc.2 x) (s, false)
  let t := if full then ((t.serRecord tokOverrun).add HPT.OVERRUNS 1).setLeaf Lf.HPT.SPI_OVERRUN else t
  (if partialLeft then t.serCmdErr tokFraming else t).serResult

/-! ### Transactions -/

/-- A transaction whose opcode the port knows: quad ones need QUAD_EN (R296). Log: 80 (DEDUCED). -/
def State.serTransaction (s : State) (mode3 quad : Bool) (body : State → State) : State :=
  if !s.serUp then s
  else if quad && !s.is HPT.QUAD_EN then (s.serBegin mode3 false).serCmdErr tokBadOpcode
  else body (s.serBegin mode3 quad)

/-- A read's transaction. -/
def State.serReadAll (s : State) (a n : Nat) (waits : List Nat) : State :=
  let (t, out) := s.serReads a n waits []
  t.emit (.serial out)

/-- SERIAL_READ (R299). -/
def execSerialRead (mode3 : Bool) (addr n : Nat) (waits : List Nat) (s : State) : Host.Outcome State Fault Refusal :=
  done (s.serTransaction mode3 false fun t => t.serReadAll addr n waits)

/-- SERIAL_QREAD (R296, R299). -/
def execSerialQread (mode3 : Bool) (addr n : Nat) (waits : List Nat) (s : State) : Host.Outcome State Fault Refusal :=
  done (s.serTransaction mode3 true fun t => t.serReadAll addr n waits)

/-- SERIAL_WRITE (R300, R301). -/
def execSerialWrite (mode3 : Bool) (addr : Nat) (data : List Byte) (s : State) : Host.Outcome State Fault Refusal :=
  done (s.serTransaction mode3 false fun t => t.serWrites addr data)

/-- SERIAL_QWRITE (R296, R300, R301). -/
def execSerialQwrite (mode3 : Bool) (addr : Nat) (data : List Byte) (s : State) : Host.Outcome State Fault Refusal :=
  done (s.serTransaction mode3 true fun t => t.serWrites addr data)

/-- The two bytes of STATUS, and the result register after byte 1 was read (R302). Log: 78 (DEDUCED). -/
def State.serStatus (s : State) : State :=
  let r := s.rd HPT.RESULT
  let b := 128 * b2n (s.pow.phase == .run) + 64 * b2n (s.pci.serBuf != []) + 32 * b2n s.pinCond
  let t := s.emit (.serial [tokByte b, tokByte r])
  if r = tokReady || r = tokWait then t
  else ((t.serSent r).wr HPT.RESULT tokReady).serResult

/-- SERIAL_STATUS (R302). -/
def execSerialStatus (mode3 : Bool) (s : State) : Host.Outcome State Fault Refusal :=
  done (s.serTransaction mode3 false State.serStatus)

/-- SERIAL_BAD_OPCODE (R296): an opcode that the table of R296 does not list, or a quad one while QUAD_EN is 0. -/
def execSerialBadOpcode (mode3 : Bool) (op : Nat) (s : State) : Host.Outcome State Fault Refusal :=
  let known := op = 0x0B || op = 0x02 || op = 0x05 || ((op = 0x3B || op = 0x32) && s.is HPT.QUAD_EN)
  if known then done s else done (s.serTransaction mode3 false fun t => t.serCmdErr tokBadOpcode)

/-- SERIAL_CS_ABORT (R303): what was complete before the cut byte still acts. -/
def execSerialCsAbort (mode3 quad : Bool) (cut : SerialCut) (s : State) : Host.Outcome State Fault Refusal :=
  let aborted := fun (t : State) => (t.add HPT.ABORTS 1).setLeaf Lf.HPT.SPI_ABORT
  if !s.serUp then done s
  else match cut with
    | .opcode => done (aborted (s.serBegin mode3 false))
    | .read a n => done (aborted (s.serTransaction mode3 quad fun t => t.serReadAll a n []))
    | .write a data => done (aborted (s.serTransaction mode3 quad fun t => t.serWrites a data))

/-- SERIAL_WAIT_LIMIT (R299): the access is not performed. -/
def execSerialWaitLimit (mode3 quad : Bool) (addr : Nat) (s : State) : Host.Outcome State Fault Refusal :=
  done (s.serTransaction mode3 quad fun t => t.serReadAll addr 1 [t.rd HPT.WAIT_MAX])

/-- SERIAL_BUFFERED_APPLY (R301). -/
def execSerialBufferedApply (s : State) : Host.Outcome State Fault Refusal :=
  match s.pci.serBuf with
  | [] => done s
  | x :: rest =>
    if s.serWaits x.isWindow then done s
    else done (({ s with pci := { s.pci with serBuf := rest } }).serApply x).serResult

end Sys2Proof.Machine
end

