-- ==== Sys2Proof/Machine/Tap.lean ====
section
/-! DEFINITION. The test access port and TESTEN (20_pins_electrical.md). -/

namespace Sys2Proof.Machine

/-- IDCODE (R547): 0x0072474B on revision A, 0x1072474B on revision B. -/
def idcode : Nat := (if Config.revB then 2 ^ 28 else 0) + 0x0724 * 2 ^ 12 + 0x3A5 * 2 + 1

/-- A number's lowest bits, the least significant one first. -/
def bitList (n v : Nat) : List Bool := (List.range n).map (bit v)

/-- A scan of a register whose first bit lies next to TDO: the bits that leave it, and what it holds afterwards. Log: 135
(DESIGN CHOICE). -/
def scan (reg tdi : List Bool) : List Bool × List Bool := ((reg ++ tdi).take tdi.length, (reg ++ tdi).drop tdi.length)

/-- What the digital pins carry. -/
inductive PinDrive where
  /-- the part's own signals -/
  | system
  /-- the boundary register's latch -/
  | boundary (cells : List Bool)
  /-- high impedance -/
  | highZ
  deriving DecidableEq, Repr

/-- What drives the pins: the disturbing codes act only while TESTEN is high (R549). -/
def State.pinDrive (s : State) : PinDrive :=
  if !s.pow.testen || !s.tap.active then .system
  else match s.tap.instr with
    | 0 => .boundary s.tap.latch
    | 4 => .boundary s.tap.latch
    | 5 => .highZ
    | _ => .system

/-- The TAP leaves Test-Logic-Reset; SYS.JTAG_ACTIVE sets while TESTEN is low (R550). Log: 135 (DESIGN CHOICE). -/
def State.tapLeave (s : State) : State :=
  if s.tap.active then s
  else ({ s with tap := { s.tap with active := true } }).leafIf (!s.pow.testen && s.coreUp) Lf.SYS.JTAG_ACTIVE

/-- An instruction taken, and a scan of the register that it selects. Log: 135 (DESIGN CHOICE). -/
def State.tapScan (s : State) (code : Nat) (reg tdi : List Bool) (boundary : Bool) : State :=
  let t := s.tapLeave
  let (out, left) := scan reg tdi
  let t := { t with tap := { t.tap with instr := code, latch := if boundary then left else t.tap.latch } }
  t.emit (.tap out)

/-- A scan through the bypass register, which holds a 0 at first. -/
def State.tapBypass (s : State) (code : Nat) (tdi : List Bool) : State := s.tapScan code [false] tdi false

/-- EXTEST (R547, R549): while TESTEN is low it acts as BYPASS. Log: 135 (DESIGN CHOICE). -/
def execExtest (pins tdi : List Bool) (s : State) : Host.Outcome State Fault Refusal :=
  if s.pow.phase = .off then done s
  else if s.pow.testen then done (s.tapScan 0 pins tdi true)
  else done (s.tapBypass 0 tdi)

/-- SAMPLE/PRELOAD (R547, R549): the pins are observed and the latch is loaded, and nothing changes at the pins. -/
def execSamplePreload (pins tdi : List Bool) (s : State) : Host.Outcome State Fault Refusal :=
  if s.pow.phase = .off then done s else done (s.tapScan 1 pins tdi true)

/-- IDCODE (R547). -/
def execIdcode (tdi : List Bool) (s : State) : Host.Outcome State Fault Refusal :=
  if s.pow.phase = .off then done s else done (s.tapScan 2 (bitList 32 idcode) tdi false)

/-- CLAMP (R547, R549). -/
def execClamp (tdi : List Bool) (s : State) : Host.Outcome State Fault Refusal :=
  if s.pow.phase = .off then done s else done (s.tapBypass 4 tdi)

/-- HIGHZ (R547, R549). -/
def execHighz (tdi : List Bool) (s : State) : Host.Outcome State Fault Refusal :=
  if s.pow.phase = .off then done s else done (s.tapBypass 5 tdi)

/-- BYPASS (R547): its own code, and every code that names no instruction. -/
def execBypass (code : Nat) (tdi : List Bool) (s : State) : Host.Outcome State Fault Refusal :=
  if s.pow.phase = .off then done s else done (s.tapBypass code tdi)

/-- TAP_LEAVE_RESET (R550). -/
def execTapLeaveReset (s : State) : Host.Outcome State Fault Refusal :=
  if s.pow.phase = .off then done s else done s.tapLeave

/-- TAP_RESET (R547): TRST_N low. -/
def execTapReset (s : State) : Host.Outcome State Fault Refusal :=
  done { s with tap := { s.tap with active := false, instr := 2 } }

/-- TESTEN_RISE (R549): the main domains are held in reset, as by a brownout. Log: 136 (DEDUCED). -/
def execTestenRise (s : State) : Host.Outcome State Fault Refusal :=
  let t := { s with pow := { s.pow with testen := true } }
  if s.pow.testen || s.pow.phase = .off || s.pow.phase = .standby then done t
  else
    let t := { t with pow := { t.pow with exit := none } }
    done ((t.loseMain .held .brownout).wr TIME.RC_BROWNOUT 1)

/-- TESTEN_FALL (R549): the device boots as after a brownout once the rails are good. Log: 136 (DEDUCED). -/
def execTestenFall (s : State) : Host.Outcome State Fault Refusal :=
  done { s with pow := { s.pow with testen := false } }

end Sys2Proof.Machine
end

