-- ==== Sys2Proof/Machine/Dispatch.lean ====
section
/-! DEFINITION. Which meaning each command has. -/

namespace Sys2Proof.Machine

/-- The effect of one command on everything but the queue. -/
def exec (i : Instr) (s : State) : Host.Outcome State Fault Refusal :=
  match i with
  | .stageWindowEnd c0 c1 c2 laps mclk => Sys2Proof.Machine.execStageWindowEnd c0 c1 c2 laps mclk s
  | .refclkStop => Sys2Proof.Machine.execRefclkStop s
  | .dllLockAcquired => Sys2Proof.Machine.execDllLockAcquired s
  | .dllUnlock => Sys2Proof.Machine.execDllUnlock s
  | .servoUpdate loop late => Sys2Proof.Machine.execServoUpdate loop late s
  | .waterClr => Sys2Proof.Machine.execWaterClr s
  | .waterClrDone => Sys2Proof.Machine.execWaterClrDone s
  | .nowLoRead port => Sys2Proof.Machine.execNowLoRead port s
  | .opSecondsTick => Sys2Proof.Machine.execOpSecondsTick s
  | .bar0Write port page off be value rid pasid => Sys2Proof.Machine.execBar0Write port page off be value rid pasid s
  | .chipResetKey port value => Sys2Proof.Machine.execChipResetKey port value s
  | .quiesceWrite page v => Sys2Proof.Machine.execQuiesceWrite page v s
  | .blockDrained page => Sys2Proof.Machine.execBlockDrained page s
  | .forcedBlockReset page => Sys2Proof.Machine.execForcedBlockReset page s
  | .forcedResetEnd page => Sys2Proof.Machine.execForcedResetEnd page s
  | .blockGate page => Sys2Proof.Machine.execBlockGate page s
  | .blockGated page => Sys2Proof.Machine.execBlockGated page s
  | .blockUngate page => Sys2Proof.Machine.execBlockUngate page s
  | .ungateDone page => Sys2Proof.Machine.execUngateDone page s
  | .gateFaultTimeout page => Sys2Proof.Machine.execGateFaultTimeout page s
  | .shdHoldWrite page v => Sys2Proof.Machine.execShdHoldWrite page v s
  | .internalReplyArrival page tag reqEpoch repEpoch => Sys2Proof.Machine.execInternalReplyArrival page tag reqEpoch repEpoch s
  | .quarantineExpiry tag => Sys2Proof.Machine.execQuarantineExpiry tag s
  | .atnForceWrite page value => Sys2Proof.Machine.execAtnForceWrite page value s
  | .grpPendClear group value => Sys2Proof.Machine.execGrpPendClear group value s
  | .routedClear slice group value => Sys2Proof.Machine.execRoutedClear slice group value s
  | .atnSliceWrite port page be value => Sys2Proof.Machine.execAtnSliceWrite port page be value s
  | .pinCtlWrite port be value => Sys2Proof.Machine.execPinCtlWrite port be value s
  | .summaryRead port => Sys2Proof.Machine.execSummaryRead port s
  | .powerOnReset => Sys2Proof.Machine.execPowerOnReset s
  | .stbyPowerLoss => Sys2Proof.Machine.execStbyPowerLoss s
  | .railLow rail => Sys2Proof.Machine.execRailLow rail s
  | .railGood rail => Sys2Proof.Machine.execRailGood rail s
  | .brownout => Sys2Proof.Machine.execBrownout s
  | .coreResetRelease fuseErr => Sys2Proof.Machine.execCoreResetRelease fuseErr s
  | .sramZeroFillDone upsets => Sys2Proof.Machine.execSramZeroFillDone upsets s
  | .engineRelease ce0 ce1 => Sys2Proof.Machine.execEngineRelease ce0 ce1 s
  | .perstAssert => Sys2Proof.Machine.execPerstAssert s
  | .perstDeassert => Sys2Proof.Machine.execPerstDeassert s
  | .functionLevelReset => Sys2Proof.Machine.execFunctionLevelReset s
  | .hotReset => Sys2Proof.Machine.execHotReset s
  | .functionResetDone => Sys2Proof.Machine.execFunctionResetDone s
  | .idleTimerExpiry target => Sys2Proof.Machine.execIdleTimerExpiry target s
  | .dozeEntryDone => Sys2Proof.Machine.execDozeEntryDone s
  | .napEntryDone => Sys2Proof.Machine.execNapEntryDone s
  | .standbyEntryCommit => Sys2Proof.Machine.execStandbyEntryCommit s
  | .dischargeWaitEnd => Sys2Proof.Machine.execDischargeWaitEnd s
  | .powerCmdGo => Sys2Proof.Machine.execPowerCmdGo s
  | .idleTimerWrite port off be value => Sys2Proof.Machine.execIdleTimerWrite port off be value s
  | .hwakeEvent => Sys2Proof.Machine.execHwakeEvent s
  | .wakePinEvent n => Sys2Proof.Machine.execWakePinEvent n s
  | .loaderWakeEvent => Sys2Proof.Machine.execLoaderWakeEvent s
  | .rylWakeActivity rport => Sys2Proof.Machine.execRylWakeActivity rport s
  | .dozeExitDone => Sys2Proof.Machine.execDozeExitDone s
  | .napExitDone => Sys2Proof.Machine.execNapExitDone s
  | .standbyExitDone ce0 ce1 => Sys2Proof.Machine.execStandbyExitDone ce0 ce1 s
  | .powerFail => Sys2Proof.Machine.execPowerFail s
  | .powerFailFlushDone => Sys2Proof.Machine.execPowerFailFlushDone s
  | .powerRestored => Sys2Proof.Machine.execPowerRestored s
  | .calRunGo => Sys2Proof.Machine.execCalRunGo s
  | .calRunStart => Sys2Proof.Machine.execCalRunStart s
  | .calRunStepEnd m => Sys2Proof.Machine.execCalRunStepEnd m s
  | .calRunAbort => Sys2Proof.Machine.execCalRunAbort s
  | .calRestoreGo => Sys2Proof.Machine.execCalRestoreGo s
  | .calRestoreStart => Sys2Proof.Machine.execCalRestoreStart s
  | .calRestoreEnd residuals spanNow stageNow => Sys2Proof.Machine.execCalRestoreEnd residuals spanNow stageNow s
  | .focCloseWrite port be value => Sys2Proof.Machine.execFocCloseWrite port be value s
  | .trkCloseWrite port be value => Sys2Proof.Machine.execTrkCloseWrite port be value s
  | .lpcWaveWrite port be value => Sys2Proof.Machine.execLpcWaveWrite port be value s
  | .focusTrackingSample w dpd num den cross period => Sys2Proof.Machine.execFocusTrackingSample w dpd num den cross period s
  | .acqSweepExhausted => Sys2Proof.Machine.execAcqSweepExhausted s
  | .focusLoss => Sys2Proof.Machine.execFocusLoss s
  | .trkPullinTimeout => Sys2Proof.Machine.execTrkPullinTimeout s
  | .trackingLock => Sys2Proof.Machine.execTrackingLock s
  | .trackingLoss => Sys2Proof.Machine.execTrackingLoss s
  | .duneHoldExit loop => Sys2Proof.Machine.execDuneHoldExit loop s
  | .duneHoldMax loop => Sys2Proof.Machine.execDuneHoldMax loop s
  | .ffLearnWrap => Sys2Proof.Machine.execFfLearnWrap s
  | .layerJumpGo => Sys2Proof.Machine.execLayerJumpGo s
  | .layerJumpKickEnd => Sys2Proof.Machine.execLayerJumpKickEnd s
  | .layerJumpBrakeEnd => Sys2Proof.Machine.execLayerJumpBrakeEnd s
  | .layerJumpTimeout => Sys2Proof.Machine.execLayerJumpTimeout s
  | .layerJumpSettled => Sys2Proof.Machine.execLayerJumpSettled s
  | .loopReleaseDone loop => Sys2Proof.Machine.execLoopReleaseDone loop s
  | .lpcSample mon => Sys2Proof.Machine.execLpcSample mon s
  | .laserMonFail => Sys2Proof.Machine.execLaserMonFail s
  | .laserLocked => Sys2Proof.Machine.execLaserLocked s
  | .laserRampDone => Sys2Proof.Machine.execLaserRampDone s
  | .lpcOverUnder => Sys2Proof.Machine.execLpcOverUnder s
  | .dacFault loop => Sys2Proof.Machine.execDacFault loop s
  | .driveSatRun loop => Sys2Proof.Machine.execDriveSatRun loop s
  | .ffClear loop => Sys2Proof.Machine.execFfClear loop s
  | .crossClear => Sys2Proof.Machine.execCrossClear s
  | .refCapture => Sys2Proof.Machine.execRefCapture s
  | .spindleSample rpm now => Sys2Proof.Machine.execSpindleSample rpm now s
  | .commutationEvent hall late ripple dead => Sys2Proof.Machine.execCommutationEvent hall late ripple dead s
  | .spindleAlignDone => Sys2Proof.Machine.execSpindleAlignDone s
  | .spindleLock => Sys2Proof.Machine.execSpindleLock s
  | .spnCtlWrite port be value => Sys2Proof.Machine.execSpnCtlWrite port be value s
  | .speedCapWrite port be value => Sys2Proof.Machine.execSpeedCapWrite port be value s
  | .zoneTableWrite port dvd k be value => Sys2Proof.Machine.execZoneTableWrite port dvd k be value s
  | .spindleStopped => Sys2Proof.Machine.execSpindleStopped s
  | .spindleFaultPin => Sys2Proof.Machine.execSpindleFaultPin s
  | .spindleStallTimeout => Sys2Proof.Machine.execSpindleStallTimeout s
  | .seekGo => Sys2Proof.Machine.execSeekGo s
  | .seekStart => Sys2Proof.Machine.execSeekStart s
  | .seekCoarseDone position => Sys2Proof.Machine.execSeekCoarseDone position s
  | .seekTimeout => Sys2Proof.Machine.execSeekTimeout s
  | .seekAbort => Sys2Proof.Machine.execSeekAbort s
  | .sledSample position jumped => Sys2Proof.Machine.execSledSample position jumped s
  | .homeGo => Sys2Proof.Machine.execHomeGo s
  | .homeReached => Sys2Proof.Machine.execHomeReached s
  | .sledFaultPin => Sys2Proof.Machine.execSledFaultPin s
  | .sledStallTimeout => Sys2Proof.Machine.execSledStallTimeout s
  | .loaderOpen => Sys2Proof.Machine.execLoaderOpen s
  | .loaderClose => Sys2Proof.Machine.execLoaderClose s
  | .loaderDetect => Sys2Proof.Machine.execLoaderDetect s
  | .limitAChange high => Sys2Proof.Machine.execLimitAChange high s
  | .limitBChange high => Sys2Proof.Machine.execLimitBChange high s
  | .slotChange asserted => Sys2Proof.Machine.execSlotChange asserted s
  | .ejectButton => Sys2Proof.Machine.execEjectButton s
  | .ejectMotionStart => Sys2Proof.Machine.execEjectMotionStart s
  | .loadTimeout => Sys2Proof.Machine.execLoadTimeout s
  | .bothLimitsFault => Sys2Proof.Machine.execBothLimitsFault s
  | .loaderFaultPin => Sys2Proof.Machine.execLoaderFaultPin s
  | .loaderThermalTimeout => Sys2Proof.Machine.execLoaderThermalTimeout s
  | .detectStepDone r => Sys2Proof.Machine.execDetectStepDone r s
  | .chnBitBlockBoundary b => Sys2Proof.Machine.execChnBitBlockBoundary b s
  | .timingLock errs => Sys2Proof.Machine.execTimingLock errs s
  | .timingLost errs => Sys2Proof.Machine.execTimingLost errs s
  | .dropoutDeclared theta => Sys2Proof.Machine.execDropoutDeclared theta s
  | .dropoutEnd theta => Sys2Proof.Machine.execDropoutEnd theta s
  | .freewheelTimeout => Sys2Proof.Machine.execFreewheelTimeout s
  | .blankTimeout => Sys2Proof.Machine.execBlankTimeout s
  | .blankEnd => Sys2Proof.Machine.execBlankEnd s
  | .rfOkChange ok theta => Sys2Proof.Machine.execRfOkChange ok theta s
  | .overrate => Sys2Proof.Machine.execOverrate s
  | .eqLoad => Sys2Proof.Machine.execEqLoad s
  | .syncFound ofs id frame => Sys2Proof.Machine.execSyncFound ofs id frame s
  | .syncInsert => Sys2Proof.Machine.execSyncInsert s
  | .codewordDecode data margin erased illegal inserted => Sys2Proof.Machine.execCodewordDecode data margin erased illegal inserted s
  | .subcodeBlock q marks => Sys2Proof.Machine.execSubcodeBlock q marks s
  | .dvdIdField id => Sys2Proof.Machine.execDvdIdField id s
  | .subqRead port => Sys2Proof.Machine.execSubqRead port s
  | .unitDecodeDone d => Sys2Proof.Machine.execUnitDecodeDone d s
  | .rereadAttemptDone d => Sys2Proof.Machine.execRereadAttemptDone d s
  | .avgAccumulatorGrant => Sys2Proof.Machine.execAvgAccumulatorGrant s
  | .avgAllocTimeout => Sys2Proof.Machine.execAvgAllocTimeout s
  | .avgPassEnd p => Sys2Proof.Machine.execAvgPassEnd p s
  | .avgAbort => Sys2Proof.Machine.execAvgAbort s
  | .borrowTimeout addr layer => Sys2Proof.Machine.execBorrowTimeout addr layer s
  | .ergClear => Sys2Proof.Machine.execErgClear s
  | .ergSave => Sys2Proof.Machine.execErgSave s
  | .ergScan => Sys2Proof.Machine.execErgScan s
  | .ergScanDone => Sys2Proof.Machine.execErgScanDone s
  | .segDataRead port => Sys2Proof.Machine.execSegDataRead port s
  | .bar4Read off len hdr par => Sys2Proof.Machine.execBar4Read off len hdr par s
  | .bar4Write off data en hdr par => Sys2Proof.Machine.execBar4Write off data en hdr par s
  | .poisonedTlp p => Sys2Proof.Machine.execPoisonedTlp p s
  | .scrubWord upsets par => Sys2Proof.Machine.execScrubWord upsets par s
  | .scrubLate => Sys2Proof.Machine.execScrubLate s
  | .tblClearCe => Sys2Proof.Machine.execTblClearCe s
  | .tblClearUe => Sys2Proof.Machine.execTblClearUe s
  | .tblDataRead port k => Sys2Proof.Machine.execTblDataRead port k s
  | .hostPagesWrite port be value => Sys2Proof.Machine.execHostPagesWrite port be value s
  | .hostPagesTakeEffect => Sys2Proof.Machine.execHostPagesTakeEffect s
  | .pageAllocGrant => Sys2Proof.Machine.execPageAllocGrant s
  | .pageFree page => Sys2Proof.Machine.execPageFree page s
  | .configRequest r ident => Sys2Proof.Machine.execConfigRequest r ident s
  | .unsupportedRequest posted hdr => Sys2Proof.Machine.execUnsupportedRequest posted hdr s
  | .pcieMessage m hdr => Sys2Proof.Machine.execPcieMessage m hdr s
  | .dmaReadCompletion ptag status data poison => Sys2Proof.Machine.execDmaReadCompletion ptag status data poison s
  | .completionTimeout ptag => Sys2Proof.Machine.execCompletionTimeout ptag s
  | .pcieLinkUp both5 => Sys2Proof.Machine.execPcieLinkUp both5 s
  | .pcieLinkDown => Sys2Proof.Machine.execPcieLinkDown s
  | .pcieRetrain => Sys2Proof.Machine.execPcieRetrain s
  | .pcieRetrainDone up both5 => Sys2Proof.Machine.execPcieRetrainDone up both5 s
  | .serialRead mode3 addr n waits => Sys2Proof.Machine.execSerialRead mode3 addr n waits s
  | .serialQread mode3 addr n waits => Sys2Proof.Machine.execSerialQread mode3 addr n waits s
  | .serialWrite mode3 addr data => Sys2Proof.Machine.execSerialWrite mode3 addr data s
  | .serialQwrite mode3 addr data => Sys2Proof.Machine.execSerialQwrite mode3 addr data s
  | .serialStatus mode3 => Sys2Proof.Machine.execSerialStatus mode3 s
  | .serialBadOpcode mode3 op => Sys2Proof.Machine.execSerialBadOpcode mode3 op s
  | .serialCsAbort mode3 quad cut => Sys2Proof.Machine.execSerialCsAbort mode3 quad cut s
  | .serialWaitLimit mode3 quad addr => Sys2Proof.Machine.execSerialWaitLimit mode3 quad addr s
  | .serialBufferedApply => Sys2Proof.Machine.execSerialBufferedApply s
  | .qpCreate => Sys2Proof.Machine.execQpCreate s
  | .qpDelete => Sys2Proof.Machine.execQpDelete s
  | .qpDeleteDone slice qp => Sys2Proof.Machine.execQpDeleteDone slice qp s
  | .qpAbort => Sys2Proof.Machine.execQpAbort s
  | .qpAbortDone slice qp => Sys2Proof.Machine.execQpAbortDone slice qp s
  | .sqDoorbell port slice qp tail rid pasid => Sys2Proof.Machine.execSqDoorbell port slice qp tail rid pasid s
  | .cqHeadDoorbell port slice qp head rid pasid => Sys2Proof.Machine.execCqHeadDoorbell port slice qp head rid pasid s
  | .entryFetch entry ok => Sys2Proof.Machine.execEntryFetch entry ok s
  | .commandDispatch tag => Sys2Proof.Machine.execCommandDispatch tag s
  | .completionWrite tag ok => Sys2Proof.Machine.execCompletionWrite tag ok s
  | .overloadTimer slice => Sys2Proof.Machine.execOverloadTimer slice s
  | .hazardWaitLong tag => Sys2Proof.Machine.execHazardWaitLong tag s
  | .fenceWaitLong tag => Sys2Proof.Machine.execFenceWaitLong tag s
  | .readahead sectors => Sys2Proof.Machine.execReadahead sectors s
  | .latClr => Sys2Proof.Machine.execLatClr s
  | .testUnitReady tag => Sys2Proof.Machine.execTestUnitReady tag s
  | .requestSense tag => Sys2Proof.Machine.execRequestSense tag s
  | .inquiry tag => Sys2Proof.Machine.execInquiry tag s
  | .startStopUnit tag => Sys2Proof.Machine.execStartStopUnit tag s
  | .preventAllowMediumRemoval tag => Sys2Proof.Machine.execPreventAllowMediumRemoval tag s
  | .read10 tag => Sys2Proof.Machine.execRead10 tag s
  | .read12 tag => Sys2Proof.Machine.execRead12 tag s
  | .readCd tag => Sys2Proof.Machine.execReadCd tag s
  | .readCdMsf tag => Sys2Proof.Machine.execReadCdMsf tag s
  | .readTocPmaAtip tag => Sys2Proof.Machine.execReadTocPmaAtip tag s
  | .readDiscInformation tag => Sys2Proof.Machine.execReadDiscInformation tag s
  | .readTrackInformation tag => Sys2Proof.Machine.execReadTrackInformation tag s
  | .getConfiguration tag => Sys2Proof.Machine.execGetConfiguration tag s
  | .getEventStatusNotification tag => Sys2Proof.Machine.execGetEventStatusNotification tag s
  | .mechanismStatus tag => Sys2Proof.Machine.execMechanismStatus tag s
  | .setCdSpeed tag => Sys2Proof.Machine.execSetCdSpeed tag s
  | .modeSense10 tag => Sys2Proof.Machine.execModeSense10 tag s
  | .modeSelect10 tag => Sys2Proof.Machine.execModeSelect10 tag s
  | .nop tag => Sys2Proof.Machine.execNop tag s
  | .identify tag => Sys2Proof.Machine.execIdentify tag s
  | .abortAll tag => Sys2Proof.Machine.execAbortAll tag s
  | .read tag => Sys2Proof.Machine.execRead tag s
  | .write tag => Sys2Proof.Machine.execWrite tag s
  | .trim tag => Sys2Proof.Machine.execTrim tag s
  | .verify tag => Sys2Proof.Machine.execVerify tag s
  | .libFormat tag bad => Sys2Proof.Machine.execLibFormat tag bad s
  | .libMount tag => Sys2Proof.Machine.execLibMount tag s
  | .libUnmount tag => Sys2Proof.Machine.execLibUnmount tag s
  | .rip tag => Sys2Proof.Machine.execRip tag s
  | .shadowLookup tag => Sys2Proof.Machine.execShadowLookup tag s
  | .shadowPurge tag => Sys2Proof.Machine.execShadowPurge tag s
  | .rylRoster tag => Sys2Proof.Machine.execRylRoster tag s
  | .servoTestAcquire tag => Sys2Proof.Machine.execServoTestAcquire tag s
  | .servoTestSeek tag => Sys2Proof.Machine.execServoTestSeek tag s
  | .servoTestRunout tag => Sys2Proof.Machine.execServoTestRunout tag s
  | .servoTestSweep tag => Sys2Proof.Machine.execServoTestSweep tag s
  | .calRun tag => Sys2Proof.Machine.execCalRun tag s
  | .calRestore tag => Sys2Proof.Machine.execCalRestore tag s
  | .calSave tag => Sys2Proof.Machine.execCalSave tag s
  | .recDump tag => Sys2Proof.Machine.execRecDump tag s
  | .recErase tag => Sys2Proof.Machine.execRecErase tag s
  | .traceCtlStart tag => Sys2Proof.Machine.execTraceCtlStart tag s
  | .traceCtlStop tag => Sys2Proof.Machine.execTraceCtlStop tag s
  | .traceCtlFilter tag => Sys2Proof.Machine.execTraceCtlFilter tag s
  | .audioPlay tag => Sys2Proof.Machine.execAudioPlay tag s
  | .audioStop tag => Sys2Proof.Machine.execAudioStop tag s
  | .cmdStallTimeout tag => Sys2Proof.Machine.execCmdStallTimeout tag s
  | .slcTableCommit => Sys2Proof.Machine.execSlcTableCommit s
  | .sliceReset => Sys2Proof.Machine.execSliceReset s
  | .sliceResetDone slice => Sys2Proof.Machine.execSliceResetDone slice s
  | .sliceAbort => Sys2Proof.Machine.execSliceAbort s
  | .wadiRefill => Sys2Proof.Machine.execWadiRefill s
  | .engineUnitBoundary engine => Sys2Proof.Machine.execEngineUnitBoundary engine s
  | .unitWaitLong engine tag => Sys2Proof.Machine.execUnitWaitLong engine tag s
  | .shareWindowEnd => Sys2Proof.Machine.execShareWindowEnd s
  | .nandProgramDone die block page kind ok wp => Sys2Proof.Machine.execNandProgramDone die block page kind ok wp s
  | .nandEraseDone die block ok wp => Sys2Proof.Machine.execNandEraseDone die block ok wp s
  | .nandReadDone tag die sectors => Sys2Proof.Machine.execNandReadDone tag die sectors s
  | .nandBusyLong die beyond => Sys2Proof.Machine.execNandBusyLong die beyond s
  | .mountDone noSuper fail => Sys2Proof.Machine.execMountDone noSuper fail s
  | .rawRead => Sys2Proof.Machine.execRawRead s
  | .rawReadRaw => Sys2Proof.Machine.execRawReadRaw s
  | .rawProgram => Sys2Proof.Machine.execRawProgram s
  | .rawErase => Sys2Proof.Machine.execRawErase s
  | .rawOpDone r => Sys2Proof.Machine.execRawOpDone r s
  | .garbageCollection die block => Sys2Proof.Machine.execGarbageCollection die block s
  | .shadowStoreWrite => Sys2Proof.Machine.execShadowStoreWrite s
  | .rylLinkUp rport => Sys2Proof.Machine.execRylLinkUp rport s
  | .rylLinkDown rport => Sys2Proof.Machine.execRylLinkDown rport s
  | .helloReceived rport c => Sys2Proof.Machine.execHelloReceived rport c s
  | .electReceived rport c => Sys2Proof.Machine.execElectReceived rport c s
  | .joinReqReceived rport c => Sys2Proof.Machine.execJoinReqReceived rport c s
  | .joinGrantReceived rport c => Sys2Proof.Machine.execJoinGrantReceived rport c s
  | .neighReceived rport c => Sys2Proof.Machine.execNeighReceived rport c s
  | .rosterReceived rport c => Sys2Proof.Machine.execRosterReceived rport c s
  | .syncReqReceived rport c => Sys2Proof.Machine.execSyncReqReceived rport c s
  | .rosterFullReceived rport c => Sys2Proof.Machine.execRosterFullReceived rport c s
  | .nsReqReceived rport c => Sys2Proof.Machine.execNsReqReceived rport c s
  | .nsDataReceived rport c => Sys2Proof.Machine.execNsDataReceived rport c s
  | .nsDoneReceived rport c => Sys2Proof.Machine.execNsDoneReceived rport c s
  | .progressReceived rport c => Sys2Proof.Machine.execProgressReceived rport c s
  | .borrowReqReceived rport c => Sys2Proof.Machine.execBorrowReqReceived rport c s
  | .borrowDataReceived rport c good => Sys2Proof.Machine.execBorrowDataReceived rport c good s
  | .borrowDoneReceived rport c => Sys2Proof.Machine.execBorrowDoneReceived rport c s
  | .reservedCaravanReceived rport c => Sys2Proof.Machine.execReservedCaravanReceived rport c s
  | .badCaravan rport own => Sys2Proof.Machine.execBadCaravan rport own s
  | .ackReceived rport lseq => Sys2Proof.Machine.execAckReceived rport lseq s
  | .nakReceived rport lseq => Sys2Proof.Machine.execNakReceived rport lseq s
  | .creditsReceived rport n => Sys2Proof.Machine.execCreditsReceived rport n s
  | .replayTimeout rport => Sys2Proof.Machine.execReplayTimeout rport s
  | .creditStall rport => Sys2Proof.Machine.execCreditStall rport s
  | .caravanLifetimeExpiry rport => Sys2Proof.Machine.execCaravanLifetimeExpiry rport s
  | .elderQuietExpiry => Sys2Proof.Machine.execElderQuietExpiry s
  | .heartbeatTimer => Sys2Proof.Machine.execHeartbeatTimer s
  | .elderLost => Sys2Proof.Machine.execElderLost s
  | .joinRetry => Sys2Proof.Machine.execJoinRetry s
  | .idReservationExpiry id => Sys2Proof.Machine.execIdReservationExpiry id s
  | .routeRebuildDone => Sys2Proof.Machine.execRouteRebuildDone s
  | .exporterProgressTimer src tag => Sys2Proof.Machine.execExporterProgressTimer src tag s
  | .remoteProgressTimeout tag => Sys2Proof.Machine.execRemoteProgressTimeout tag s
  | .portRetrain rport => Sys2Proof.Machine.execPortRetrain rport s
  | .portWake rport => Sys2Proof.Machine.execPortWake rport s
  | .audioFrameBoundary => Sys2Proof.Machine.execAudioFrameBoundary s
  | .audioSectorEnter => Sys2Proof.Machine.execAudioSectorEnter s
  | .spdifBlockBoundary => Sys2Proof.Machine.execSpdifBlockBoundary s
  | .mclkLost => Sys2Proof.Machine.execMclkLost s
  | .mclkBack => Sys2Proof.Machine.execMclkBack s
  | .audioMuteWrite v => Sys2Proof.Machine.execAudioMuteWrite v s
  | .audioPauseWrite v => Sys2Proof.Machine.execAudioPauseWrite v s
  | .audioSourceWrite v => Sys2Proof.Machine.execAudioSourceWrite v s
  | .recFlushGo => Sys2Proof.Machine.execRecFlushGo s
  | .recFlushTimer => Sys2Proof.Machine.execRecFlushTimer s
  | .recFlushDone ok => Sys2Proof.Machine.execRecFlushDone ok s
  | .recWrite => Sys2Proof.Machine.execRecWrite s
  | .lifeSaveTimer => Sys2Proof.Machine.execLifeSaveTimer s
  | .lifeCounterRestore => Sys2Proof.Machine.execLifeCounterRestore s
  | .rdDataRead port k => Sys2Proof.Machine.execRdDataRead port k s
  | .traceStart => Sys2Proof.Machine.execTraceStart s
  | .traceStop => Sys2Proof.Machine.execTraceStop s
  | .traceBatchWrite ok => Sys2Proof.Machine.execTraceBatchWrite ok s
  | .traceBatchTimeout ok => Sys2Proof.Machine.execTraceBatchTimeout ok s
  | .traceRptrWrite port be value => Sys2Proof.Machine.execTraceRptrWrite port be value s
  | .tracePostDone => Sys2Proof.Machine.execTracePostDone s
  | .mirKeyWrite value => Sys2Proof.Machine.execMirKeyWrite value s
  | .mirLock => Sys2Proof.Machine.execMirLock s
  | .mirAutoLock => Sys2Proof.Machine.execMirAutoLock s
  | .mirHookWrite port page be value => Sys2Proof.Machine.execMirHookWrite port page be value s
  | .mirSlotWrite port off be value => Sys2Proof.Machine.execMirSlotWrite port off be value s
  | .mirBackpressWindow page => Sys2Proof.Machine.execMirBackpressWindow page s
  | .testenRise => Sys2Proof.Machine.execTestenRise s
  | .testenFall => Sys2Proof.Machine.execTestenFall s
  | .tapLeaveReset => Sys2Proof.Machine.execTapLeaveReset s
  | .extest pins tdi => Sys2Proof.Machine.execExtest pins tdi s
  | .samplePreload pins tdi => Sys2Proof.Machine.execSamplePreload pins tdi s
  | .idcode tdi => Sys2Proof.Machine.execIdcode tdi s
  | .clamp tdi => Sys2Proof.Machine.execClamp tdi s
  | .highz tdi => Sys2Proof.Machine.execHighz tdi s
  | .bypass code tdi => Sys2Proof.Machine.execBypass code tdi s
  | .freewheelRelock errs => Sys2Proof.Machine.execFreewheelRelock errs s
  | .codeError rport => Sys2Proof.Machine.execCodeError rport s
  | .receiverErr e msg => Sys2Proof.Machine.execReceiverErr e msg s
  | .pcieReplayTimeout rollover msg => Sys2Proof.Machine.execPcieReplayTimeout rollover msg s
  | .engineBacklog engine => Sys2Proof.Machine.execEngineBacklog engine s
  | .tapReset => Sys2Proof.Machine.execTapReset s

end Sys2Proof.Machine
end

