-- ==== Sys2Proof/Machine/Step.lean ====
section
/-! DEFINITION. One step: the command at the front of the queue, or, when none waits, one µs of time. -/

namespace Sys2Proof.Machine

/-- A µs passes with no command (R561): TIME.NOW counts, a POWER_CMD that waits is looked at again, and what follows every
command follows. Log: 3 (DESIGN CHOICE). -/
def State.idle (s : State) : State := s.tick.powerCmdStep.settle

/-- The step: the command at the front acts on the state whose queue is the rest. Log: 3 (DESIGN CHOICE). -/
def step (s : State) : Host.Outcome State Fault Refusal :=
  match s.pending with
  | [] => .next s.idle
  | c :: rest => exec c { s with pending := rest }

/-- The state with the command that a word spells in front of its queue; no word spells one. Log: 4 (DEDUCED). -/
def State.withFetchWord (s : State) (nbits w : Nat) : State :=
  match decodeTableWord nbits w with
  | some c => { s with pending := c :: s.pending }
  | none => s

end Sys2Proof.Machine
end

