-- ==== Sys2Proof/Safety.lean ====
section
/-! DEFINITION. The terms that the statements about the machine are made in: what it is for a command to complete, and what
it is for a command to leave registers and memory as they were. -/

namespace Sys2Proof.Machine

/-- The command answers a next state, and `P` holds of it. -/
def Completes (c : Instr) (s : State) (P : State → Prop) : Prop := ∃ t, exec c s = .next t ∧ P t

/-- The command brings about a state of which `P` holds, and the next state is the one that this settles to at once. -/
def Brings (c : Instr) (s : State) (P : State → Prop) : Prop := ∃ u : State, exec c s = .next u.settle ∧ P u

/-- A leaf is set: its bit of its page's ATN_CAUSE is 1 (R64). -/
abbrev LeafSet (s : State) (l : Leaf) : Prop := bit (s.rd (Hdr.CAUSE l.page)) l.bit = true

/-- The block of a page works: it is not gated, and neither a forced reset nor a gate of it runs (R41, R92, R95). -/
abbrev PageUp (s : State) (p : Nat) : Prop := s.pageDown p = false

/-- Where a unit that fails at AVERAGE or BORROW climbs no further (R233, R238, R249): it alone is on the ladder, something
still needs it, BORROW and CONCEAL are off, no eject has been accepted, and no borrower waits. -/
abbrev State.endsHere (s : State) (u : EUnit) : Prop :=
  s.ecd.units = [u] ∧ 3 ≤ u.level ∧ u.direct = false ∧ (s.trimNeed u).need ≠ 0 ∧ s.rd ECD.BORROW_EN = 0 ∧ s.rd ECD.CONCEAL_EN = 0 ∧
    s.drv.ejecting = false ∧ s.ryl.bserves = []

/-- What FAIL leaves of a unit (R238, R256): it is off the ladder, counted as unrecovered, and LAST_FAIL names it. -/
abbrev FailedOn (s t : State) (u : EUnit) : Prop :=
  t.ecd.units = [] ∧ t.rd ECD.UNRECOVERED = s.rd ECD.UNRECOVERED + 1 ∧ t.rd ECD.ACTIVE = 0 ∧ t.rd ECD.LF_VALID = 1 ∧
    t.rd ECD.LF_LAYER = u.layer % 2 ∧ t.rd ECD.LF_ADDR = u.addr % 2 ^ 24 ∧ LeafSet t Lf.ECC.LADDER_FAIL

/-! ### Commands at their turn -/

/-- CMD runs and a tag's command is at its turn; it names a local namespace, and its data buffer, if it has one, is in host
memory (R311, R346, R455). -/
abbrev State.atHostTurn (s : State) (tag : Nat) (c : Cmd) : Prop :=
  s.atTurn tag = some c ∧ c.loc = false ∧ c.qp ≠ 8 ∧ isRemote (s.localNs c.nsid) = false

/-- A command whose work has not begun and that has no result yet. -/
abbrev Cmd.untouched (c : Cmd) : Prop :=
  c.started = false ∧ c.got = [] ∧ c.failed = [] ∧ c.errs = [] ∧ c.remote = [] ∧ c.specific = 0 ∧ c.residual = 0

/-- A command has ended with a status, a specific result and a residual, and is otherwise `c`. -/
abbrev EndsAs (t : State) (c : Cmd) (status specific residual : Nat) : Prop :=
  t.cmd c.tag = some { c with stage := .ended, status := status, specific := specific, residual := residual, senseLba := none }

/-- Data has gone to a command's buffer in host memory, cut into requests as host DMA cuts it (R291). -/
abbrev DataSent (s t : State) (c : Cmd) (data : List Byte) : Prop := ∀ m ∈ (s.hostWrite c.slice c.dptr data false).sent, m ∈ t.sent

/-- Blocks that a command uses neither reset nor are gated, and none is quiesced (R91, R92, R95). -/
abbrev State.pagesFree (s : State) (pages : List Nat) : Prop := ∀ p ∈ pages, s.pageDown p = false ∧ s.is (Hdr.QUIESCE p) = false

/-- The bytes of a cached sector. -/
def State.sectorBytes (s : State) (e : Cached) : List Byte := (List.range e.len).map fun i => cellGet s.cells (e.off + i)

/-- The 2,048 bytes of user data of a cached DVD sector, or of a cached raw sector of mode 1. -/
def State.userOf (s : State) (e : Cached) : List Byte := if s.isDvd then s.sectorBytes e else slice (s.sectorBytes e) 16 2048

/-- A block of the disc is held in the cache without errors: a DVD sector, or a CD sector of mode 1 of a data track. -/
abbrev State.userHeld (s : State) (lba : Nat) (e : Cached) : Prop :=
  s.cachedAt 1 lba = some e ∧ e.info = 0 ∧ e.level = 0 ∧ lba < s.drv.toc.leadOut ∧ s.mem.parityFaults = 0 ∧
    (∀ w ∈ wordsOf e.off e.len, s.synd w = 0) ∧
    if s.isDvd then e.len = 2048 else 2742 ≤ e.len ∧ s.audioBlock lba = false ∧ leAt (s.sectorBytes e) 15 1 = 1

/-- The counts of space, blocks and erases that OAS shows (R412, R415, R437). -/
def oasCountFields : List Fld :=
  [OAS.USABLE_SECTORS, OAS.FREE_SECTORS, OAS.FREE_BLOCKS, OAS.SPARE_BLOCKS, OAS.ERASE_MAX, OAS.ERASE_AVG, OAS.LIB_ID, OAS.SEQ_LO,
   OAS.SEQ_HI]

/-! ### The Ryrram node -/

/-- The node works, and every enabled port is up or has sent its HELLO, so that no port begins to train (R440, R466); nothing is
injected on RYL. -/
abbrev State.rylTrained (s : State) : Prop :=
  s.rylUp = true ∧ s.ryl.ports.length = 3 ∧ s.rd (Hdr.HOOK 0x13) = 0 ∧
    ∀ x, x < 3 → bit (s.rd RYL.PORT_EN) x = true → s.is (RYL.UP.at x) = true ∨ (s.rport x).sentHello = true

/-- The same of a node that is no elder and holds no ID from one, so that it reports nothing of its own (R451). -/
abbrev State.rylQuiet (s : State) : Prop := s.rylTrained ∧ s.is RYL.ELDER = false ∧ s.rd RYL.JOIN_STATE ≠ 3

/-- The same of an elder whose roster is what is reported to it (R451, R452). -/
abbrev State.elderSettled (s : State) : Prop := s.rylTrained ∧ s.is RYL.ELDER = true ∧ s.elderRoster = s.ryl.roster

/-- A port that is up takes a caravan of the expected LSEQ (R440, R445). -/
abbrev State.takes (s : State) (x : Nat) (c : Caravan) : Prop :=
  x < 3 ∧ s.rylUp = true ∧ s.ryl.ports.length = 3 ∧ bit (s.rd RYL.PORT_EN) x = true ∧ s.is (RYL.UP.at x) = true ∧
    s.is (RYL.LOOP.at x) = false ∧ c.lseq = (s.rport x).rxNext ∧ s.rd RYL.CARAVANS_RX < 2 ^ 32 - 1

/-- A routed caravan for this node (R446). -/
abbrev State.forMe (s : State) (c : Caravan) : Prop := s.is RYL.ID_VALID = true ∧ c.dst = s.rd RYL.NODE_ID

/-- A taken caravan is acknowledged and counted, and its credits return (R445). -/
abbrev Acked (s t : State) (x : Nat) (c : Caravan) : Prop :=
  .linkSym x 0 c.lseq ∈ t.sent ∧ .linkSym x 2 (carCredits c) ∈ t.sent ∧ t.rd RYL.CARAVANS_RX = s.rd RYL.CARAVANS_RX + 1

/-- A caravan waits in a port's output queue, or has been sent on it and waits to be acknowledged (R445). -/
abbrev Queued (t : State) (x : Nat) (P : Caravan → Prop) : Prop := ∃ q ∈ (t.rport x).unacked ++ (t.rport x).queue, P q.c

/-- What sending on ports writes: the credits and the count (R445). -/
def portFields : List Fld := [RYL.CARAVANS_TX, RYL.CREDITS.at 0, RYL.CREDITS.at 1, RYL.CREDITS.at 2]

/-! ### What follows every command -/

/-- The keys that setting a leaf, counting and recording an event write: SAT and CAUSE of any page header (R56, R64), the
record of the first leaf (R82), and the counters and FLUSHING of REC (R494 to R496). -/
def logKey (k : Nat) : Bool :=
  k / 32 % 4096 == 0x00C && k % 32 == 16 || k / 32 % 4096 == 0x010 ||
    [ATN.FL_VALID.key, ATN.FL_GROUP.key, ATN.FL_GBIT.key, ATN.FL_PAGE.key, ATN.FL_PBIT.key, REC.LOST.key, REC.NEXT_RSN.key,
     REC.REPEATS.key, REC.FLUSHING.key].contains k

/-- The fields that follow other state after every command: the laser, the loops, the channel and the spindle pursue their
standing requests (R146, R178, R205), the trace's trigger fires (R506), and INTX_STATE follows the pin (R63). -/
def settleFields : List Fld :=
  [LPC.STATE, LPC.LIT, LPC.LAST_OFF, LPC.DRIVE, FOC.LAST_LOSS, TRK.LAST_LOSS, FOC.LOSSES, TRK.LOSSES, FOC.HOLD_PRED,
   TRK.HOLD_PRED, FOC.HOLD_DROP, TRK.HOLD_DROP, TRK.LOCKED, FOC.STATE, TRK.STATE, FOC.DRIVE, TRK.DRIVE, FOC.JUMP_GO, CHN.FMT,
   CHN.EQ_NOW.at 0, CHN.EQ_NOW.at 1, CHN.EQ_NOW.at 2, CHN.EQ_NOW.at 3, CHN.EQ_NOW.at 4, CHN.EQ_NOW.at 5, CHN.EQ_NOW.at 6,
   CHN.STATE, CHN.RECAPTURE, CHN.PERIOD_FS, CHN.RATE_KBPS, DEM.STATE, DEM.INSERT_RUN, SLD.SECTOR_AREA, SPN.ZONE, SPN.TARGET,
   SPN.STATE, SPN.SPINUPS, SPN.RATE_MODE, TRC.TRIGGERED, ATN.INTX_STATE]

/-- The keys that what follows every command can write. -/
def settleKey (k : Nat) : Bool := logKey k || (settleFields.map Fld.key).contains k

/-- The fields of the SYS page that record a clamp (R51). -/
def clampFields : List Fld :=
  [SYS.CLAMP_COUNT, SYS.CL_VALID, SYS.CL_SOURCE, SYS.CL_SLICE, SYS.CL_PAGE, SYS.CL_LSB, SYS.CL_OFFSET, SYS.CLAMP_WROTE, SYS.CLAMP_KEPT]

/-! ### What holds after every step -/

/-- INTA is asserted exactly while R63 asks for it: the mirror is active, the pin condition holds and the link is up. -/
abbrev State.IntxFollowsPin (s : State) : Prop := s.rd ATN.INTX_STATE = b2n s.intxWanted

/-- The laser is off unless REFCLK is good, POWER_FAIL_N is high, and LPC is neither gated nor in a forced reset (R146). -/
abbrev State.LaserPermitted (s : State) : Prop :=
  s.rd LPC.STATE ≠ 0 → s.rd TIME.REF_OK = 1 ∧ s.pow.pfail = false ∧ s.pageDown 0x08 = false

/-! ### Frames -/

/-- Every register field but those listed and those that follow every command reads as it did, and so do the shadows, every
byte of the sector cache and every word's stored check bits. -/
def Keeps (l : List Fld) (s t : State) : Prop :=
  (∀ f : Fld, settleKey f.key = false → (∀ g ∈ l, f.key ≠ g.key) → t.rd f = s.rd f) ∧ t.shadow = s.shadow ∧
    (∀ a, cellGet t.cells a = cellGet s.cells a) ∧ t.ecc = s.ecc

/-- Every register field but those listed and those that follow every command reads as it did, and so do the shadows. -/
def KeepsRegs (l : List Fld) (s t : State) : Prop :=
  (∀ f : Fld, settleKey f.key = false → (∀ g ∈ l, f.key ≠ g.key) → t.rd f = s.rd f) ∧ t.shadow = s.shadow

end Sys2Proof.Machine
end

