-- ==== Sys2Proof/Certificates/Slice0/Obligations.lean ====
section
/-! DEFINITION. The statements about the machine. Each is taken from the rules that its docstring names; `Completes c s P`
says that the command answers a next state of which `P` holds, and `Keeps l s t` that no register but those of `l` and those
that follow every command changed, nor a byte of the cache. -/

open Sys2Proof Sys2Proof.Machine

/-! ### The timebase -/

/-- The timebase's commands (R20, R22, R24, R26, R31, R32, R80, R500, R562): what each writes, and that it writes nothing else. -/
def Obligations.TimebaseCommandsComplete : Prop :=
  (∀ (c0 c1 c2 laps mclk c : Nat) (s : State), s.pow.window = true → c ∈ [c0, c1, c2] → c ≠ 0 → c < 2 ^ 22 →
    (∀ x ∈ [c0, c1, c2], x ≠ 0 → c ≤ x) → (1000000000 + c - 1) / c < 2 ^ 16 →
    Completes (.stageWindowEnd c0 c1 c2 laps mclk) s fun t =>
      t.rd TIME.STAGE_COUNT = c ∧ t.rd TIME.STAGE_PS = (1000000000 + c - 1) / c ∧
      (s.rd TIME.LIMIT_PS < (1000000000 + c - 1) / c → s.is (Hdr.GATED 0x02) = false → LeafSet t Lf.TMP.STAGE_LIMIT) ∧
      Keeps [TIME.STAGE_COUNT, TIME.STAGE_PS, TIME.MAX_PS, TIME.MIN_PS, CHN.LAP_PS, CHN.EXPECT_PS, AUD.MCLK_CNT] s t) ∧
  (∀ s : State, s.pow.refclk = true → s.is (Hdr.GATED 0x02) = false →
    Completes .refclkStop s fun t =>
      t.rd TIME.REF_OK = 0 ∧ t.rd TIME.REF_LOST = 1 ∧ t.pow.window = false ∧ LeafSet t Lf.TMP.REF_LOST ∧
      Keeps [TIME.REF_OK, TIME.DLL_LOCK, TIME.REF_LOST] s t) ∧
  (∀ s : State, s.rd TIME.DLL_LOCK = 0 →
    Completes .dllLockAcquired s fun t =>
      t.rd TIME.REF_OK = 1 ∧ t.rd TIME.DLL_LOCK = 1 ∧ t.pow.window = true ∧ t.pow.refclk = true ∧
      Keeps [TIME.REF_OK, TIME.DLL_LOCK] s t) ∧
  (∀ s : State, s.pow.refclk = true → s.rd TIME.DLL_LOCK = 1 → s.is (Hdr.GATED 0x02) = false →
    Completes .dllUnlock s fun t =>
      t.rd TIME.REF_OK = 0 ∧ t.rd TIME.DLL_LOCK = 0 ∧ LeafSet t Lf.TMP.DLL_UNLOCK ∧ Keeps [TIME.REF_OK, TIME.DLL_LOCK] s t) ∧
  (∀ (l : Loop) (s : State), s.pow.refclk = true → s.loopCut .foc = none → s.loopCut .trk = none →
    s.loopOut.length = 5 → s.loopResult.length = 5 →
    Completes (.servoUpdate l false) s fun t => t.loopOut[loopIdx l]? = s.loopResult[loopIdx l]? ∧ Keeps [] s t) ∧
  (∀ (l : Loop) (s : State), s.pow.refclk = true → s.loopCut .foc = none → s.loopCut .trk = none →
    s.rd TIME.SERVO_LATE < 2 ^ 32 - 1 → s.is (Hdr.GATED 0x02) = false →
    Completes (.servoUpdate l true) s fun t =>
      t.loopOut = s.loopOut ∧ t.rd TIME.SERVO_LATE = s.rd TIME.SERVO_LATE + 1 ∧ LeafSet t Lf.SRV.UPDATE_LATE ∧
      Keeps [TIME.SERVO_LATE] s t) ∧
  (∀ s : State, s.rd TIME.WATER_CLR = 0 →
    Completes .waterClr s fun t => t.rd TIME.WATER_CLR = 1 ∧ Keeps [TIME.WATER_CLR] s t) ∧
  (∀ s : State, s.rd TIME.WATER_CLR = 1 → TIME.WATER_CLR.key ∉ s.goWait →
    Completes .waterClrDone s fun t =>
      t.rd TIME.MAX_PS = 0 ∧ t.rd TIME.MIN_PS = 0xFFFF ∧ t.rd TIME.WATER_CLR = 0 ∧
      Keeps [TIME.MAX_PS, TIME.MIN_PS, TIME.WATER_CLR] s t) ∧
  (∀ (port : HostPort) (s : State), s.now < 2 ^ 64 →
    Completes (.nowLoRead port) s fun t =>
      t.rd TIME.NOW_HI = s.now / 2 ^ 32 ∧ .regData port 0x2054 (s.now % 2 ^ 32) ∈ t.sent ∧ Keeps [TIME.NOW_HI] s t) ∧
  (∀ s : State, s.recd.restored = true → s.rd SYS.OP_SECONDS < 2 ^ 32 - 1 →
    Completes .opSecondsTick s fun t => t.rd SYS.OP_SECONDS = s.rd SYS.OP_SECONDS + 1 ∧ Keeps [SYS.OP_SECONDS] s t)

/-! ### Attention -/

/-- The attention tree's commands (R64, R66, R70, R71, R75, R62, R63, R78). A set leaf of ATN_FORCE is set whether its block is
gated or not; GRP_PEND and ROUTED clear at the source page, and the state named is the one before what follows every command. -/
def Obligations.AttentionCommandsComplete : Prop :=
  (∀ (page value : Nat) (l : Leaf) (s : State), pageExists page = true → pageNoLeaf page = false → l.page = page → l.bit < 32 →
    l.place.isSome = true → bit value l.bit = true →
    Completes (.atnForceWrite page value) s fun t => LeafSet t l ∧ Keeps [] s t) ∧
  (∀ (g value : Nat) (s : State),
    Brings (.grpPendClear g value) s fun u =>
      (∀ r ∈ leafRows, r.group = g → ∀ i < r.n, bit value (r.gbit + i) = true → bit (u.rd (Hdr.CAUSE r.page)) (r.pbit + i) = false) ∧
      (∀ p, (∀ r ∈ leafRows, r.group = g → r.page ≠ p) → u.rd (Hdr.CAUSE p) = s.rd (Hdr.CAUSE p)) ∧ Keeps [] s u) ∧
  (∀ (sl g value : Nat) (s : State), sl ≠ 0 →
    Brings (.routedClear sl g value) s fun u =>
      (∀ r ∈ leafRows, r.group = g → s.rd (Hdr.SLICE r.page) = sl → ∀ i < r.n, bit value (r.gbit + i) = true →
        bit (u.rd (Hdr.CAUSE r.page)) (r.pbit + i) = false) ∧
      (∀ p, s.rd (Hdr.SLICE p) ≠ sl → u.rd (Hdr.CAUSE p) = s.rd (Hdr.CAUSE p)) ∧ Keeps [] s u) ∧
  (∀ (port : HostPort) (page value : Nat) (s : State), s.served port none = true → pageExists page = true →
    pageNoLeaf page = false → page ≠ 0x10 → value < 64 →
    Completes (.atnSliceWrite port page 15 value) s fun t => t.rd (Hdr.SLICE page) = value ∧ Keeps [Hdr.SLICE page] s t) ∧
  (∀ (port : HostPort) (value : Nat) (s : State), s.served port none = true → s.regsClosed 0x01 = false →
    Completes (.pinCtlWrite port 15 value) s fun t =>
      t.rd ATN.PIN_EN = bits value 0 1 ∧ t.rd ATN.INTX_EN = bits value 1 1 ∧ t.rd ATN.WAKE_NOTIFY = bits value 2 1 ∧
      Keeps [ATN.PIN_EN, ATN.INTX_EN, ATN.WAKE_NOTIFY] s t) ∧
  (∀ (port : HostPort) (s : State),
    Completes (.summaryRead port) s fun t =>
      .regData port 0x1040 s.summary ∈ t.sent ∧ Keeps [ATN.WAKE_HOLD] s t ∧
      (s.pow.phase = .run → s.rd TIME.STATE = 0 → s.rd ATN.WAKE_HOLD = 1 → t.rd ATN.WAKE_HOLD = 0))

/-- A leaf is pending exactly while its CAUSE bit and its ENABLE bit are both 1 (R65), and SUMMARY bit 24 + k is the OR of
SLICE_PEND bits 8k to 8k + 7 (R68). Clearing ENABLE removes the leaves from every summary and leaves CAUSE unchanged (R65). -/
def Obligations.PendingIsCauseAndEnable : Prop :=
  (∀ (s : State) (p i : Nat), bit (s.pend p) i = (bit (s.rd (Hdr.CAUSE p)) i && bit (s.rd (Hdr.ENABLE p)) i)) ∧
  (∀ (s : State) (k : Nat), k < 8 → bit s.summary (24 + k) = decide (bits s.slicePend (8 * k) 8 ≠ 0)) ∧
  (∀ (port : HostPort) (page : Nat) (s : State), s.served port none = true → pageExists page = true → pageNoLeaf page = false →
    Brings (.bar0Write port page 0x014 15 0 0 none) s fun u =>
      u.rd (Hdr.CAUSE page) = s.rd (Hdr.CAUSE page) ∧ u.pend page = 0 ∧
      (∀ g, u.grpPend g = (leafRows.filter fun r => r.group == g && r.page != page).foldl
        (fun m r => m ||| bits (s.pend r.page) r.pbit r.n * 2 ^ r.gbit) 0))

/-! ### Supplies, resets and power failure -/

/-- The commands of the supplies and resets (R83, R85, R86, R89, R99, R263, R549, R561): a power-on reset leaves every
register at its reset value, a brownout and a chip reset every register outside the wake domain, and TIME.NOW returns to 0.
Engine release, after a boot and after STANDBY, and what POWER_FAIL_N does while the engines run (R86, R106, R108, R114). -/
def Obligations.SupplyCommandsComplete : Prop :=
  (∀ s : State, s.pow.phase = .off →
    Completes .powerOnReset s fun t =>
      t.pow.phase = .held ∧ t.pow.pwrEn = true ∧ t.now = 0 ∧ t.calKept = none ∧
      (∀ f : Fld, settleKey f.key = false → t.rd f = f.reset) ∧ (∀ a, cellGet t.cells a = 0) ∧ t.que.pairs = []) ∧
  (∀ s : State,
    Completes .stbyPowerLoss s fun t =>
      t.pow.phase = .off ∧ t.pow.pwrEn = false ∧ t.now = 0 ∧ (∀ f : Fld, settleKey f.key = false → t.rd f = f.reset)) ∧
  (∀ (rail : Nat) (s : State), s.is (Hdr.GATED 0x02) = false → rail < 6 →
    Completes (.railLow rail) s fun t =>
      bit t.pow.low rail = true ∧ (s.coreUp = true → LeafSet t (Lf.PWR.VCORE_LOW.plus rail)) ∧ Keeps [] s t) ∧
  (∀ (rail : Nat) (s : State), Completes (.railGood rail) s fun t => bit t.pow.low rail = false ∧ Keeps [] s t) ∧
  (∀ s : State, s.pow.phase ≠ .off → s.pow.phase ≠ .standby →
    Completes .brownout s fun t =>
      t.pow.phase = .held ∧ t.now = 0 ∧ t.rd TIME.RC_BROWNOUT = 1 ∧
      (∀ f : Fld, settleKey f.key = false → f.key ∉ wakeKeys → t.rd f = f.reset) ∧
      (∀ f : Fld, f.key ∈ wakeKeys → f.key ≠ TIME.RC_BROWNOUT.key → t.rd f = s.rd f)) ∧
  (∀ (fuseErr : Bool) (s : State), s.pow.phase = .held → s.pow.low % 32 = 0 → s.pow.testen = false → s.is (Hdr.GATED 0x00) = false →
    Completes (.coreResetRelease fuseErr) s fun t =>
      t.pow.phase = .boot ∧ (fuseErr = true → LeafSet t Lf.SYS.FUSE_ERR) ∧ Keeps [] s t) ∧
  (∀ s : State, s.pow.phase = .boot → s.pow.filled = false → s.is (Hdr.GATED 0x0E) = false →
    Completes (.sramZeroFillDone []) s fun t =>
      t.pow.filled = true ∧ (∀ a, cellGet t.cells a = 0) ∧ t.ecc = [] ∧ t.rd MEM.BANKS_OK = 0xFFF ∧ LeafSet t Lf.MEM.FILL_DONE) ∧
  (∀ (port : HostPort) (s : State), s.pow.chipKey = none →
    Completes (.chipResetKey port 0x5A17) s fun t => t.pow.chipKey = some s.elapsed ∧ Keeps [] s t) ∧
  (∀ (port : HostPort) (s : State) (t0 : Nat), s.pow.chipKey = some t0 → s.elapsed - t0 ≤ 64 →
    Completes (.chipResetKey port 0xA5E8) s fun t =>
      t.pow.phase = .held ∧ t.pow.kind = .chip ∧ t.now = 0 ∧ t.rd TIME.RC_CHIP_KEY = 1 ∧
      (∀ f : Fld, settleKey f.key = false → f.key ∉ wakeKeys → t.rd f = f.reset)) ∧
  (∀ s : State, s.pow.testen = false → s.pow.phase = .run →
    Completes .testenRise s fun t =>
      t.pow.testen = true ∧ t.pow.phase = .held ∧ t.rd TIME.RC_BROWNOUT = 1 ∧
      (∀ f : Fld, settleKey f.key = false → f.key ∉ wakeKeys → t.rd f = f.reset)) ∧
  (∀ s : State, Completes .testenFall s fun t => t.pow.testen = false ∧ Keeps [] s t) ∧
  (∀ s : State, s.pow.phase ≠ .run → Completes .powerFail s fun t => t.pow.pfail = true ∧ Keeps [] s t) ∧
  (∀ s : State, s.pow.pfFlush = true → s.rd REC.FLUSHING = 0 → s.is (Hdr.GATED 0x02) = false →
    Completes .powerFailFlushDone s fun t => t.pow.pfFlush = false ∧ LeafSet t Lf.PWR.FLUSH_DONE) ∧
  (∀ s : State, s.pow.pfail = true → s.pow.pfHeld = true → s.is (Hdr.GATED 0x02) = false →
    Completes .powerRestored s fun t =>
      t.pow.pfail = false ∧ t.pow.pfHeld = false ∧ LeafSet t Lf.PWR.POWER_RESTORED ∧
      (s.rd TIME.STATE = 0 → t.drv.parked = false) ∧ Keeps [] s t) ∧
  (∀ (ce0 ce1 : NandFind) (s : State), s.pow.phase = .boot → s.pow.kind = .por → s.pow.filled = true → s.rd TIME.REF_OK = 1 →
    s.calBooting = false → s.is (Hdr.GATED 0x00) = false →
    Completes (.engineRelease ce0 ce1) s fun t => t.pow.phase = .run ∧ LeafSet t Lf.SYS.BOOT_DONE) ∧
  (∀ (code : Nat) (ce0 ce1 : NandFind) (s : State), s.pow.exit = some code → s.pow.phase = .boot → s.pow.kind = .stby →
    s.pow.filled = true → s.rd TIME.REF_OK = 1 → s.calBooting = false → s.is (Hdr.GATED 0x02) = false →
    Completes (.standbyExitDone ce0 ce1) s fun t => t.pow.phase = .run ∧ t.pow.exit = none ∧ LeafSet t Lf.PWR.LEAVE_STBY) ∧
  (∀ s : State, s.pow.phase = .run → s.pow.pfHeld = false → s.is (Hdr.GATED 0x02) = false →
    Completes .powerFail s fun t => t.pow.pfail = true ∧ t.pow.pfHeld = true ∧ t.pow.pfFlush = true ∧ LeafSet t Lf.PWR.POWER_FAIL)

/-! ### Quiesce, forced reset, gating, replies -/

/-- The header's commands (R43, R46, R91, R92, R93, R94, R95): quiesce and its end, the epoch and RESET of a block that has
nothing to answer, the end of a reset and of a gate, the shadow hold, and what becomes of a reply. A forced reset reaches
every block of its own, whatever the block holds, and ends there (R92). -/
def Obligations.BlockCommandsComplete : Prop :=
  (∀ (page : Nat) (s : State), pageOwn page = true →
    Completes (.quiesceWrite page true) s fun t => t.rd (Hdr.QUIESCE page) = 1 ∧ Keeps [Hdr.QUIESCE page] s t) ∧
  (∀ (page : Nat) (s : State), pageOwn page = true →
    Completes (.quiesceWrite page false) s fun t =>
      t.rd (Hdr.QUIESCE page) = 0 ∧ t.rd (Hdr.QUIESCED page) = 0 ∧ Keeps [Hdr.QUIESCE page, Hdr.QUIESCED page] s t) ∧
  (∀ (page : Nat) (s : State), pageOwn page = true → s.rd (Hdr.QUIESCE page) = 1 → s.rd (Hdr.QUIESCED page) = 0 →
    s.blockBusy page = false → (∀ o ∈ s.openTags, o.page ≠ page) → s.trc.queue = [] → s.is (Hdr.GATED 0x00) = false →
    Completes (.blockDrained page) s fun t =>
      t.rd (Hdr.QUIESCED page) = 1 ∧ LeafSet t Lf.SYS.QUIESCE_DONE ∧ Keeps [Hdr.QUIESCED page] s t) ∧
  (∀ (page : Nat) (s : State), page ∈ [0x0C, 0x0E, 0x10] → s.rd (Hdr.RESET page) = 0 → s.rd (Hdr.GATED page) = 0 →
    page ∉ s.pow.gating →
    Completes (.forcedBlockReset page) s fun t =>
      t.rd (Hdr.RESET page) = 1 ∧ t.rd (Hdr.EPOCH page) = (s.rd (Hdr.EPOCH page) + 1) % 256 ∧ page ∈ t.pow.resetting ∧
      (∀ o ∈ t.openTags, o.page ≠ page) ∧ Keeps [Hdr.RESET page, Hdr.EPOCH page] s t) ∧
  (∀ (page : Nat) (s : State), page ∈ s.pow.resetting → page ∈ [0x0C, 0x0D, 0x0F, 0x14, 0x15, 0x16, 0x17] → s.goWait = [] →
    page ∉ s.pow.gateAfterReset → s.is (Hdr.GATED 0x00) = false →
    Completes (.forcedResetEnd page) s fun t =>
      t.rd (Hdr.RESET page) = 0 ∧ page ∉ t.pow.resetting ∧ LeafSet t Lf.SYS.BLOCK_RESET_DONE ∧
      (∀ f : Fld, f.page = page → 0x40 ≤ f.off → f.off < 4096 → f.lsb < 32 → settleKey f.key = false → t.rd f = f.reset)) ∧
  (∀ (page : Nat) (s : State), page ∈ [0x0C, 0x0E, 0x10] → s.rd (Hdr.GATED page) = 0 → page ∉ s.pow.gating →
    page ∉ s.pow.resetting →
    Completes (.blockGate page) s fun t =>
      t.rd (Hdr.GATE page) = 1 ∧ page ∈ t.pow.gating ∧ t.rd (Hdr.EPOCH page) = (s.rd (Hdr.EPOCH page) + 1) % 256 ∧
      Keeps [Hdr.GATE page, Hdr.EPOCH page] s t) ∧
  (∀ (page : Nat) (s : State), page ∈ s.pow.gating → page ∈ [0x0C, 0x0D, 0x0F, 0x14, 0x15, 0x16, 0x17] →
    s.pow.resetAfterGate = [] →
    Completes (.blockGated page) s fun t => t.rd (Hdr.GATED page) = 1 ∧ page ∉ t.pow.gating) ∧
  (∀ (page : Nat) (s : State), pageOwn page = true → s.rd (Hdr.GATED page) = 1 → page ∉ s.pow.ungating →
    Completes (.blockUngate page) s fun t =>
      t.rd (Hdr.GATE page) = 0 ∧ page ∈ t.pow.ungating ∧ Keeps [Hdr.GATE page] s t) ∧
  (∀ (page : Nat) (s : State), page ∈ s.pow.ungating → page ∈ [0x0C, 0x0D, 0x0F, 0x14, 0x15, 0x16, 0x17] →
    s.is (Hdr.GATED 0x00) = false → s.rd (Hdr.QUIESCE page) = 0 →
    Completes (.ungateDone page) s fun t =>
      t.rd (Hdr.GATED page) = 0 ∧ page ∉ t.pow.ungating ∧ LeafSet t Lf.SYS.BLOCK_RESET_DONE ∧ Keeps [Hdr.GATED page] s t) ∧
  (∀ (page : Nat) (s : State), page ∈ s.pow.ungating → s.rd (Hdr.GATED page) = 1 → s.is (Hdr.GATED 0x02) = false →
    Completes (.gateFaultTimeout page) s fun t =>
      page ∉ t.pow.ungating ∧ t.rd (Hdr.GATED page) = 1 ∧ LeafSet t Lf.PWR.GATE_FAULT ∧ Keeps [] s t) ∧
  (∀ (page : Nat) (v : Bool) (s : State), pageOwn page = true →
    Completes (.shdHoldWrite page v) s fun t => t.rd (Hdr.SHD_HOLD page) = b2n v ∧ Keeps [Hdr.SHD_HOLD page] s t) ∧
  (∀ (page tag rep : Nat) (s : State), { page := page, tag := tag, reqEpoch := s.rd (Hdr.EPOCH page), repEpoch := rep } ∈ s.openTags →
    Completes (.internalReplyArrival page tag (s.rd (Hdr.EPOCH page)) rep) s fun t =>
      (∀ o ∈ t.openTags, ¬ (o.page = page ∧ o.tag = tag)) ∧ Keeps [] s t) ∧
  (∀ (page tag req rep : Nat) (s : State), req ≠ s.rd (Hdr.EPOCH page) → s.pow.rylEpochWait = false → s.is (Hdr.GATED 0x00) = false →
    Completes (.internalReplyArrival page tag req rep) s fun t =>
      t.openTags = s.openTags ∧ LeafSet t Lf.SYS.EPOCH_DISCARD ∧ Keeps [] s t) ∧
  (∀ (tag : Nat) (s : State), s.pow.rylEpochWait = false →
    Completes (.quarantineExpiry tag) s fun t => (∀ q ∈ t.quarantine, q.tag ≠ tag) ∧ Keeps [] s t) ∧
  (∀ (page : Nat) (s : State), pageOwn page = true → s.rd (Hdr.RESET page) = 0 → s.rd (Hdr.GATED page) = 0 →
    page ∉ s.pow.gating →
    Completes (.forcedBlockReset page) s fun t => page ∈ t.pow.resetting) ∧
  (∀ (page : Nat) (s : State), pageOwn page = true → page ∈ s.pow.resetting → s.pow.rylEpochWait = false → s.goWait = [] →
    page ∉ s.pow.gateAfterReset →
    Completes (.forcedResetEnd page) s fun t => page ∉ t.pow.resetting)

/-! ### Power states -/

/-- The commands of the idle ladder and of waking (R78, R97, R100 to R107, R561). -/
def Obligations.PowerStateCommandsComplete : Prop :=
  (∀ s : State, s.pow.phase = .run → s.rd TIME.STATE = 0 → s.pow.timer = some .doze → s.loaderMoving = false →
    s.is (Hdr.GATED 0x02) = false →
    Completes (.idleTimerExpiry 1) s fun t =>
      t.pow.entry = some .doze ∧ t.rd TIME.MOVING = 1 ∧ t.drv.demand = false ∧ LeafSet t Lf.PWR.IDLE_DOZE ∧ Keeps [TIME.MOVING] s t) ∧
  (∀ s : State, s.pow.entry = some .doze → s.rd SPN.STATE = 0 → s.rd TIME.PC_GO = 0 → s.is (Hdr.GATED 0x02) = false →
    Completes .dozeEntryDone s fun t =>
      t.rd TIME.STATE = 1 ∧ t.rd TIME.MOVING = 0 ∧ t.pow.entry = none ∧ LeafSet t Lf.PWR.ENTER_DOZE ∧
      Keeps [TIME.STATE, TIME.MOVING] s t) ∧
  (∀ s : State, s.pow.entry = some .nap → s.rd REC.FLUSHING = 0 → s.rd TIME.PC_GO = 0 → s.rd TRC.RUNNING = 0 →
    s.is (Hdr.GATED 0x02) = false →
    Completes .napEntryDone s fun t =>
      t.rd TIME.STATE = 2 ∧ t.rd TIME.MOVING = 0 ∧ t.pow.entry = none ∧ LeafSet t Lf.PWR.ENTER_NAP) ∧
  (∀ s : State, s.pow.entry = some .standby →
    Completes .standbyEntryCommit s fun t =>
      t.pow.phase = .standby ∧ t.pow.pwrEn = false ∧ t.now = s.now ∧
      (∀ f : Fld, settleKey f.key = false → f.key ∉ wakeKeys → t.rd f = f.reset) ∧
      (∀ f : Fld, f.key ∈ wakeKeys → t.rd f = s.rd f)) ∧
  (∀ s : State, s.pow.phase = .standby → s.pow.wakePend = none →
    Completes .dischargeWaitEnd s fun t => t.pow.discharged = true ∧ t.pow.phase = .standby ∧ Keeps [] s t) ∧
  (∀ (code : Nat) (s : State), s.pow.phase = .standby → s.pow.wakePend = some code →
    Completes .dischargeWaitEnd s fun t =>
      t.pow.phase = .held ∧ t.pow.pwrEn = true ∧ t.pow.exit = some code ∧ Keeps [ATN.WAKE_HOLD] s t) ∧
  (∀ s : State, s.pow.phase = .run → s.rd TIME.STATE = 1 → s.rd TIME.TARGET = 0 → s.rd TIME.PC_GO = 0 → s.pow.entry = none →
    s.pow.exit = none →
    Completes .powerCmdGo s fun t =>
      t.pow.exit = some 9 ∧ t.rd TIME.MOVING = 1 ∧ t.rd TIME.PC_GO = 1) ∧
  (∀ (port : HostPort) (value : Nat) (s : State), s.served port none = true → s.regsClosed 0x02 = false → 1000 ≤ value →
    value < 2 ^ 32 →
    Completes (.idleTimerWrite port 0x08C 15 value) s fun t => t.rd TIME.IDLE_DOZE_US = value ∧ Keeps [TIME.IDLE_DOZE_US] s t) ∧
  (∀ s : State, s.pow.phase = .standby → s.pow.discharged = true → s.pow.wakePend = none → s.rd TIME.HWAKE_EN = 1 →
    Completes .hwakeEvent s fun t => t.pow.phase = .held ∧ t.pow.pwrEn = true ∧ t.pow.exit = some 2 ∧ Keeps [ATN.WAKE_HOLD] s t) ∧
  (∀ (n : Nat) (s : State), n < 4 → s.pow.phase = .standby → s.pow.discharged = true → s.pow.wakePend = none →
    bit (s.rd TIME.WAKE_EN) n = true →
    Completes (.wakePinEvent n) s fun t => t.pow.phase = .held ∧ t.pow.pwrEn = true ∧ t.pow.exit = some (5 + n) ∧ Keeps [ATN.WAKE_HOLD] s t) ∧
  (∀ s : State, s.pow.phase = .standby → s.pow.discharged = true → s.pow.wakePend = none → s.rd TIME.LDR_EN = 1 →
    Completes .loaderWakeEvent s fun t => t.pow.phase = .held ∧ t.pow.pwrEn = true ∧ t.pow.exit = some 4 ∧ Keeps [ATN.WAKE_HOLD] s t) ∧
  (∀ (p : Nat) (s : State), s.pow.phase = .standby → s.pow.discharged = true → s.pow.wakePend = none →
    bit (s.rd TIME.RYL_EN) p = true →
    Completes (.rylWakeActivity p) s fun t => t.pow.phase = .held ∧ t.pow.pwrEn = true ∧ t.pow.exit = some 3 ∧ Keeps [ATN.WAKE_HOLD] s t) ∧
  (∀ (code : Nat) (s : State), s.pow.exit = some code → code < 16 → s.rd TIME.STATE = 1 → s.pow.phase = .run → s.rd TIME.PC_GO = 0 →
    s.is (Hdr.GATED 0x02) = false →
    Completes .dozeExitDone s fun t =>
      t.rd TIME.STATE = 0 ∧ t.rd TIME.FROM = 1 ∧ t.rd TIME.LAST_WAKE = code ∧ t.rd TIME.MOVING = 0 ∧ t.pow.exit = none ∧
      LeafSet t Lf.PWR.LEAVE_DOZE ∧
      Keeps [TIME.STATE, TIME.MOVING, TIME.FROM, TIME.LAST_WAKE, TIME.EXIT_US, TIME.SLEEP_US] s t) ∧
  (∀ (code : Nat) (s : State), s.pow.exit = some code → code < 16 → s.rd TIME.STATE = 2 → s.pow.phase = .run → s.rd TIME.PC_GO = 0 →
    s.rd TRC.RUNNING = 0 → s.is (Hdr.GATED 0x02) = false →
    Completes .napExitDone s fun t =>
      t.rd TIME.STATE = 0 ∧ t.rd TIME.FROM = 2 ∧ t.rd TIME.LAST_WAKE = code ∧ t.drv.parked = true ∧ LeafSet t Lf.PWR.LEAVE_NAP)

/-! ### The test access port -/

/-- The test access port's instructions (R547 to R550): the bits that leave TDO and the instruction that then stands; EXTEST
acts as BYPASS while TESTEN is low, and no instruction changes a register. -/
def Obligations.TapInstructionsComplete : Prop :=
  (∀ s : State, s.pow.phase ≠ .off → s.tap.active = false → s.pow.testen = false → s.coreUp = true → s.is (Hdr.GATED 0x00) = false →
    Completes .tapLeaveReset s fun t => t.tap.active = true ∧ LeafSet t Lf.SYS.JTAG_ACTIVE ∧ Keeps [] s t) ∧
  (∀ s : State, Completes .tapReset s fun t => t.tap.active = false ∧ t.tap.instr = 2 ∧ Keeps [] s t) ∧
  (∀ (pins tdi : List Bool) (s : State), s.pow.phase ≠ .off → s.pow.testen = true → pins.length = 83 → tdi.length = 83 →
    Completes (.extest pins tdi) s fun t =>
      .tap pins ∈ t.sent ∧ t.tap.latch = tdi ∧ t.tap.instr = 0 ∧ t.pinDrive = .boundary tdi ∧ Keeps [] s t) ∧
  (∀ (pins : List Bool) (b : Bool) (tdi : List Bool) (s : State), s.pow.phase ≠ .off → s.pow.testen = false →
    Completes (.extest pins (tdi ++ [b])) s fun t =>
      .tap (false :: tdi) ∈ t.sent ∧ t.tap.latch = s.tap.latch ∧ t.pinDrive = .system ∧ Keeps [] s t) ∧
  (∀ (pins tdi : List Bool) (s : State), s.pow.phase ≠ .off → pins.length = 83 → tdi.length = 83 →
    Completes (.samplePreload pins tdi) s fun t =>
      .tap pins ∈ t.sent ∧ t.tap.latch = tdi ∧ t.pinDrive = .system ∧ Keeps [] s t) ∧
  (∀ (tdi : List Bool) (s : State), s.pow.phase ≠ .off → tdi.length = 32 →
    Completes (.idcode tdi) s fun t =>
      .tap (bitList 32 (if Config.revB then 0x1072474B else 0x0072474B)) ∈ t.sent ∧ t.tap.instr = 2 ∧ Keeps [] s t) ∧
  (∀ (b : Bool) (tdi : List Bool) (s : State), s.pow.phase ≠ .off → s.pow.testen = true →
    Completes (.clamp (tdi ++ [b])) s fun t =>
      .tap (false :: tdi) ∈ t.sent ∧ t.pinDrive = .boundary s.tap.latch ∧ Keeps [] s t) ∧
  (∀ (b : Bool) (tdi : List Bool) (s : State), s.pow.phase ≠ .off → s.pow.testen = true →
    Completes (.highz (tdi ++ [b])) s fun t => .tap (false :: tdi) ∈ t.sent ∧ t.pinDrive = .highZ ∧ Keeps [] s t) ∧
  (∀ (code : Nat) (b : Bool) (tdi : List Bool) (s : State), s.pow.phase ≠ .off → code ∉ [0, 4, 5] →
    Completes (.bypass code (tdi ++ [b])) s fun t => .tap (false :: tdi) ∈ t.sent ∧ t.pinDrive = .system ∧ Keeps [] s t)

/-! ### Register writes -/

/-- A register write changes nothing at a reserved page, at a reserved offset, and in the block registers of a page that is gated
or whose forced reset runs (R36, R41); over a port that serves it, it completes normally there, and no clamp is recorded. A read of
a reserved page or offset answers zero and changes nothing. -/
def Obligations.ReservedPlacesReadZeroAndIgnoreWrites : Prop :=
  (∀ (port : HostPort) (page off be value rid : Nat) (s : State), s.served port none = true → page < 32 →
    (pageExists page = false ∨ fieldsAt page off = [] ∨ (0x40 ≤ off ∧ s.regsClosed page = true)) →
    Brings (.bar0Write port page off be value rid none) s fun u => u = s) ∧
  (∀ (page off : Nat) (s : State), pageExists page = false ∨ (fieldsAt page off = [] ∧ off ≠ 0 ∧ off ≠ 4) → s.readReg page off = (s, 0))

/-- An illegal value is stored as the nearest legal one, and the clamp is recorded when and only when the two differ
(R10, R49, R51, R52): what STAGE_LIMIT_PS keeps of every value. -/
def Obligations.ClampedWriteIsRecorded : Prop :=
  ∀ (port : HostPort) (value rid : Nat) (s : State), s.served port none = true → s.regsClosed 0x02 = false →
    Completes (.bar0Write port 0x02 0x04C 15 value rid none) s fun t =>
      let v := value % 2 ^ 16
      let k := if v < 310 then 310 else if 2000 < v then 2000 else v
      t.rd TIME.LIMIT_PS = k ∧
      (v = k → t.rd SYS.CLAMP_COUNT = s.rd SYS.CLAMP_COUNT ∧ Keeps [TIME.LIMIT_PS] s t) ∧
      (v ≠ k → s.rd SYS.CLAMP_COUNT < 2 ^ 32 - 1 →
        t.rd SYS.CLAMP_COUNT = s.rd SYS.CLAMP_COUNT + 1 ∧
        (s.rd SYS.HOLD_FIRST = 0 ∨ s.rd SYS.CL_VALID = 0 →
          t.rd SYS.CL_VALID = 1 ∧ t.rd SYS.CL_PAGE = 0x02 ∧ t.rd SYS.CL_OFFSET = 0x04C ∧ t.rd SYS.CL_LSB = 0 ∧
          t.rd SYS.CL_SOURCE = portSource port ∧ t.rd SYS.CLAMP_WROTE = v ∧ t.rd SYS.CLAMP_KEPT = k))

/-- What a write does by Kind (R44): a W1C bit clears where 1 is written, a CNT field takes the value, an SHD field's active
value stays until its commit point, and STS fields stay. Byte enables select the bits that a write reaches (R39): GROUP_MASK
takes the enabled bytes of the value and keeps the others. -/
def Obligations.WritesByKind : Prop :=
  (∀ (port : HostPort) (value rid : Nat) (s : State), s.served port none = true → s.regsClosed 0x02 = false →
    Completes (.bar0Write port 0x02 0x05C 15 value rid none) s fun t =>
      t.rd TIME.REF_LOST = (if bit value 1 then 0 else s.rd TIME.REF_LOST % 2) ∧ Keeps [TIME.REF_LOST] s t) ∧
  (∀ (port : HostPort) (value rid : Nat) (s : State), s.served port none = true → s.regsClosed 0x02 = false →
    Completes (.bar0Write port 0x02 0x060 15 value rid none) s fun t =>
      t.rd TIME.SERVO_LATE = value % 2 ^ 32 ∧ Keeps [TIME.SERVO_LATE] s t) ∧
  (∀ (port : HostPort) (value rid : Nat) (s : State), s.served port none = true → s.regsClosed 0x07 = false →
    Completes (.bar0Write port 0x07 0x054 15 value rid none) s fun t =>
      t.shadowOf SPN.KP = value % 2 ^ 16 ∧ t.shadowOf SPN.KI = bits value 16 16 ∧ t.rd SPN.KP = s.rd SPN.KP ∧
      t.rd SPN.KI = s.rd SPN.KI ∧ t.cells = s.cells) ∧
  (∀ (port : HostPort) (value rid : Nat) (s : State), s.served port none = true →
    Completes (.bar0Write port 0x02 0x040 15 value rid none) s fun t => t.rd TIME.STAGE_PS = s.rd TIME.STAGE_PS ∧ Keeps [] s t) ∧
  (∀ (port : HostPort) (page value rid : Nat) (s : State), s.served port none = true → pageExists page = true →
    pageNoLeaf page = false →
    Brings (.bar0Write port page 0x010 15 value rid none) s fun u =>
      (∀ i, i < 32 → bit (u.rd (Hdr.CAUSE page)) i = (bit (s.rd (Hdr.CAUSE page)) i && !bit value i)) ∧ Keeps [] s u) ∧
  (∀ (port : HostPort) (be value rid : Nat) (s : State), s.served port none = true → s.regsClosed 0x01 = false → be < 16 →
    Completes (.bar0Write port 0x01 0x048 be value rid none) s fun t =>
      (∀ i, i < 24 → bit (t.rd ATN.GROUP_MASK) i = if bit be (i / 8) then bit value i else bit (s.rd ATN.GROUP_MASK) i) ∧
      Keeps [ATN.GROUP_MASK] s t)

/-- The register writes that start a block's work (R146, R148, R174, R175, R178, R276, R505): what each field keeps, clamps
included. -/
def Obligations.BlockRegisterWritesComplete : Prop :=
  (∀ (port : HostPort) (value : Nat) (s : State), s.served port none = true → s.regsClosed 0x04 = false →
    Completes (.focCloseWrite port 1 value) s fun t =>
      t.rd FOC.CLOSE = bits value 0 1 ∧ t.rd FOC.AUTO_REACQ = bits value 1 1 ∧
      Keeps [FOC.CLOSE, FOC.AUTO_REACQ, FOC.HOLD_EN, FOC.FF_EN, FOC.LEARN_EN] s t) ∧
  (∀ (port : HostPort) (value : Nat) (s : State), s.served port none = true → s.regsClosed 0x05 = false →
    Completes (.trkCloseWrite port 1 value) s fun t =>
      t.rd TRK.CLOSE = bits value 0 1 ∧ t.rd TRK.AUTO_REACQ = bits value 1 1 ∧
      Keeps [TRK.CLOSE, TRK.AUTO_REACQ, TRK.HOLD_EN, TRK.FF_EN, TRK.LEARN_EN] s t) ∧
  (∀ (port : HostPort) (value : Nat) (s : State), s.served port none = true → s.regsClosed 0x08 = false →
    Completes (.lpcWaveWrite port 1 value) s fun t =>
      t.rd LPC.WAVE = min 2 (value % 4) ∧ Keeps (LPC.WAVE :: clampFields) s t) ∧
  (∀ (port : HostPort) (value : Nat) (s : State), s.served port none = true → s.regsClosed 0x07 = false →
    Completes (.spnCtlWrite port 1 value) s fun t =>
      t.rd SPN.HOLD_STOP = bits value 0 1 ∧ t.rd SPN.QUIET = bits value 1 1 ∧ t.rd SPN.SENSE = bits value 2 1 ∧
      Keeps [SPN.HOLD_STOP, SPN.QUIET, SPN.SENSE] s t) ∧
  (∀ (port : HostPort) (value : Nat) (s : State), s.served port none = true → s.regsClosed 0x07 = false →
    Completes (.speedCapWrite port 15 value) s fun t =>
      t.rd SPN.CAP_CD = min 96 (max 4 (value % 256)) ∧ t.rd SPN.CAP_DVD = min 32 (max 4 (bits value 16 8)) ∧
      Keeps (SPN.CAP_CD :: SPN.CAP_DVD :: clampFields) s t) ∧
  (∀ (port : HostPort) (k value : Nat) (s : State), s.served port none = true → s.regsClosed 0x07 = false → k < 16 →
    4 ≤ bits value 24 8 → bits value 24 8 ≤ 96 →
    Completes (.zoneTableWrite port false k 8 value) s fun t =>
      t.rd (SPN.CD_SPEED.at k) = bits value 24 8 ∧
      Keeps (SPN.CD_SPEED.at k :: (List.range 16).map SPN.CD_START.at ++ clampFields) s t) ∧
  (∀ (port : HostPort) (value : Nat) (s : State), s.served port none = true → s.regsClosed 0x0E = false → value ≤ 512 →
    Completes (.hostPagesWrite port 3 value) s fun t =>
      t.rd MEM.HOST_PAGES = value ∧ t.rd MEM.HOST_PEND = b2n (value ≠ s.rd MEM.HOST_NOW) ∧
      t.rd MEM.HOST_NOW = s.rd MEM.HOST_NOW ∧ Keeps [MEM.HOST_PAGES, MEM.HOST_PEND] s t) ∧
  (∀ (port : HostPort) (value : Nat) (s : State), s.served port none = true → s.regsClosed 0x16 = false →
    s.rd TRC.BUF_LOG2 ≤ 24 → s.rd TRC.STALLED = 0 → s.rd TRC.RUN = 0 →
    Completes (.traceRptrWrite port 15 value) s fun t =>
      t.rd TRC.RPTR = min (value % 2 ^ 24) (2 ^ s.rd TRC.BUF_LOG2 - 1) ∧ Keeps (TRC.RPTR :: clampFields) s t)

/-! ### Mirage -/

/-- Mirage's commands (R515, R516, R517, R518, R519, R521). -/
def Obligations.MirageCommandsComplete : Prop :=
  (∀ s : State, s.regsClosed 0x17 = false → s.mir.keyAt = none →
    Completes (.mirKeyWrite 0x5EED) s fun t => t.mir.keyAt = some s.elapsed ∧ Keeps [] s t) ∧
  (∀ (t0 : Nat) (s : State), s.regsClosed 0x17 = false → s.mir.keyAt = some t0 → s.elapsed - t0 ≤ 64 → s.rd MIR.UNLOCKED = 0 →
    Completes (.mirKeyWrite 0xA11E) s fun t =>
      t.rd MIR.UNLOCKED = 1 ∧ t.mir.keyAt = none ∧ (s.is (Hdr.GATED 0x17) = false → LeafSet t Lf.MIR.UNLOCKED) ∧
      Keeps [MIR.UNLOCKED] s t) ∧
  (∀ s : State, s.regsClosed 0x17 = false → s.rd MIR.UNLOCKED = 1 →
    Completes .mirLock s fun t =>
      t.rd MIR.UNLOCKED = 0 ∧ (∀ p, p < 0x1B → t.rd (Hdr.HOOK p) = 0) ∧ LeafSet t Lf.MIR.LOCKED) ∧
  (∀ s : State, s.is (Hdr.GATED 0x17) = false → s.rd MIR.UNLOCKED = 1 →
    Completes .mirAutoLock s fun t =>
      t.rd MIR.UNLOCKED = 0 ∧ (∀ p, p < 0x1B → t.rd (Hdr.HOOK p) = 0) ∧ LeafSet t Lf.MIR.LOCKED ∧ LeafSet t Lf.MIR.AUTO_LOCK) ∧
  (∀ (port : HostPort) (page k n : Nat) (s : State), s.served port none = true → s.rd MIR.UNLOCKED = 1 → pageExists page = true →
    1 ≤ k → k ≤ 5 → hookLegal page k = true → n < 8 →
    Completes (.mirHookWrite port page 15 (32 * k + n)) s fun t => t.rd (Hdr.HOOK page) = 32 * k + n ∧ Keeps [Hdr.HOOK page] s t) ∧
  (∀ (port : HostPort) (n value : Nat) (s : State), s.served port none = true → s.regsClosed 0x17 = false → n < 8 →
    Completes (.mirSlotWrite port (0x104 + 16 * n) 15 value) s fun t =>
      t.rd (MIR.PATTERN.at n) = value % 2 ^ 32 ∧ t.rd (MIR.DONE.at n) = 0 ∧ Keeps [MIR.PATTERN.at n, MIR.DONE.at n] s t) ∧
  (∀ (port : HostPort) (n value : Nat) (s : State), s.served port none = true → s.regsClosed 0x17 = false → n < 8 →
    Completes (.mirSlotWrite port (0x100 + 16 * n) 15 value) s fun t =>
      t.rd (MIR.SKIP.at n) = value % 2 ^ 16 ∧ t.rd (MIR.AMOUNT.at n) = bits value 16 16 ∧ t.rd (MIR.DONE.at n) = 0 ∧
      Keeps [MIR.SKIP.at n, MIR.AMOUNT.at n, MIR.DONE.at n] s t) ∧
  (∀ (page i : Nat) (s : State), s.mir.window.find? (fun (e : Nat × Nat) => e.1 == page) = some (page, i) →
    bit (s.rd (MIR.PATTERN.at (s.hookSlot page))) i = true → s.hookKind page = 2 → s.is (Hdr.QUIESCE 0x17) = false →
    s.mirExhausted (s.hookSlot page) = false → s.rd (MIR.SKIP.at (s.hookSlot page)) = 0 →
    Completes (.mirBackpressWindow page) s fun t => page ∈ t.mir.withheld)

/-! ### Calibration -/

/-- The calibration commands (R119 to R124, R127, R130): requests, the start and the steps of a run, its end, its abort, and a
restore's start and failure. A failed or aborted run, and a failed restore, write no value of the active set. -/
def Obligations.CalibrationCommandsComplete : Prop :=
  (∀ s : State, s.pageDown 0x03 = false → s.rd TIME.STATE ≠ 2 → s.rd CAL.RUN_GO = 0 → CAL.RUN_GO.key ∉ s.goWait →
    Completes .calRunGo s fun t => t.rd CAL.RUN_GO = 1 ∧ t.cal.wait = s.cal.wait ++ [.run none] ∧ Keeps [CAL.RUN_GO] s t) ∧
  (∀ s : State, s.pageDown 0x03 = false → s.rd TIME.STATE ≠ 2 → s.rd CAL.RESTORE_GO = 0 → CAL.RESTORE_GO.key ∉ s.goWait →
    Completes .calRestoreGo s fun t =>
      t.rd CAL.RESTORE_GO = 1 ∧ t.cal.wait = s.cal.wait ++ [.restore] ∧ Keeps [CAL.RESTORE_GO] s t) ∧
  (∀ (tag : Option Nat) (rest : List CalOp) (s : State), s.cal.wait = .run tag :: rest → s.cal.work = none → s.rd LPC.STATE = 0 →
    s.rd FOC.STATE = 0 → s.rd TRK.STATE = 0 → s.rd (Hdr.QUIESCE 0x03) = 0 → s.rd (Hdr.GATED 0x03) = 0 →
    Completes .calRunStart s fun t =>
      t.cal.work = some (.run tag) ∧ t.cal.wait = rest ∧ t.rd CAL.RUNNING = 1 ∧ t.rd CAL.STEP = 1 ∧
      Keeps [CAL.RUNNING, CAL.STEP] s t) ∧
  (∀ (m : CalMeas) (tag : Option Nat) (s : State), s.cal.work = some (.run tag) → s.rd CAL.STEP < 6 →
    s.is (Hdr.GATED 0x03) = false →
    Completes (.calRunStepEnd m) s fun t =>
      t.cal.work = s.cal.work ∧ t.rd CAL.STEP = s.rd CAL.STEP + 1 ∧ LeafSet t Lf.CAL.STEP_DONE ∧
      (s.rd CAL.STEP = 3 → t.rd CAL.DF_FOC = (segBad m.focSeg).length ∧ t.rd CAL.DF_TRK = (segBad m.trkSeg).length) ∧
      (s.rd CAL.STEP = 4 → t.rd CAL.TDC_GOOD = (tdcGood m.tdc).length ∧
        ((tdcGood m.tdc).length < 70 → LeafSet t Lf.CAL.TDC_SPARE_LOW)) ∧
      Keeps [CAL.STEP, CAL.TIA_FAIL, CAL.DF_FOC, CAL.DF_TRK, CAL.TDC_GOOD] s t) ∧
  (∀ (m : CalMeas) (s : State), s.cal.work = some (.run none) → s.rd CAL.STEP = 6 → s.cal.fail ≠ 0 → s.cal.fail < 16 →
    CAL.RUN_GO.key ∉ s.goWait → s.is (Hdr.GATED 0x03) = false →
    Completes (.calRunStepEnd m) s fun t =>
      t.cal.work = none ∧ t.rd CAL.LAST_RESULT = s.cal.fail ∧ t.rd CAL.RUNNING = 0 ∧ t.rd CAL.STEP = 0 ∧ t.rd CAL.RUN_GO = 0 ∧
      LeafSet t Lf.CAL.RUN_FAIL ∧ t.calKept = s.calKept ∧
      Keeps [CAL.LAST_RESULT, CAL.RUNNING, CAL.STEP, CAL.RUN_GO, CAL.RUNS] s t) ∧
  (∀ s : State, s.pageDown 0x03 = false → s.cal.work = some (.run none) → CAL.RUN_GO.key ∉ s.goWait →
    Completes .calRunAbort s fun t =>
      t.cal.work = none ∧ t.rd CAL.LAST_RESULT = 2 ∧ t.rd CAL.RUNNING = 0 ∧ t.rd CAL.STEP = 0 ∧ t.rd CAL.RUN_GO = 0 ∧
      LeafSet t Lf.CAL.RUN_ABORTED ∧ t.calKept = s.calKept ∧
      Keeps [CAL.LAST_RESULT, CAL.RUNNING, CAL.STEP, CAL.RUN_GO, CAL.RUNS] s t) ∧
  (∀ (rest : List CalOp) (s : State), s.cal.wait = .restore :: rest → s.cal.work = none → s.rd LPC.STATE = 0 → s.rd FOC.STATE = 0 →
    s.rd TRK.STATE = 0 → s.rd (Hdr.QUIESCE 0x03) = 0 → s.rd (Hdr.GATED 0x03) = 0 →
    Completes .calRestoreStart s fun t =>
      t.cal.work = some .restore ∧ t.cal.wait = rest ∧ t.rd CAL.RESTORING = 1 ∧
      t.cal.blob = (if s.rd CAL.SRC = 1 then s.calKept else some s.blobIn) ∧ Keeps [CAL.RESTORING] s t) ∧
  (∀ (residuals : List Int) (spanNow stageNow : Nat) (s : State), s.cal.work = some .restore → CAL.RESTORE_GO.key ∉ s.goWait →
    s.is (Hdr.GATED 0x03) = false → blobCheck s.cal.blob residuals spanNow stageNow ≠ 1 →
    Completes (.calRestoreEnd residuals spanNow stageNow) s fun t =>
      t.cal.work = none ∧ t.rd CAL.RESTORING = 0 ∧ t.rd CAL.LAST_RESULT = blobCheck s.cal.blob residuals spanNow stageNow ∧
      t.rd CAL.RESTORE_GO = 0 ∧ LeafSet t (blobLeaf (blobCheck s.cal.blob residuals spanNow stageNow)) ∧
      t.calKept = (if s.cal.fromKept then none else s.calKept) ∧
      Keeps [CAL.RESTORING, CAL.LAST_RESULT, CAL.RESTORE_GO, CAL.RESTORES] s t)

/-- A run whose steps all passed commits (R123, R126): VALID, SOURCE, STAGE_AT_CAL, the results and the retained copy, and a
restore whose checks all pass commits the blob's values (R129); the checks' order is that of R127. -/
def Obligations.CalibrationCommits : Prop :=
  (∀ (m : CalMeas) (s : State), s.cal.work = some (.run none) → s.rd CAL.STEP = 6 → s.cal.fail = 0 → CAL.RUN_GO.key ∉ s.goWait →
    s.is (Hdr.GATED 0x03) = false →
    Completes (.calRunStepEnd m) s fun t =>
      t.cal.work = none ∧ t.rd CAL.LAST_RESULT = 1 ∧ t.rd CAL.VALID = 1 ∧ t.rd CAL.SOURCE = 1 ∧ t.rd CAL.RUNNING = 0 ∧
      t.rd CAL.STEP = 0 ∧ t.rd CAL.RUN_GO = 0 ∧ t.rd CAL.STAGE_AT_CAL = s.rd TIME.STAGE_PS % 2 ^ 16 ∧
      t.rd CAL.GAIN_780 = s.cal.gain780 % 2 ^ 16 ∧ t.rd CAL.GAIN_650 = s.cal.gain650 % 2 ^ 16 ∧
      t.rd CAL.TIA_MAP = packMap s.cal.tiaMap % 2 ^ 32 ∧ t.rd CAL.SPAN_PS = s.cal.tdcDelay.foldl (· + ·) 0 % 2 ^ 16 ∧
      t.calKept.isSome = true ∧ LeafSet t Lf.CAL.RUN_DONE ∧ LeafSet t Lf.CAL.SAVE_DONE ∧
      Keeps ([CAL.TIA_MAP, CAL.TIA_OFS_AD, CAL.TIA_OFS_EH, CAL.RETIRE_FOC, CAL.RETIRE_TRK, CAL.TDC_SEL_0, CAL.TDC_SEL_1,
        CAL.TDC_SEL_2, CAL.SPAN_PS, CAL.GAIN_780, CAL.GAIN_650, CAL.VALID, CAL.SOURCE, CAL.STAGE_AT_CAL, CAL.LAST_RESULT, CAL.RUNNING,
        CAL.STEP, CAL.RUN_GO, CAL.RUNS] ++ (List.range 64).map CAL.BLOB_OUT.at) s t) ∧
  (∀ (residuals : List Int) (spanNow stageNow : Nat) (b : List Byte) (s : State), s.cal.work = some .restore →
    s.cal.blob = some b → CAL.RESTORE_GO.key ∉ s.goWait → s.is (Hdr.GATED 0x03) = false →
    blobCheck (some b) residuals spanNow stageNow = 1 →
    Completes (.calRestoreEnd residuals spanNow stageNow) s fun t =>
      t.cal.work = none ∧ t.rd CAL.LAST_RESULT = 1 ∧ t.rd CAL.VALID = 1 ∧ t.rd CAL.SOURCE = (if s.cal.fromKept then 3 else 2) ∧
      t.rd CAL.RESTORING = 0 ∧ t.rd CAL.RESTORE_GO = 0 ∧ t.rd CAL.TIA_MAP = leAt b 0x18 4 % 2 ^ 32 ∧
      t.rd CAL.SPAN_PS = leAt b 0x3C 2 % 2 ^ 16 ∧ t.rd CAL.STAGE_AT_CAL = leAt b 0x14 2 % 2 ^ 16 ∧
      LeafSet t Lf.CAL.RESTORE_DONE ∧ LeafSet t Lf.CAL.SAVE_DONE ∧
      Keeps ([CAL.TIA_MAP, CAL.TIA_OFS_AD, CAL.TIA_OFS_EH, CAL.RETIRE_FOC, CAL.RETIRE_TRK, CAL.TDC_SEL_0, CAL.TDC_SEL_1,
        CAL.TDC_SEL_2, CAL.SPAN_PS, CAL.GAIN_780, CAL.GAIN_650, CAL.VALID, CAL.SOURCE, CAL.STAGE_AT_CAL, CAL.LAST_RESULT, CAL.RESTORING,
        CAL.RESTORE_GO, CAL.RESTORES] ++ (List.range 64).map CAL.BLOB_OUT.at) s t) ∧
  (∀ (residuals : List Int) (spanNow stageNow : Nat), blobCheck none residuals spanNow stageNow = 10) ∧
  (∀ (b : List Byte) (residuals : List Int) (spanNow stageNow : Nat), leAt b 0 2 ≠ 0xCA1B →
    blobCheck (some b) residuals spanNow stageNow = 4) ∧
  (∀ (b : List Byte) (residuals : List Int) (spanNow stageNow : Nat), leAt b 0 2 = 0xCA1B → leAt b 4 2 = 0x0100 → leAt b 2 1 = 1 →
    leAt b 0xFE 2 ≠ crc16 (padTo 254 b) → blobCheck (some b) residuals spanNow stageNow = 6)

/-! ### Loops and laser -/

/-- The words of one sample, with no Mirage hook on FOC or TRK (R139, R141, R171, R181): SUM is A + B + C + D, FE is
(A + C − B − D) ÷ SUM and 0 where SUM is 0, both in FOC, and THETA is that of the sample; loops that are open drive 0, and
nothing else moves. -/
def Obligations.FocusTrackingSampleIsTaken : Prop :=
  ∀ (w : List Nat) (dpd : Int) (num den : Nat) (cross : Int) (period : Nat) (s : State), s.sampling = true →
    s.pageDown 0x04 = false → s.pageDown 0x05 = false → s.rd (Hdr.HOOK 0x04) = 0 → s.rd (Hdr.HOOK 0x05) = 0 → s.shadow = [] →
    s.rd TRC.RUNNING = 0 → s.rd FOC.STATE = 0 → s.rd TRK.STATE = 0 →
    Brings (.focusTrackingSample w dpd num den cross period) s fun u =>
      let g := fun (i : Nat) => (w[i]?).getD 0
      let sum := g 0 + g 1 + g 2 + g 3
      u.rd FOC.SUM = sum % 2 ^ 16 ∧
      u.rd FOC.ERR = toCode 16 (ratioQ15 (((g 0 + g 2 : Nat) : Int) - ((g 1 + g 3 : Nat) : Int)) sum) ∧
      (sum = 0 → u.rd FOC.ERR = 0) ∧
      u.rd SPN.THETA = s.thetaAt num den ∧ u.rd TRK.POS = s.rd TRK.POS ∧ u.rd FOC.DRIVE = 0 ∧ u.rd TRK.DRIVE = 0 ∧
      Keeps [FOC.SUM, FOC.ERR, TRK.SUM, TRK.ERR, SPN.THETA, FOC.DRIVE, TRK.DRIVE] s u

/-- The events of the loops (R147, R150, R151, R154, R155, R158, R159, R161, R167): a state of the loops before their
standing requests are pursued again. A revolution's learning (R157): each entry whose bin held only clean samples moves by
the bin's mean feedback ÷ 2^LEARN_SHIFT, and without LEARN_EN no entry changes. The steps of a layer jump (R152). -/
def Obligations.LoopEventsComplete : Prop :=
  (∀ s : State, s.rd FOC.STATE = 3 → s.rd FOC.TRIES ≤ s.opt.foc.sweeps → s.rd FOC.ACQ_FAILS < 2 ^ 16 - 1 → s.opt.jump = none →
    s.is (Hdr.GATED 0x04) = false →
    Brings .acqSweepExhausted s fun u =>
      u.rd FOC.STATE = 1 ∧ u.opt.foc.latched = true ∧ u.rd FOC.ACQ_FAILS = s.rd FOC.ACQ_FAILS + 1 ∧ LeafSet u Lf.SRV.FOC_ACQ_FAIL ∧
      Keeps [FOC.ACQ_FAILS] s u) ∧
  (∀ s : State, s.rd FOC.STATE = 4 → s.rd FOC.LOSS_N ≤ s.opt.foc.lossRun → s.rd TRK.STATE = 4 → s.opt.jump = none →
    s.is (Hdr.GATED 0x04) = false → s.is (Hdr.GATED 0x05) = false →
    Brings .focusLoss s fun u =>
      u.rd FOC.STATE = 1 ∧ u.rd FOC.LAST_LOSS = 1 ∧ u.rd TRK.STATE = 1 ∧ u.rd TRK.LAST_LOSS = 3 ∧ LeafSet u Lf.SRV.FOC_LOST ∧
      LeafSet u Lf.SRV.TRK_LOST ∧ Keeps [] s u) ∧
  (∀ s : State, s.rd TRK.STATE = 3 → s.is (Hdr.GATED 0x05) = false →
    Brings .trkPullinTimeout s fun u =>
      u.rd TRK.STATE = 1 ∧ u.opt.trk.latched = true ∧ LeafSet u Lf.SRV.TRK_PULLIN_FAIL ∧ Keeps [] s u) ∧
  (∀ s : State, s.rd TRK.STATE = 4 → 64 ≤ s.opt.trk.lockRun → s.rd TRK.LOCKED = 0 → s.is (Hdr.GATED 0x05) = false →
    Brings .trackingLock s fun u => u.rd TRK.LOCKED = 1 ∧ u.rd TRK.STATE = 4 ∧ LeafSet u Lf.SRV.TRK_LOCK ∧ Keeps [] s u) ∧
  (∀ s : State, s.rd TRK.STATE = 4 → s.rd TRK.LOSS_N ≤ s.opt.trk.lossRun → s.is (Hdr.GATED 0x05) = false →
    Brings .trackingLoss s fun u =>
      u.rd TRK.STATE = 1 ∧ u.rd TRK.LOCKED = 0 ∧ u.rd TRK.LAST_LOSS = 7 ∧ LeafSet u Lf.SRV.TRK_LOST ∧ Keeps [] s u) ∧
  (∀ s : State, s.rd FOC.STATE = 5 → s.rd FOC.RECOVER_N ≤ s.opt.foc.goodRun → s.segsNow = [] → s.opt.jump = none →
    s.rd FOC.HOLD_PRED = 0 → s.opt.foc.holdLow = false →
    Brings (.duneHoldExit .foc) s fun u => u.rd FOC.STATE = 4 ∧ u.rd FOC.HOLD_DROP = 0 ∧ Keeps [] s u) ∧
  (∀ s : State, s.rd FOC.STATE = 5 → s.sumBelow (s.rd FOC.SUM) FOC.DROP_FR = true → s.rd TRK.STATE = 0 → s.opt.jump = none →
    s.rd FOC.HOLD_PRED = 0 → s.opt.foc.holdLow = false → s.is (Hdr.GATED 0x04) = false →
    Brings (.duneHoldMax .foc) s fun u =>
      u.rd FOC.STATE = 1 ∧ u.rd FOC.LAST_LOSS = 2 ∧ LeafSet u Lf.SRV.FOC_DUNE_LONG ∧ LeafSet u Lf.SRV.FOC_LOST ∧ Keeps [] s u) ∧
  (∀ s : State, s.rd FOC.STATE = 1 → s.opt.jump = none →
    Brings (.loopReleaseDone .foc) s fun u => u.rd FOC.STATE = 0 ∧ u.rd FOC.DRIVE = 0 ∧ Keeps [] s u) ∧
  (∀ s : State, s.rd TRK.STATE = 1 →
    Brings (.loopReleaseDone .trk) s fun u => u.rd TRK.STATE = 0 ∧ u.rd TRK.DRIVE = 0 ∧ u.rd TRK.LOCKED = 0 ∧ Keeps [] s u) ∧
  (∀ s : State, s.sampling = true → s.rd TRK.STATE = 4 → s.is (Hdr.GATED 0x05) = false →
    Brings (.dacFault .trk) s fun u =>
      u.rd TRK.STATE = 0 ∧ u.rd TRK.DRIVE = 0 ∧ u.opt.trk.latched = true ∧ u.rd TRK.LAST_LOSS = 6 ∧
      LeafSet u Lf.SRV.TRK_DAC_FAULT ∧ LeafSet u Lf.SRV.TRK_LOST ∧ Keeps [] s u) ∧
  (∀ s : State, 1024 ≤ s.opt.foc.satRun → s.opt.foc.satSeen = false → s.rd FOC.SATS < 2 ^ 16 - 1 → s.is (Hdr.GATED 0x04) = false →
    Brings (.driveSatRun .foc) s fun u =>
      u.rd FOC.SATS = s.rd FOC.SATS + 1 ∧ LeafSet u Lf.SRV.FOC_SAT ∧ Keeps [FOC.SATS] s u) ∧
  (∀ s : State, s.pageDown 0x04 = false →
    Brings (.ffClear .foc) s fun u =>
      u.rd FOC.LEARNED = 0 ∧ (∀ k, k < 256 → u.rd (FOC.FF.at k) = 0) ∧ u.opt.foc.lastRev = [] ∧
      Keeps (FOC.LEARNED :: (List.range 256).map FOC.FF.at) s u) ∧
  (∀ s : State, s.pageDown 0x05 = false → Completes .crossClear s fun t => t.rd TRK.POS = 0 ∧ Keeps [TRK.POS] s t) ∧
  (∀ s : State, s.rd FOC.LEARN_EN = 0 → s.rd TRK.LEARN_EN = 0 → s.rd SPN.SENSE = 0 →
    Brings .ffLearnWrap s fun u => u.opt.foc.ended = none ∧ u.opt.trk.ended = none ∧ Keeps [] s u) ∧
  (∀ (k n : Nat) (fb tot : Int) (s : State), s.opt.foc.ended = some [(k, fb, tot, n, true)] → s.opt.trk.ended = none → k < 256 →
    s.rd FOC.LEARN_EN = 1 → s.rd SPN.SENSE = 0 →
    Brings .ffLearnWrap s fun u =>
      u.rdInt (FOC.FF.at k) =
        clampInt (-8192) 8192 (s.rdInt (FOC.FF.at k) + Config.quot 10 (Config.quot 9 fb n) (2 ^ s.rd FOC.LEARN_SHIFT)) ∧
      (∀ j, j < 256 → j ≠ k → u.rd (FOC.FF.at j) = s.rd (FOC.FF.at j)) ∧
      Keeps [FOC.FF.at k, FOC.RESID, FOC.REVS, FOC.LEARNED] s u) ∧
  (∀ s : State, s.pageDown 0x04 = false → s.rd FOC.JUMP_GO = 0 → s.drv.seek = none → s.drv.layers = 2 → s.rd FOC.STATE = 4 →
    s.rd TRK.STATE = 4 →
    Brings .layerJumpGo s fun u =>
      u.rd FOC.JUMP_GO = 1 ∧ u.rd FOC.STATE = 6 ∧ u.rd TRK.STATE = 6 ∧ u.opt.jump = some .kick ∧ Keeps [] s u) ∧
  (∀ s : State, s.pageDown 0x04 = false → s.rd FOC.JUMP_GO = 0 → s.drv.seek = none → s.drv.layers ≠ 2 → s.is (Hdr.GATED 0x04) = false →
    Brings .layerJumpGo s fun u => u.rd FOC.JUMP_GO = 0 ∧ LeafSet u Lf.SRV.LAYER_FAIL ∧ Keeps [] s u) ∧
  (∀ s : State, s.opt.jump = some .kick →
    Brings .layerJumpKickEnd s fun u => u.opt.jump = some .coast ∧ u.regs = s.regs ∧ Keeps [] s u) ∧
  (∀ s : State, s.opt.jump = some .brake → s.rd TRK.STATE = 6 → s.is (Hdr.GATED 0x04) = false →
    Brings .layerJumpBrakeEnd s fun u =>
      u.opt.jump = some .settle ∧ u.rd FOC.STATE = 4 ∧ u.rd TRK.STATE = 3 ∧ LeafSet u Lf.SRV.FOC_ACQ ∧ Keeps [FOC.SUM_AVG] s u) ∧
  (∀ s : State, s.opt.jump = some .coast → s.rd TRK.STATE = 6 → s.is (Hdr.GATED 0x04) = false → s.is (Hdr.GATED 0x05) = false →
    Brings .layerJumpTimeout s fun u =>
      u.opt.jump = none ∧ u.rd FOC.JUMP_GO = 0 ∧ u.rd FOC.STATE = 1 ∧ u.rd FOC.LAST_LOSS = 1 ∧ u.rd TRK.STATE = 1 ∧
      u.rd TRK.LAST_LOSS = 3 ∧ LeafSet u Lf.SRV.LAYER_FAIL ∧ LeafSet u Lf.SRV.FOC_LOST ∧ Keeps [] s u) ∧
  (∀ s : State, s.opt.jump = some .settle → 256 ≤ s.opt.jumpRun → s.is (Hdr.GATED 0x04) = false →
    Brings .layerJumpSettled s fun u =>
      u.opt.jump = none ∧ u.rd FOC.JUMP_GO = 0 ∧ LeafSet u Lf.SRV.LAYER_DONE ∧
      u.rd SLD.STATE = (if s.rd SLD.STATE = 2 then 4 else s.rd SLD.STATE) ∧ Keeps [SLD.STATE] s u)

/-- The laser's commands (R163 to R166): MON carries the corrected monitor word, a word at or above TRIP and a monitor that
stays dark latch the laser off, 64 good samples lock it, and REF_CAPTURE waits for the next LOCKED sample. -/
def Obligations.LaserCommandsComplete : Prop :=
  (∀ (mon : Nat) (s : State), s.sampling = true → s.pageDown 0x08 = false → s.rd (Hdr.HOOK 0x08) = 0 → s.shadow = [] →
    s.rd TRC.RUNNING = 0 → s.rd LPC.STATE = 0 →
    Brings (.lpcSample mon) s fun u =>
      u.rd LPC.MON = min 0xFFF (Config.quot 15 ((mon * s.rd (if s.rd LPC.LIT = 2 then CAL.GAIN_650 else CAL.GAIN_780) : Nat) : Int)
        4096).toNat ∧ Keeps [LPC.MON] s u) ∧
  (∀ (mon : Nat) (s : State), s.sampling = true → s.pageDown 0x08 = false → s.rd (Hdr.HOOK 0x08) = 0 → s.shadow = [] →
    s.rd TRC.RUNNING = 0 → s.rd LPC.STATE ≠ 0 → s.rd LPC.LIT = 1 → s.rd LPC.TRIPS < 2 ^ 16 - 1 → s.is (Hdr.GATED 0x08) = false →
    s.rd LPC.TRIP_780 ≤ (Config.quot 15 ((mon * s.rd CAL.GAIN_780 : Nat) : Int) 4096).toNat →
    Brings (.lpcSample mon) s fun u =>
      u.rd LPC.STATE = 0 ∧ u.rd LPC.DRIVE = 0 ∧ u.rd LPC.LIT = 0 ∧ u.rd LPC.LAST_OFF = 2 ∧ u.opt.laserLatched = true ∧
      u.rd LPC.TRIPS = s.rd LPC.TRIPS + 1 ∧ LeafSet u Lf.SRV.LPC_TRIP ∧ Keeps [LPC.MON, LPC.TRIPS] s u) ∧
  (∀ s : State, s.rd LPC.STATE ≠ 0 → 64 ≤ s.opt.limRun → s.rd LPC.TRIPS < 2 ^ 16 - 1 → s.is (Hdr.GATED 0x08) = false →
    Brings .laserMonFail s fun u =>
      u.rd LPC.STATE = 0 ∧ u.rd LPC.DRIVE = 0 ∧ u.rd LPC.LAST_OFF = 3 ∧ u.opt.laserLatched = true ∧
      u.rd LPC.TRIPS = s.rd LPC.TRIPS + 1 ∧ LeafSet u Lf.SRV.LPC_MON_FAIL ∧ Keeps [LPC.TRIPS] s u) ∧
  (∀ s : State, s.rd LPC.STATE = 2 → 64 ≤ s.opt.okRun → s.is (Hdr.GATED 0x08) = false →
    Brings .laserLocked s fun u =>
      u.rd LPC.STATE = 3 ∧ (s.opt.switched = true → LeafSet u Lf.SRV.LPC_SWITCHED) ∧ Keeps [] s u) ∧
  (∀ s : State, s.rd LPC.STATE = 1 → s.formatNow = s.rd CHN.FMT → Brings .laserRampDone s fun u => u.rd LPC.STATE = 2 ∧ Keeps [] s u) ∧
  (∀ s : State, s.rd LPC.STATE = 4 →
    Brings .laserRampDone s fun u => u.rd LPC.STATE = 0 ∧ u.rd LPC.LIT = 0 ∧ u.rd LPC.DRIVE = 0 ∧ Keeps [] s u) ∧
  (∀ s : State, s.rd LPC.STATE = 3 → 281 ≤ s.opt.overRun → s.is (Hdr.GATED 0x08) = false →
    Brings .lpcOverUnder s fun u => u.rd LPC.STATE = 2 ∧ LeafSet u Lf.SRV.LPC_OVER ∧ Keeps [] s u) ∧
  (∀ s : State, s.rd LPC.STATE = 3 → s.opt.overRun < 281 → 281 ≤ s.opt.underRun → s.is (Hdr.GATED 0x08) = false →
    Brings .lpcOverUnder s fun u => u.rd LPC.STATE = 2 ∧ LeafSet u Lf.SRV.LPC_UNDER ∧ Keeps [] s u) ∧
  (∀ s : State, s.pageDown 0x08 = false → s.rd LPC.REF_CAPTURE = 0 →
    Completes .refCapture s fun t =>
      t.rd LPC.REF_CAPTURE = 1 ∧ t.opt.cap780 = true ∧ t.opt.cap650 = true ∧ Keeps [LPC.REF_CAPTURE] s t)

/-! ### Spindle -/

/-- The spindle's commands (R175, R178, R180, R181, R182, R183). The effective speed (R175, R179): never above the zone's
SPEED, the format's cap, with QUIET the quiet cap, nor in a DOZE exit the exit's cap. -/
def Obligations.SpindleCommandsComplete : Prop :=
  (∀ (rpm now : Nat) (s : State), s.sampling = true → s.pageDown 0x07 = false → s.rd (Hdr.HOOK 0x07) = 0 → s.shadow = [] →
    s.rd TRC.RUNNING = 0 →
    Brings (.spindleSample rpm now) s fun u =>
      u.rd SPN.RPM = rpm % 2 ^ 16 ∧ u.rd SPN.NOW = now % 2 ^ 8 ∧
      (s.rd SPN.STATE = 0 → u.drv.ref = s.drv.ref) ∧
      (2 ≤ s.rd SPN.STATE → s.rd SPN.STATE ≤ 4 →
        u.drv.ref = rampTo s.drv.ref ((s.drv.target : Int) * 1125) (s.rd SPN.ACCEL * 64)) ∧
      Keeps [SPN.RPM, SPN.NOW] s u) ∧
  (∀ (hall ripple dead : Nat) (late : Bool) (s : State), s.pow.phase = .run → s.pageDown 0x07 = false → s.rd (Hdr.HOOK 0x07) = 0 →
    s.rd SPN.SENSE = 0 → 1 ≤ hall → hall ≤ 6 → (s.drv.comm + 1) % (6 * s.rd SPN.POLE_PAIRS) ≠ 0 →
    Brings (.commutationEvent hall late ripple dead) s fun u =>
      u.drv.comm = (s.drv.comm + 1) % (6 * s.rd SPN.POLE_PAIRS) ∧ Keeps [] s u) ∧
  (∀ (ripple dead : Nat) (late : Bool) (hall : Nat) (s : State), s.pow.phase = .run → s.pageDown 0x07 = false →
    s.rd (Hdr.HOOK 0x07) = 0 → s.rd SPN.SENSE = 0 → hall = 0 ∨ hall = 7 →
    Brings (.commutationEvent hall late ripple dead) s fun u =>
      u.drv.comm = s.drv.comm ∧ LeafSet u Lf.MOT.SPN_HALL_FAULT ∧ Keeps [] s u) ∧
  (∀ (hall ripple : Nat) (late : Bool) (s : State), s.pow.phase = .run → s.pageDown 0x07 = false → s.rd (Hdr.HOOK 0x07) = 0 →
    s.rd SPN.SENSE = 0 → 1 ≤ hall → hall ≤ 6 → (s.drv.comm + 1) % (6 * s.rd SPN.POLE_PAIRS) = 0 → ripple ≤ s.rd SPN.UNBAL_THR →
    s.rd SPN.REVS < 2 ^ 32 - 1 →
    Brings (.commutationEvent hall late ripple 0) s fun u =>
      u.drv.comm = 0 ∧ u.rd SPN.REVS = s.rd SPN.REVS + 1 ∧ u.rd SPN.RIPPLE = ripple % 2 ^ 16 ∧
      Keeps [SPN.REVS, SPN.RIPPLE] s u) ∧
  (∀ s : State, s.rd SPN.STATE = 1 →
    Brings .spindleAlignDone s fun u => u.rd SPN.STATE = 2 ∧ u.drv.ref = 0 ∧ Keeps [] s u) ∧
  (∀ s : State, s.rd SPN.STATE = 2 → 36 ≤ s.drv.lockRun → s.rd SPN.SENSE = 0 → s.is (Hdr.GATED 0x07) = false →
    Brings .spindleLock s fun u =>
      u.rd SPN.STATE = 3 ∧ u.rd SPN.ANGLE_OK = 1 ∧ u.rd SPN.LAST_SPINUP_MS = min 0xFFFF ((s.elapsed - s.drv.spinAt) / 1000) ∧
      LeafSet u Lf.MOT.SPN_UP ∧ Keeps [SPN.LAST_SPINUP_MS, SPN.ANGLE_OK] s u) ∧
  (∀ s : State, s.rd SPN.STATE = 4 → 36 ≤ s.drv.lockRun → s.is (Hdr.GATED 0x07) = false →
    Brings .spindleLock s fun u => u.rd SPN.STATE = 3 ∧ LeafSet u Lf.MOT.SPN_ZONE ∧ Keeps [] s u) ∧
  (∀ s : State, s.rd SPN.STATE = 5 → s.rd SPN.SENSE = 0 → s.is (Hdr.GATED 0x07) = false →
    Brings .spindleStopped s fun u =>
      u.rd SPN.STATE = 0 ∧ u.rd SPN.RPM = 0 ∧ u.rd SPN.NOW = 0 ∧ LeafSet u Lf.MOT.SPN_BRAKE_DONE ∧ LeafSet u Lf.MOT.SPN_STOPPED ∧
      Keeps [SPN.RPM, SPN.NOW] s u) ∧
  (∀ s : State, s.pow.phase = .run → s.is (Hdr.GATED 0x07) = false →
    Brings .spindleFaultPin s fun u => u.drv.latched = true ∧ LeafSet u Lf.MOT.SPN_OVERCURRENT ∧ Keeps [] s u) ∧
  (∀ s : State, 1 ≤ s.rd SPN.STATE → s.rd SPN.STATE ≤ 5 → s.rd SPN.STALLS < 2 ^ 16 - 1 → s.is (Hdr.GATED 0x07) = false →
    Brings .spindleStallTimeout s fun u =>
      u.drv.latched = true ∧ u.rd SPN.STALLS = s.rd SPN.STALLS + 1 ∧ LeafSet u Lf.MOT.SPN_STALL ∧ Keeps [SPN.STALLS] s u) ∧
  (∀ (s : State) (dvd quiet : Bool) (zone : Nat),
    s.speedAt dvd zone quiet ≤ s.zoneSpeed dvd zone ∧ s.speedAt dvd zone quiet ≤ s.rd (if dvd then SPN.CAP_DVD else SPN.CAP_CD) ∧
    (quiet = true → s.speedAt dvd zone quiet ≤ if dvd then 8 else 16) ∧
    (s.rd TIME.STATE = 1 → s.speedAt dvd zone quiet ≤ if dvd then 12 else 32) ∧
    (∀ r, s.rpmFor dvd r ≤ s.rd SPN.RPM_MAX))

/-! ### Sled and seeks -/

/-- The sled's commands (R184, R186, R187, R188). -/
def Obligations.SledCommandsComplete : Prop :=
  (∀ s : State, s.pageDown 0x06 = false → s.rd SLD.SEEK_GO = 0 → s.pow.phase = .run → s.rd TIME.STATE = 0 → s.pow.entry = none →
    Completes .seekGo s fun t =>
      t.rd SLD.SEEK_GO = 1 ∧
      t.drv.seeks = s.drv.seeks ++ [{ byGo := true, addr := s.rd SLD.TARGET, layer := s.rd SLD.LAYER }] ∧
      Keeps [SLD.SEEK_GO] s t) ∧
  (∀ (r : SeekReq) (rest : List SeekReq) (s : State), s.drv.seek = none → s.drv.seeks = r :: rest → s.mechOk = true →
    s.pageDown 0x06 = false → s.rd (Hdr.QUIESCE 0x06) = 0 → s.rd SLD.HOME = 0 → s.rd LDR.STATE = 6 → s.addrNow.2 = r.layer →
    s.rd SLD.SEEKS < 2 ^ 16 - 1 →
    Brings .seekStart s fun u =>
      let n := s.tracks s.addrNow.1 r.addr
      u.drv.seek = some r ∧ u.drv.seeks = rest ∧ u.rd SLD.SEEKS = s.rd SLD.SEEKS + 1 ∧ u.rd SLD.TRIES_USED = 1 ∧
      u.rd SLD.STATE = (if s.rd SLD.FINE_MAX < n then 1 else if n = 0 then 4 else 3) ∧
      Keeps [SLD.SEEKS, SLD.TRIES_USED, SLD.STATE] s u) ∧
  (∀ (position : Nat) (r : SeekReq) (s : State), s.drv.seek = some r → s.rd SLD.STATE = 1 → s.drv.seekAbort = false →
    s.addrNow.2 = r.layer → s.is (Hdr.GATED 0x06) = false →
    Brings (.seekCoarseDone position) s fun u =>
      u.rd SLD.STATE = 4 ∧ u.rd SLD.POSITION_UM = min position (s.rd SLD.OUTER_UM) % 2 ^ 16 ∧
      (s.rd SLD.OUTER_UM < position → LeafSet u Lf.MOT.SLD_OUTER) ∧ Keeps [SLD.STATE, SLD.POSITION_UM] s u) ∧
  (∀ (r : SeekReq) (s : State), s.drv.seek = some r → r.byGo = true → s.opt.jumpWait = false → SLD.SEEK_GO.key ∉ s.goWait →
    s.rd SLD.FAILS < 2 ^ 16 - 1 → s.is (Hdr.GATED 0x06) = false →
    Brings .seekTimeout s fun u =>
      u.drv.seek = none ∧ u.rd SLD.STATE = 0 ∧ u.rd SLD.LAST_RESULT = 2 ∧ u.rd SLD.SEEK_GO = 0 ∧
      u.rd SLD.FAILS = s.rd SLD.FAILS + 1 ∧ LeafSet u Lf.MOT.SLD_SEEK_FAIL ∧
      Keeps [SLD.STATE, SLD.LAST_RESULT, SLD.SEEK_GO, SLD.FAILS] s u) ∧
  (∀ (r : SeekReq) (s : State), s.pageDown 0x06 = false → s.drv.seek = some r → r.byGo = true → s.rd SLD.STATE = 3 →
    s.opt.jumpWait = false → SLD.SEEK_GO.key ∉ s.goWait →
    Brings .seekAbort s fun u =>
      u.drv.seek = none ∧ u.rd SLD.STATE = 0 ∧ u.rd SLD.LAST_RESULT = 3 ∧ u.rd SLD.SEEK_GO = 0 ∧ u.rd SLD.ABORT = 0 ∧
      LeafSet u Lf.MOT.SLD_ABORTED ∧ Keeps [SLD.STATE, SLD.LAST_RESULT, SLD.SEEK_GO, SLD.ABORT] s u) ∧
  (∀ (r : SeekReq) (s : State), s.pageDown 0x06 = false → s.drv.seek = some r → s.rd SLD.STATE = 1 →
    Brings .seekAbort s fun u => u.drv.seek = some r ∧ u.drv.seekAbort = true ∧ u.rd SLD.ABORT = 1 ∧ Keeps [SLD.ABORT] s u) ∧
  (∀ (position jumped : Nat) (s : State), s.sampling = true → s.pageDown 0x06 = false → s.rd (Hdr.HOOK 0x06) = 0 →
    s.rd TRC.RUNNING = 0 → s.rd SLD.STATE = 0 →
    Brings (.sledSample position jumped) s fun u =>
      u.rd SLD.POSITION_UM = min position (s.rd SLD.OUTER_UM) % 2 ^ 16 ∧
      u.rd SLD.STATE = (if s.rd SLD.FOLLOW_EN = 1 ∧ s.rd TRK.STATE = 4 then 6 else 0) ∧
      (s.rd SLD.OUTER_UM < position → LeafSet u Lf.MOT.SLD_OUTER) ∧ (16 < jumped → LeafSet u Lf.MOT.SLD_SHOCK) ∧
      Keeps [SLD.POSITION_UM, SLD.STATE] s u) ∧
  (∀ s : State, s.pageDown 0x06 = false → s.rd SLD.HOME = 0 → s.loopResult.length = 5 →
    Brings .homeGo s fun u =>
      u.rd SLD.HOME = 1 ∧ u.rd SLD.STATE = 5 ∧ u.loopResult[3]? = some (-((s.rd SLD.PWM_MAX / 2 : Nat) : Int)) ∧
      Keeps [SLD.HOME, SLD.STATE] s u) ∧
  (∀ s : State, s.rd SLD.HOME = 1 → s.rd SLD.STATE = 5 → SLD.HOME.key ∉ s.goWait → s.is (Hdr.GATED 0x06) = false →
    s.loopResult.length = 5 →
    Brings .homeReached s fun u =>
      u.rd SLD.HOME = 0 ∧ u.rd SLD.STATE = 0 ∧ u.rd SLD.POSITION_UM = 0 ∧ u.loopResult[3]? = some 0 ∧ LeafSet u Lf.MOT.SLD_HOME ∧
      Keeps [SLD.HOME, SLD.STATE, SLD.POSITION_UM] s u) ∧
  (∀ s : State, s.pow.phase = .run → s.is (Hdr.GATED 0x06) = false → s.loopResult.length = 5 →
    Brings .sledFaultPin s fun u => u.loopResult[3]? = some 0 ∧ LeafSet u Lf.MOT.SLD_OVERCURRENT ∧ Keeps [] s u) ∧
  (∀ s : State, s.rd SLD.STATE = 5 → s.drv.seek = none → SLD.HOME.key ∉ s.goWait → s.is (Hdr.GATED 0x06) = false →
    s.loopResult.length = 5 →
    Brings .sledStallTimeout s fun u =>
      u.rd SLD.STATE = 0 ∧ u.rd SLD.HOME = 0 ∧ u.loopResult[3]? = some 0 ∧ LeafSet u Lf.MOT.SLD_STALL ∧
      Keeps [SLD.STATE, SLD.HOME] s u)

/-! ### Loader and detection -/

/-- The loader's commands (R189, R190, R192), with both limit polarities at 0, so that a limit is active while its pin is
low. Detection and the eject's motion (R190, R191): the steps and what each shows. -/
def Obligations.LoaderCommandsComplete : Prop :=
  (∀ s : State, s.pageDown 0x1A = false → s.rd LDR.OPEN = 0 → s.rd LDR.STATE = 7 →
    Brings .loaderOpen s fun u =>
      u.rd LDR.OPEN = 1 ∧ u.rd LDR.STATE = 4 ∧ u.drv.outward = true ∧ LeafSet u Lf.LDR.EJECT_REQ ∧
      Keeps [LDR.OPEN, LDR.STATE] s u) ∧
  (∀ s : State, s.pageDown 0x1A = false → s.rd LDR.OPEN = 0 → s.rd LDR.STATE = 6 → s.drv.ejecting = false → s.drv.seek = none →
    s.ecd.units = [] → s.aud.play = none →
    Brings .loaderOpen s fun u =>
      u.rd LDR.OPEN = 1 ∧ u.drv.ejecting = true ∧ u.rd LDR.STATE = 6 ∧ LeafSet u Lf.LDR.EJECT_REQ ∧ Keeps [LDR.OPEN] s u) ∧
  (∀ s : State, s.pageDown 0x1A = false → s.rd LDR.CLOSE = 0 → s.rd LDR.STATE = 1 → s.rd LDR.MODE = 0 → s.rd LDR.LOADS < 2 ^ 16 - 1 →
    Brings .loaderClose s fun u =>
      u.rd LDR.CLOSE = 1 ∧ u.rd LDR.STATE = 2 ∧ u.drv.outward = false ∧ u.rd LDR.LOADS = s.rd LDR.LOADS + 1 ∧
      Keeps [LDR.CLOSE, LDR.STATE, LDR.LOADS] s u) ∧
  (∀ s : State, s.pageDown 0x1A = false → s.rd LDR.CLOSE = 0 → s.rd LDR.STATE = 6 →
    Brings .loaderClose s fun u => u.rd LDR.CLOSE = 0 ∧ LeafSet u Lf.LDR.STATE_ERR ∧ Keeps [LDR.CLOSE] s u) ∧
  (∀ s : State, s.pageDown 0x1A = false → s.rd LDR.DETECT = 0 → s.rd LDR.STATE = 3 → s.pow.phase = .run → s.rd TIME.STATE = 0 →
    s.pow.entry = none →
    Brings .loaderDetect s fun u =>
      u.rd LDR.DETECT = 1 ∧ u.rd LDR.STATE = 5 ∧ u.drv.detect = 1 ∧ u.drv.demand = true ∧ Keeps [LDR.DETECT, LDR.STATE] s u) ∧
  (∀ s : State, s.rd LDR.LIM_POL = 0 → s.drv.limA = true → s.pow.phase = .run → s.pageDown 0x1A = false → s.rd LDR.STATE = 2 →
    s.rd LDR.MODE = 0 → s.rd LDR.AUTO_DETECT = 0 → s.rd LDR.OPEN = 0 → s.rd LDR.CLOSE = 1 → LDR.CLOSE.key ∉ s.goWait →
    Brings (.limitAChange false) s fun u =>
      u.drv.limA = false ∧ u.rd LDR.STATE = 3 ∧ u.rd LDR.CLOSE = 0 ∧ LeafSet u Lf.LDR.TRAY_CLOSED ∧
      Keeps [LDR.STATE, LDR.CLOSE] s u) ∧
  (∀ s : State, s.rd LDR.LIM_POL = 0 → s.drv.limB = true → s.pow.phase = .run → s.pageDown 0x1A = false → s.rd LDR.STATE = 4 →
    s.rd LDR.MODE = 0 → s.rd LDR.OPEN = 1 → s.rd LDR.CLOSE = 0 → LDR.OPEN.key ∉ s.goWait →
    Brings (.limitBChange false) s fun u =>
      u.drv.limB = false ∧ u.rd LDR.STATE = 1 ∧ u.rd LDR.OPEN = 0 ∧ LeafSet u Lf.LDR.TRAY_OPEN ∧ Keeps [LDR.STATE, LDR.OPEN] s u) ∧
  (∀ s : State, s.pow.phase = .run → s.pageDown 0x1A = false → s.rd LDR.MODE = 1 → s.drv.slot = false → s.rd LDR.STATE = 1 →
    s.rd LDR.LOADS < 2 ^ 16 - 1 →
    Brings (.slotChange true) s fun u =>
      u.drv.slot = true ∧ u.rd LDR.STATE = 2 ∧ u.rd LDR.LOADS = s.rd LDR.LOADS + 1 ∧ LeafSet u Lf.LDR.SLOT_INSERT ∧
      Keeps [LDR.STATE, LDR.LOADS] s u) ∧
  (∀ s : State, s.pow.phase = .run → s.rd LDR.AUTO_EJECT = 1 → s.pageDown 0x1A = false → s.rd LDR.PREVENT = 1 →
    Brings .ejectButton s fun u =>
      u.drv.ejecting = s.drv.ejecting ∧ LeafSet u Lf.LDR.EJECT_REQ ∧ LeafSet u Lf.LDR.EJECT_LOCKED ∧ Keeps [] s u) ∧
  (∀ s : State, s.pow.phase = .run → s.rd LDR.AUTO_EJECT = 1 → s.pageDown 0x1A = false → s.rd LDR.PREVENT = 0 → s.rd LDR.STATE = 6 →
    s.drv.ejecting = false → s.drv.seek = none → s.ecd.units = [] → s.aud.play = none →
    Brings .ejectButton s fun u => u.drv.ejecting = true ∧ LeafSet u Lf.LDR.EJECT_REQ ∧ Keeps [] s u) ∧
  (∀ s : State, s.rd LDR.STATE = 2 → s.rd LDR.MODE = 0 → s.rd LDR.OPEN = 0 → s.rd LDR.CLOSE = 1 → LDR.CLOSE.key ∉ s.goWait →
    s.rd LDR.JAMS < 2 ^ 16 - 1 → s.is (Hdr.GATED 0x1A) = false →
    Brings .loadTimeout s fun u =>
      u.rd LDR.STATE = 4 ∧ u.rd LDR.CLOSE = 0 ∧ u.rd LDR.JAMS = s.rd LDR.JAMS + 1 ∧ LeafSet u Lf.LDR.TRAY_JAM ∧
      Keeps [LDR.STATE, LDR.CLOSE, LDR.JAMS] s u) ∧
  (∀ s : State, s.rd LDR.LIM_POL = 0 → s.drv.limA = false → s.drv.limB = false → s.pow.phase = .run → s.rd LDR.OPEN = 0 →
    s.rd LDR.CLOSE = 0 → s.is (Hdr.GATED 0x1A) = false →
    Brings .bothLimitsFault s fun u =>
      u.rd LDR.STATE = 7 ∧ LeafSet u Lf.LDR.LIMIT_A_FAULT ∧ LeafSet u Lf.LDR.LIMIT_B_FAULT ∧ Keeps [LDR.STATE] s u) ∧
  (∀ s : State, s.pow.phase = .run → s.is (Hdr.GATED 0x1A) = false →
    Brings .loaderFaultPin s fun u => u.drv.flt = 1 ∧ LeafSet u Lf.LDR.HB_OVERCURRENT ∧ Keeps [] s u) ∧
  (∀ s : State, s.drv.flt = 1 → s.is (Hdr.GATED 0x1A) = false →
    Brings .loaderThermalTimeout s fun u => u.drv.flt = 0 ∧ LeafSet u Lf.LDR.HB_THERMAL ∧ Keeps [] s u) ∧
  (∀ (r : DetectResult) (s : State), s.rd LDR.STATE = 5 → s.mechOk = true → s.drv.detect = 1 → r.chuckFail = false →
    Brings (.detectStepDone r) s fun u => u.drv.detect = 2 ∧ Keeps [] s u) ∧
  (∀ (r : DetectResult) (s : State), s.rd LDR.STATE = 5 → s.mechOk = true → s.drv.detect = 2 → r.at06 = 1 →
    s.is (Hdr.GATED 0x1A) = false →
    Brings (.detectStepDone r) s fun u =>
      u.drv.detect = 3 ∧ u.drv.layers = 1 ∧ u.rd LDR.DISC = 4 ∧ u.rd LDR.UPSIDE = 0 ∧ u.rd LDR.STATE = 5 ∧
      LeafSet u Lf.LDR.DISC_PRESENT ∧ LeafSet u Lf.LDR.DISC_DVD_SL ∧ LeafSet u Lf.LDR.MEDIA_CHANGE) ∧
  (∀ (r : DetectResult) (s : State), s.rd LDR.STATE = 5 → s.mechOk = true → s.drv.detect = 3 → r.rf = true → r.disc < 15 →
    Brings (.detectStepDone r) s fun u =>
      u.drv.detect = 4 ∧ u.rd LDR.DISC = r.disc ∧ u.rd LDR.BLANK = 0 ∧ Keeps [LDR.DISC, LDR.BLANK] s u) ∧
  (∀ s : State, s.drv.ejecting = true → s.ecd.units = [] → s.rd SPN.STATE = 0 → s.pow.pfail = false → s.pageDown 0x1A = false →
    Brings .ejectMotionStart s fun u =>
      u.drv.ejecting = false ∧ u.rd LDR.STATE = 4 ∧ u.rd LDR.DISC = 0 ∧ u.rd DEM.ADDR_VALID = 0 ∧ u.drv.discId = none ∧
      u.drv.demand = false ∧ LeafSet u Lf.LDR.DISC_ABSENT ∧ LeafSet u Lf.LDR.MEDIA_CHANGE)

/-! ### Read channel and demodulator -/

/-- The channel's commands (R204, R205, R206, R208, R209, R211, R213), with no Mirage hook on CHN. The demodulator's
commands (R214, R216, R218, R219, R220). -/
def Obligations.ChannelCommandsComplete : Prop :=
  (∀ s : State, s.pageDown 0x09 = false →
    Brings .eqLoad s fun u =>
      (∀ k, k < 7 → u.rd (CHN.EQ_NOW.at k) = s.rd (CHN.EQ_INIT.at k) % 2 ^ 12) ∧ u.rd CHN.EQ_LOAD = 0 ∧
      Keeps [CHN.EQ_LOAD] s u) ∧
  (∀ (errs : List Int) (s : State), s.rd CHN.STATE = 1 → s.rd (Hdr.HOOK 0x09) = 0 → (s.crossings errs).rateFits = true →
    (s.crossings errs).rmsBelow 256 10 = true → s.is (Hdr.GATED 0x09) = false →
    Brings (.timingLock errs) s fun u => u.rd CHN.STATE = 2 ∧ LeafSet u Lf.CHN.TIMING_LOCK ∧ Keeps [] s u) ∧
  (∀ (errs : List Int) (s : State), s.rd CHN.STATE = 2 → s.rd (Hdr.HOOK 0x09) = 0 → (s.crossings errs).rmsAbove 256 25 = true →
    s.rd CHN.LOCK_LOSSES < 2 ^ 16 - 1 → s.is (Hdr.GATED 0x09) = false →
    Brings (.timingLost errs) s fun u =>
      u.rd CHN.STATE = 1 ∧ u.rd CHN.LOCK_LOSSES = s.rd CHN.LOCK_LOSSES + 1 ∧ LeafSet u Lf.CHN.TIMING_LOST ∧
      Keeps [CHN.LOCK_LOSSES] s u) ∧
  (∀ (errs : List Int) (s : State), s.rd CHN.STATE = 3 → s.rd CHN.IN_DROP = 0 → s.rd (Hdr.HOOK 0x09) = 0 →
    (s.crossings errs).rmsBelow 64 10 = true →
    Brings (.freewheelRelock errs) s fun u => u.rd CHN.STATE = 2 ∧ u.rd CHN.RECAPTURE = 0 ∧ Keeps [] s u) ∧
  (∀ s : State, s.rd CHN.STATE = 3 → s.rd CHN.LOCK_LOSSES < 2 ^ 16 - 1 → s.is (Hdr.GATED 0x09) = false →
    Brings .freewheelTimeout s fun u =>
      u.rd CHN.STATE = 1 ∧ u.rd CHN.LOCK_LOSSES = s.rd CHN.LOCK_LOSSES + 1 ∧ LeafSet u Lf.CHN.TIMING_LOST ∧
      Keeps [CHN.LOCK_LOSSES] s u) ∧
  (∀ s : State, s.rd CHN.STATE = 1 → s.is (Hdr.GATED 0x09) = false →
    Brings .overrate s fun u => u.rd CHN.STATE = 1 ∧ LeafSet u Lf.CHN.OVERRATE ∧ Keeps [] s u) ∧
  (∀ (theta : Nat) (s : State), s.delivering = true → s.rd CHN.IN_DROP = 0 → s.pageDown 0x09 = false →
    s.rd CHN.DROPOUTS < 2 ^ 16 - 1 →
    Brings (.dropoutDeclared theta) s fun u =>
      u.rd CHN.IN_DROP = 1 ∧ u.rd CHN.DROPOUTS = s.rd CHN.DROPOUTS + 1 ∧ u.chn.dropTheta = theta ∧
      u.rd CHN.STATE = (if s.rd CHN.STATE = 2 then 3 else s.rd CHN.STATE) ∧ LeafSet u Lf.CHN.DROPOUT ∧
      Keeps [CHN.IN_DROP, CHN.DROPOUTS, CHN.FREEWHEELS] s u) ∧
  (∀ (theta : Nat) (s : State), s.rd CHN.IN_DROP = 1 → s.pageDown 0x09 = false →
    Brings (.dropoutEnd theta) s fun u =>
      u.rd CHN.IN_DROP = 0 ∧ u.rd CHN.RECAPTURE = (if s.rd CHN.STATE = 3 then 1 else 0) ∧ LeafSet u Lf.CHN.DROPOUT_END ∧
      Keeps [CHN.IN_DROP, ERG.REPORTS, ERG.MISSES, ERG.DROPPED, ERG.GRADE] s u) ∧
  (∀ s : State, s.delivering = true → s.rd CHN.IN_DROP = 1 → s.rd CHN.RF_OK = 1 → s.is (Hdr.GATED 0x09) = false →
    Brings .blankTimeout s fun u => u.rd CHN.STATE = 4 ∧ u.rd DEM.STATE = 3 ∧ LeafSet u Lf.CHN.BLANK ∧ Keeps [] s u) ∧
  (∀ s : State, s.rd CHN.STATE = 4 → Brings .blankEnd s fun u => u.rd CHN.STATE = 1 ∧ Keeps [] s u) ∧
  (∀ (theta : Nat) (s : State), s.pageDown 0x09 = false → s.rd CHN.RF_OK = 0 →
    Brings (.rfOkChange true theta) s fun u =>
      u.rd CHN.RF_OK = 1 ∧ (s.rd CHN.STATE ≠ 0 → LeafSet u Lf.CHN.RF_BACK) ∧ Keeps [CHN.RF_OK] s u) ∧
  (∀ (theta : Nat) (s : State), s.pageDown 0x09 = false → s.rd CHN.RF_OK = 1 → s.rd CHN.STATE = 2 → s.rd CHN.IN_DROP = 0 →
    Brings (.rfOkChange false theta) s fun u =>
      u.rd CHN.RF_OK = 0 ∧ u.rd CHN.IN_DROP = 1 ∧ u.rd CHN.STATE = 3 ∧ LeafSet u Lf.CHN.RF_LOST ∧ LeafSet u Lf.CHN.DROPOUT ∧
      Keeps [CHN.RF_OK, CHN.IN_DROP, CHN.DROPOUTS, CHN.FREEWHEELS] s u) ∧
  (∀ (b : BitBlock) (s : State), s.rd CHN.STATE = 1 → s.pageDown 0x09 = false → s.rd (Hdr.HOOK 0x09) = 0 → s.rd CHN.IN_DROP = 0 →
    Brings (.chnBitBlockBoundary b) s fun u =>
      u.rd CHN.SNR = b.snr % 2 ^ 16 ∧ u.rd CHN.ASYM = toCode 16 b.asym ∧ Keeps [CHN.SNR, CHN.ASYM] s u) ∧
  (∀ (b : BitBlock) (s : State), s.rd CHN.STATE = 2 → s.pageDown 0x09 = false → s.rd (Hdr.HOOK 0x09) = 0 → s.rd CHN.IN_DROP = 0 →
    s.shadow = [] → s.rd CHN.LEVEL_AD_EN = 1 → s.rd CHN.EQ_AD_EN = 0 →
    Brings (.chnBitBlockBoundary b) s fun u =>
      u.rd CHN.NOW_TOP = (clampInt 0 1023 (b.top - Config.quot 67 (b.top - b.bottom) 32)).toNat ∧
      u.rd CHN.NOW_BOT = (clampInt 0 1023 (b.bottom + Config.quot 68 (b.top - b.bottom) 32)).toNat ∧
      Keeps [CHN.SNR, CHN.ASYM, CHN.NOW_TOP, CHN.NOW_BOT] s u) ∧
  (∀ (id frame : Nat) (s : State), s.rd DEM.STATE = 0 → s.pageDown 0x0A = false → s.rd CHN.FMT = 1 →
    s.rd DEM.LOCK_N ≤ s.chn.syncs + 1 →
    Brings (.syncFound 0 id frame) s fun u =>
      u.rd DEM.STATE = 1 ∧ u.rd DEM.FRAME = frame % 256 ∧ u.rd DEM.SYNC_ID = id % 8 ∧ u.rd DEM.INSERT_RUN = 0 ∧
      LeafSet u Lf.CHN.SYNC_LOCK ∧ Keeps [DEM.FRAME, DEM.SYNC_ID] s u) ∧
  (∀ (ofs : Int) (id frame : Nat) (s : State), s.rd DEM.STATE = 2 → s.pageDown 0x0A = false → s.rd CHN.FMT = 0 →
    s.rd CHN.STATE = 2 → s.chn.through = true → ofs ≠ 0 → ofs.natAbs ≤ s.rd DEM.SYNC_WIN → s.rd CHN.SLIPS < 2 ^ 16 - 1 →
    s.is (Hdr.GATED 0x09) = false →
    Brings (.syncFound ofs id frame) s fun u =>
      u.rd DEM.STATE = 1 ∧ u.rd DEM.FRAME = (s.rd DEM.FRAME + 1) % 98 ∧ u.rd DEM.LAST_OFS = toCode 8 ofs ∧
      u.rd CHN.SLIPS = s.rd CHN.SLIPS + 1 ∧ LeafSet u Lf.CHN.TIMING_SLIP ∧
      Keeps [DEM.FRAME, DEM.SYNC_ID, DEM.LAST_OFS, CHN.SLIPS] s u) ∧
  (∀ s : State, s.rd DEM.STATE = 1 → s.pageDown 0x0A = false → s.rd DEM.INSERT_RUN + 1 < s.rd DEM.INSERT_MAX →
    s.rd DEM.INSERTS < 2 ^ 16 - 1 →
    Brings .syncInsert s fun u =>
      u.rd DEM.STATE = 2 ∧ u.rd DEM.INSERT_RUN = min 255 (s.rd DEM.INSERT_RUN + 1) ∧
      u.rd DEM.INSERTS = s.rd DEM.INSERTS + 1 ∧ u.rd DEM.FRAME = s.nextFrame ∧ LeafSet u Lf.CHN.SYNC_INSERT ∧
      Keeps [DEM.INSERTS, DEM.FRAME] s u) ∧
  (∀ s : State, s.rd DEM.STATE = 2 → s.pageDown 0x0A = false → s.rd DEM.INSERT_MAX ≤ s.rd DEM.INSERT_RUN + 1 →
    s.rd DEM.SYNC_LOSSES < 2 ^ 16 - 1 →
    Brings .syncInsert s fun u =>
      u.rd DEM.STATE = 0 ∧ u.rd DEM.SYNC_LOSSES = s.rd DEM.SYNC_LOSSES + 1 ∧ LeafSet u Lf.CHN.SYNC_LOST ∧
      Keeps [DEM.INSERTS, DEM.FRAME, DEM.SYNC_LOSSES] s u) ∧
  (∀ (data margin : Nat) (erased illegal inserted : Bool) (s : State), s.rd DEM.STATE ≠ 3 → s.pageDown 0x0A = false →
    s.rd DEM.ILLEGAL < 2 ^ 16 - 1 →
    Brings (.codewordDecode data margin erased illegal inserted) s fun u =>
      u.chn.entries = s.chn.entries ++
        [data + 256 * b2n (erased || inserted || margin < s.rd DEM.ERASE_THR) + 512 * min 7 (margin / 16)] ∧
      u.rd DEM.ILLEGAL = s.rd DEM.ILLEGAL + b2n illegal ∧ (illegal = true → LeafSet u Lf.CHN.ILLEGAL_CODE) ∧
      Keeps [DEM.ILLEGAL] s u) ∧
  (∀ (q : List Byte) (s : State), s.rd DEM.STATE ≠ 3 → s.pageDown 0x0A = false → s.rd CHN.FMT = 0 → qPasses q = false →
    s.rd DEM.SUBQ_ERRS < 2 ^ 16 - 1 →
    Brings (.subcodeBlock q true) s fun u =>
      u.rd DEM.SUBQ_ERRS = s.rd DEM.SUBQ_ERRS + 1 ∧ LeafSet u Lf.CHN.SUBQ_CRC ∧ u.rd DEM.SUBQ_0 = s.rd DEM.SUBQ_0 ∧
      (s.rd DEM.ADDR_VALID = 1 → u.rd DEM.ADDR = (s.rd DEM.ADDR + 1) % 2 ^ 24 ∧ u.rd DEM.PREDICTED = 1) ∧
      Keeps [DEM.SUBQ_ERRS, DEM.ADDR, DEM.PREDICTED] s u) ∧
  (∀ (q : List Byte) (a : Int) (s : State), s.rd DEM.STATE ≠ 3 → s.pageDown 0x0A = false → s.rd CHN.FMT = 0 → qPasses q = true →
    beAt q 0 1 % 16 = 1 → qLba q = some a → s.drv.seek = none → s.drv.slip = none →
    Brings (.subcodeBlock q true) s fun u =>
      u.chn.q = q ∧ u.rd DEM.SUBQ_0 = leAt q 0 4 % 2 ^ 32 ∧ u.rd DEM.ADDR = toCode 24 a ∧ u.rd DEM.ADDR_VALID = 1 ∧
      u.rd DEM.PREDICTED = 0 ∧ u.rd DEM.SRC = 0 ∧ u.rd DEM.LAYER = 0 ∧ LeafSet u Lf.CHN.SUBQ_READY ∧
      Keeps [DEM.SUBQ_0, DEM.ADDR, DEM.ADDR_VALID, DEM.PREDICTED, DEM.SRC, DEM.LAYER, DEM.ADDR_JUMPS] s u) ∧
  (∀ s : State, s.rd DEM.STATE ≠ 3 → s.pageDown 0x0A = false → s.rd CHN.FMT = 1 → s.rd DEM.ID_ERRS < 2 ^ 16 - 1 →
    Brings (.dvdIdField none) s fun u =>
      u.rd DEM.ID_ERRS = s.rd DEM.ID_ERRS + 1 ∧ LeafSet u Lf.CHN.ID_ERR ∧
      (s.rd DEM.ADDR_VALID = 1 → u.rd DEM.ADDR = (s.rd DEM.ADDR + 1) % 2 ^ 24 ∧ u.rd DEM.PREDICTED = 1) ∧
      Keeps [DEM.ID_ERRS, DEM.ADDR, DEM.PREDICTED] s u) ∧
  (∀ (v : Nat) (s : State), s.rd DEM.STATE ≠ 3 → s.pageDown 0x0A = false → s.rd CHN.FMT = 1 → s.drv.seek = none →
    s.drv.slip = none → s.rd DEM.ADDR_VALID = 0 →
    Brings (.dvdIdField (some v)) s fun u =>
      u.rd DEM.DVD_ID = v % 2 ^ 32 ∧
      (Config.reservedSector (bits v 24 8) = false →
        u.rd DEM.ADDR = v % 2 ^ 24 ∧ u.rd DEM.ADDR_VALID = 1 ∧ u.rd DEM.PREDICTED = 0 ∧ u.rd DEM.SRC = 1 ∧
        u.rd DEM.LAYER = bits v 24 1) ∧
      (Config.reservedSector (bits v 24 8) = true → u.rd DEM.ADDR_VALID = 0 ∧ LeafSet u Lf.CHN.ADDR_ERR) ∧
      Keeps [DEM.DVD_ID, DEM.ADDR, DEM.ADDR_VALID, DEM.PREDICTED, DEM.SRC, DEM.LAYER] s u) ∧
  (∀ (port : HostPort) (s : State), s.pageDown 0x0A = false →
    Completes (.subqRead port) s fun t =>
      .regData port 0xA04C (s.rd DEM.SUBQ_0) ∈ t.sent ∧ t.rd DEM.SUBQ_1 = leAt s.chn.q 4 4 % 2 ^ 32 ∧
      t.rd DEM.SUBQ_2 = leAt s.chn.q 8 4 % 2 ^ 32 ∧ Keeps [DEM.SUBQ_1, DEM.SUBQ_2] s t)

/-! ### Recovery ladder, averaging, the Erg map -/

/-- Decodes and re-reads (R229 to R236), with no Mirage hook on ECD: a unit of the direct CD-DA path that decodes is taken, one
that fails level 0 climbs to ERASURE, a unit that decodes nothing in a re-read attempt is read again until its attempts are
used, and a decode that no unit asked for is counted. -/
def Obligations.DecodeCommandsComplete : Prop :=
  (∀ (d : Decode) (s : State), s.pageDown 0x0B = false → s.unitAt d.addr d.layer = none → s.rd ECD.UNITS < 2 ^ 32 - 1 →
    Completes (.unitDecodeDone d) s fun t =>
      t.rd ECD.UNITS = s.rd ECD.UNITS + 1 ∧ t.chn.entries = [] ∧ t.ecd = s.ecd ∧ Keeps [ECD.UNITS] s t) ∧
  (∀ (d : Decode) (x : SectorDec) (u : EUnit) (s : State), s.pageDown 0x0B = false → s.ecd.units = [u] → d.addr = u.addr →
    d.layer = u.layer → u.direct = true → u.level = 0 → u.forced = 0 → u.need = 1 → d.sectors = [x] → x.index = 0 → x.kind = 0 →
    (∀ w ∈ d.c2, 2 * w.e + w.f ≤ 4 ∧ w.e ≤ 1) → s.rd (Hdr.HOOK 0x0B) = 0 → s.ryl.bserves = [] →
    Completes (.unitDecodeDone d) s fun t =>
      t.ecd.units = [] ∧ t.ecd.ready = s.ecd.ready ++ [ReadySec.mk u.addr x.data x.sub x.c2] ∧ t.rd ECD.ACTIVE = 0 ∧
      Keeps [ECD.UNITS, ECD.CORRECTED, ECD.ACTIVE, ECD.LEVEL] s t) ∧
  (∀ (d : Decode) (u : EUnit) (s : State), s.pageDown 0x0B = false → s.ecd.units = [u] → d.addr = u.addr → d.layer = u.layer →
    u.direct = true → u.level = 0 → u.need ≠ 0 → 1 ≤ u.most → d.sectors = [] → d.failed = none → s.rd (Hdr.HOOK 0x0B) = 0 →
    s.rd ECD.ERASURE_EN = 1 → s.drv.ejecting = false → s.ryl.bserves = [] → s.rd ECD.FAILS_L0 < 2 ^ 32 - 1 →
    Completes (.unitDecodeDone d) s fun t =>
      t.ecd.units = [{ u with level := 1, bad := [] }] ∧ t.rd ECD.FAILS_L0 = s.rd ECD.FAILS_L0 + 1 ∧ t.rd ECD.ACTIVE = 1 ∧
      t.rd ECD.LEVEL = 1 ∧ t.rd ECD.ADDR = u.addr % 2 ^ 24 ∧ LeafSet t Lf.ECC.LADDER_ERASURE ∧
      Keeps [ECD.UNITS, ECD.CORRECTED, ECD.FAILS_L0, ECD.ACTIVE, ECD.LEVEL, ECD.ADDR, ECD.LAYER] s t) ∧
  (∀ (d : Decode) (u : EUnit) (s : State), s.pageDown 0x0B = false → s.ecd.units = [u] → d.addr = u.addr → d.layer = u.layer →
    u.level = 2 → u.holding = true → u.need ≠ 0 → d.sectors = [] → s.rd (Hdr.HOOK 0x0B) = 0 →
    u.attempts + 1 < min u.tries (s.rd ECD.REREAD_N) →
    Completes (.rereadAttemptDone d) s fun t =>
      t.ecd.units = [{ u with attempts := u.attempts + 1, bad := [] }] ∧ Keeps [ECD.UNITS, ECD.CORRECTED] s t)

/-- Averaging's commands (R245, R246, R247, R248, R251, R252): the accumulator's grant, a pass left out, the first pass
added, and the unit's failure when the accumulator does not come or ABORT is written. Averaging's combined sample (R247): it
is within ±31, an erased sample adds nothing to its grid bit, and one pass alone gives its own samples. -/
def Obligations.AveragingCommandsComplete : Prop :=
  (∀ (r : PageReq) (rest : List PageReq) (s : State), s.mem.wait = r :: rest → r.use = .accum → s.rd AVG.STATE = 1 →
    s.allocOk = true → r.pages + s.rd MEM.RSV_PAGES ≤ s.freePages.length → s.withheld 0x0E = false →
    Completes .avgAccumulatorGrant s fun t =>
      t.mem.wait = rest ∧ t.rd AVG.HELD = 1 ∧ t.rd AVG.STATE = 2 ∧ Keeps [AVG.HELD, AVG.STATE] s t) ∧
  (∀ (u : EUnit) (s : State), s.avgUnit = some u → s.endsHere u → s.rd AVG.STATE = 1 →
    s.rd ECD.UNRECOVERED < 2 ^ 16 - 1 → s.is (Hdr.GATED 0x0B) = false → s.is (Hdr.GATED 0x0D) = false →
    Completes .avgAllocTimeout s fun t =>
      FailedOn s t u ∧ t.rd AVG.STATE = 0 ∧ t.rd AVG.BUSY = 0 ∧ t.rd AVG.HELD = 0 ∧ LeafSet t Lf.AVG.BUF_FULL) ∧
  (∀ (u : EUnit) (s : State), s.avgUnit = some u → s.endsHere u → s.pageDown 0x0D = false →
    s.rd ECD.UNRECOVERED < 2 ^ 16 - 1 → s.is (Hdr.GATED 0x0B) = false →
    Completes .avgAbort s fun t =>
      FailedOn s t u ∧ t.rd AVG.STATE = 0 ∧ t.rd AVG.BUSY = 0 ∧ t.rd AVG.ABORT = 0 ∧ LeafSet t Lf.AVG.ABORTED) ∧
  (∀ (p : Pass) (u : EUnit) (s : State), s.avgUnit = some u → s.rd AVG.STATE = 2 → s.pageDown 0x0D = false →
    s.rd (Hdr.HOOK 0x0D) = 0 → p.frames = [] → p.addr = none → s.avg.flat < 2 → s.avg.taken + 1 < s.avgMax → s.ryl.bserves = [] →
    s.rd AVG.SKIPS < 2 ^ 16 - 1 →
    Completes (.avgPassEnd p) s fun t =>
      t.avg.taken = s.avg.taken + 1 ∧ t.avg.acc = s.avg.acc ∧ t.rd AVG.STATE = 2 ∧ t.rd AVG.SKIPS = s.rd AVG.SKIPS + 1 ∧
      LeafSet t Lf.AVG.PASS_DONE ∧ LeafSet t Lf.AVG.REV_SKIP ∧ LeafSet t Lf.AVG.ALIGN_SYNC_LOST ∧
      Keeps [AVG.PASS_COUNT, AVG.ALIGN_FAILS, AVG.SKIPS, AVG.STATE] s t) ∧
  (∀ (p : Pass) (f : PassFrame) (u : EUnit) (s : State), s.avgUnit = some u → s.rd AVG.STATE = 2 → s.pageDown 0x0D = false →
    s.rd (Hdr.HOOK 0x0D) = 0 → p.frames = [f] → f.found = true → p.addr = none → s.rd AVG.PASSES = 0 → 2 ≤ s.avgMin →
    s.avg.flat < 2 → s.avg.taken + 1 < s.avgMax → s.ryl.bserves = [] →
    Completes (.avgPassEnd p) s fun t =>
      t.avg.acc = addFrame s.avg.acc f ∧ t.rd AVG.PASSES = 1 ∧ t.rd AVG.STATE = 2 ∧ LeafSet t Lf.AVG.PASS_DONE ∧
      Keeps [AVG.PASS_COUNT, AVG.ALIGN_FAILS, AVG.PASSES, AVG.BEST_SINGLE, AVG.STATE] s t) ∧
  (∀ (addr layer : Nat) (u : EUnit) (s : State), s.unitAt addr layer = some u → s.endsHere u → u.level = 4 →
    s.rd ECD.BORROW_PEERS ≤ u.asked.length → (∃ o ∈ s.ryl.opens, o.unit = some (addr, layer)) →
    s.rd ECD.UNRECOVERED < 2 ^ 16 - 1 → s.is (Hdr.GATED 0x0B) = false →
    Completes (.borrowTimeout addr layer) s fun t => FailedOn s t u ∧ (∀ o ∈ t.ryl.opens, o.unit ≠ some (addr, layer))) ∧
  (∀ (sum : Int) (n : Nat), -31 ≤ combined sum n ∧ combined sum n ≤ 31) ∧
  (∀ (l : List (Nat × Int × Nat)) (at_ : Nat), accAdd l at_ 0x20 = l) ∧
  (∀ v : Int, -31 ≤ v → v ≤ 31 → combined v 1 = v)

/-- The Erg map's commands (R240, R243, R244, R257). -/
def Obligations.ErgCommandsComplete : Prop :=
  (∀ s : State, s.pageDown 0x0C = false →
    Completes .ergClear s fun t =>
      t.erg.segs = [] ∧ t.rd ERG.GRADE = 0 ∧ t.rd ERG.CLEAR = 0 ∧ LeafSet t Lf.ERG.MAP_CLEARED ∧ Keeps [ERG.GRADE, ERG.CLEAR] s t) ∧
  (∀ (d : List Byte) (s : State), s.pageDown 0x0C = false → s.drv.discId = some d → s.rd ERG.SAVE_EN = 1 → s.rd OAS.STATE = 4 →
    Completes .ergSave s fun t =>
      t.maps.head? = some { ident := d, segs := s.erg.segs } ∧ t.rd ERG.SAVE = 0 ∧ LeafSet t Lf.ERG.MAP_SAVED ∧
      Keeps [ERG.SAVE] s t) ∧
  (∀ s : State, s.pageDown 0x0C = false → s.rd ERG.SCAN = 0 → s.pow.phase = .run → s.rd TIME.STATE = 0 → s.pow.entry = none →
    Completes .ergScan s fun t => t.rd ERG.SCAN = 1 ∧ t.rd ERG.SCANNING = 1 ∧ Keeps [ERG.SCAN, ERG.SCANNING] s t) ∧
  (∀ s : State, s.rd ERG.SCANNING = 1 → s.pageDown 0x0C = false → ERG.SCAN.key ∉ s.goWait →
    Completes .ergScanDone s fun t =>
      t.rd ERG.SCANNING = 0 ∧ t.rd ERG.LEARNED = 1 ∧ t.rd ERG.SCAN = 0 ∧ LeafSet t Lf.ERG.LEARN_DONE ∧
      Keeps [ERG.SCANNING, ERG.LEARNED, ERG.SCAN] s t) ∧
  (∀ (port : HostPort) (s : State), s.pageDown 0x0C = false →
    Completes (.segDataRead port) s fun t =>
      let ws := segWords (s.erg.segs.find? fun g => g.slot == s.rd ERG.SEG_INDEX)
      (∀ k, k < 4 → t.rd (ERG.SEG_DATA.at k) = (ws[k]?).getD 0 % 2 ^ 32) ∧
      .regData port 0xC060 ((ws[0]?).getD 0 % 2 ^ 32) ∈ t.sent ∧
      Keeps ((List.range 4).map ERG.SEG_DATA.at) s t)

/-! ### The sector cache -/

/-- A BAR4 read whose words carry no error returns the bytes of the cache (R259, R264, R287), and one of an uncorrectable
word is answered with Completer Abort (R268). A BAR4 write over words without errors (R265, R266, R267, R277): each enabled
byte takes its data where its word may be written over the window, every other byte of the cache keeps its value, and the
words' check bits are valid. -/
def Obligations.CacheWindowReadsAndWrites : Prop :=
  (∀ (off len : Nat) (hdr : List Nat) (s : State), s.rd HPT.DSTATE = 0 → s.pageDown 0x0E = false → s.windowOpen = true →
    s.rd (Hdr.HOOK 0x0E) = 0 → 0 < len → len ≤ 256 - off % 64 → off + len ≤ cacheBytes →
    (∀ w ∈ wordsOf off len, s.synd w = 0) →
    Completes (.bar4Read off len hdr false) s fun t =>
      .completion 0 ((List.range len).map fun i => cellGet s.cells (off + i)) false ∈ t.sent ∧ Keeps [] s t) ∧
  (∀ (w : Nat) (hdr : List Nat) (s : State), s.rd HPT.DSTATE = 0 → s.pageDown 0x0E = false → s.windowOpen = true →
    s.rd (Hdr.HOOK 0x0E) = 0 → w < 786432 → syndromeOf (s.synd w) = .bad → s.rd MEM.UE_READS < 2 ^ 16 - 1 →
    s.rd HPT.CA_SENT < 2 ^ 16 - 1 → s.is (Hdr.GATED 0x18) = false →
    Completes (.bar4Read (8 * w) 8 hdr false) s fun t =>
      .completion 4 [] false ∈ t.sent ∧ t.rd MEM.UE_READS = s.rd MEM.UE_READS + 1 ∧ t.rd HPT.CA_SENT = s.rd HPT.CA_SENT + 1 ∧
      (s.rd MEM.UL_VALID = 0 → t.rd MEM.UL_VALID = 1 ∧ t.rd MEM.UL_WORD = w ∧ t.rd MEM.UL_SYND = s.synd w % 256) ∧
      LeafSet t Lf.MEM.UE_READ ∧ LeafSet t Lf.MEM.UE_WINDOW ∧ LeafSet t Lf.HPT.CA_SENT ∧
      Keeps ([MEM.UE_READS, MEM.UL_VALID, MEM.UL_REQ, MEM.UL_SYND, MEM.UL_WORD, HPT.CA_SENT] ++ (List.range 4).map HPT.LAST_HDR.at) s t) ∧
  (∀ (off : Nat) (data : List Byte) (en : List Bool) (hdr : List Nat) (s : State), s.rd HPT.DSTATE = 0 → s.pageDown 0x0E = false →
    s.windowOpen = true → s.rd (Hdr.HOOK 0x0E) = 0 → (∀ w ∈ wordsOf off data.length, s.synd w = 0) →
    Completes (.bar4Write off data en hdr false) s fun t =>
      (∀ a, cellGet t.cells a =
        if off ≤ a ∧ a < off + data.length ∧ (en[a - off]?).getD true = true ∧ s.windowLands (8 * (a / 8)) = true
        then (data[a - off]?).getD 0 else cellGet s.cells a) ∧
      (∀ w ∈ wordsOf off data.length, t.synd w = 0) ∧ KeepsRegs [MEM.MERGES] s t)

/-- The scrubber (R260, R262, R274): a clean word is left, and a word of which one stored bit, any of the 72, has flipped
since reads as it did before the flip and carries no error any more. -/
def Obligations.ScrubRepairsAFlippedBit : Prop :=
  (∀ s : State, s.scrubbing = true → s.synd (s.rd MEM.SCRUB_POS) = 0 → s.rd MEM.SCRUB_POS + 1 < 786432 →
    Completes (.scrubWord [] false) s fun t => t.rd MEM.SCRUB_POS = s.rd MEM.SCRUB_POS + 1 ∧ Keeps [MEM.SCRUB_POS] s t) ∧
  (∀ (n : Nat) (s : State), n < 72 → s.scrubbing = true → s.synd (s.rd MEM.SCRUB_POS) = 0 → s.rd MEM.SCRUB_POS < 786432 →
    s.rd MEM.SCRUB_FIXES < 2 ^ 16 - 1 →
    Completes (.scrubWord [(s.rd MEM.SCRUB_POS, n)] false) s fun t =>
      (∀ a, cellGet t.cells a = cellGet s.cells a) ∧ t.synd (s.rd MEM.SCRUB_POS) = 0 ∧
      t.rd MEM.SCRUB_FIXES = s.rd MEM.SCRUB_FIXES + 1 ∧ LeafSet t Lf.MEM.SCRUB_FIXED ∧
      KeepsRegs [MEM.SCRUB_POS, MEM.SCRUB_FIXES, MEM.SCRUB_PASSES] s t)

/-- The cache's other commands (R271, R274, R275, R276, R281, R283). Poisoned data (R261, R277, R288): a poisoned BAR4 write
of a whole word is stored with syndrome 0xFF, and every TLP with EP is counted. -/
def Obligations.CacheCommandsComplete : Prop :=
  (∀ s : State, s.scrubbing = true → s.mem.scrubLate = false →
    Completes .scrubLate s fun t => t.mem.scrubLate = true ∧ LeafSet t Lf.MEM.SCRUB_LATE ∧ Keeps [] s t) ∧
  (∀ s : State, s.pageDown 0x0E = false →
    Completes .tblClearCe s fun t =>
      t.mem.ceTab = [] ∧ t.mem.ueTab = s.mem.ueTab ∧ t.rd MEM.CLEAR_CE = 0 ∧ Keeps [MEM.CLEAR_CE] s t) ∧
  (∀ s : State, s.pageDown 0x0E = false →
    Completes .tblClearUe s fun t =>
      t.mem.ueTab = [] ∧ t.mem.ceTab = s.mem.ceTab ∧ t.rd MEM.CLEAR_UE = 0 ∧ Keeps [MEM.CLEAR_UE] s t) ∧
  (∀ (port : HostPort) (e : TabEnt) (s : State), s.pageDown 0x0E = false → s.rd MEM.TABLE = 0 →
    (s.mem.ceTab.find? fun x => x.entry == s.rd MEM.ENTRY) = some e →
    Completes (.tblDataRead port 0) s fun t =>
      .regData port 0xE074 (2 ^ 31 + b2n e.cleared * 2 ^ 30 + e.synd * 2 ^ 20 + e.word) ∈ t.sent ∧
      t.rd MEM.TD_COUNT = e.count % 2 ^ 16 ∧ t.rd MEM.TD_BIT = e.bit % 2 ^ 8 ∧ Keeps [MEM.TD_COUNT, MEM.TD_BIT] s t) ∧
  (∀ (n source : Nat) (s : State), s.mem.hostPend = some (n, source) → s.hostReady n = true → s.allocOk = true → n < 2 ^ 10 →
    Completes .hostPagesTakeEffect s fun t =>
      t.rd MEM.HOST_NOW = n ∧ t.rd MEM.HOST_PEND = 0 ∧ t.mem.hostPend = none ∧
      Keeps ([MEM.HOST_NOW, MEM.HOST_PEND, OAS.RAW_BUF, AUD.RING_PAGE] ++ clampFields) s t) ∧
  (∀ (r : PageReq) (s : State), s.mem.wait = [r] → r.use = .audio → s.allocOk = true → s.rd (Hdr.HOOK 0x0E) = 0 →
    r.pages ≤ s.freePages.length →
    Completes .pageAllocGrant s fun t => t.mem.wait = [] ∧ Keeps [] s t) ∧
  (∀ (page : Nat) (s : State), (page, PageUse.cache) ∈ s.mem.owners → s.mem.ueTab = [] → s.que.cmds = [] →
    Completes (.pageFree page) s fun t =>
      (∀ o ∈ t.mem.owners, o.1 ≠ page) ∧ (∀ c ∈ t.mem.sectors, c.off / 0x1000 ≠ page) ∧ Keeps [] s t) ∧
  (∀ (w : Nat) (data : List Byte) (s : State), s.coreUp = true → s.rd HPT.DSTATE = 0 → s.pageDown 0x0E = false →
    s.windowOpen = true → s.windowLands (8 * w) = true → data.length = 8 → s.rd HPT.POISON_RCVD < 2 ^ 16 - 1 →
    s.is (Hdr.GATED 0x18) = false →
    Completes (.poisonedTlp (.bar4 (8 * w) data [])) s fun t =>
      (∀ i, i < 8 → cellGet t.cells (8 * w + i) = (data[i]?).getD 0) ∧ t.synd w = 0xFF ∧
      (∀ a, a / 8 ≠ w → cellGet t.cells a = cellGet s.cells a) ∧ t.rd HPT.POISON_RCVD = s.rd HPT.POISON_RCVD + 1 ∧
      LeafSet t Lf.HPT.POISON_RECEIVED ∧ KeepsRegs [HPT.POISON_RCVD] s t) ∧
  (∀ (hdr : List Nat) (s : State), s.coreUp = true → s.rd HPT.POISON_RCVD < 2 ^ 16 - 1 → s.rd HPT.DROPPED < 2 ^ 16 - 1 →
    s.is (Hdr.GATED 0x18) = false →
    Completes (.poisonedTlp (.bar02 hdr)) s fun t =>
      t.rd HPT.POISON_RCVD = s.rd HPT.POISON_RCVD + 1 ∧ t.rd HPT.DROPPED = s.rd HPT.DROPPED + 1 ∧
      (∀ k, k < 4 → t.rd (HPT.LAST_HDR.at k) = (hdr[k]?).getD 0 % 2 ^ 32) ∧ LeafSet t Lf.HPT.POISON_RECEIVED ∧
      LeafSet t Lf.HPT.TLP_DROPPED ∧ Keeps ([HPT.POISON_RCVD, HPT.DROPPED] ++ (List.range 4).map HPT.LAST_HDR.at) s t)

/-! ### PCIe -/

/-- The link, its errors and the other requests (R287, R288, R294, R308, R309). The resets of the function (R90, R294,
R308): pairs in host memory are gone, Bus Master Enable and the power state are those of reset, and the reset is under way
until FUNCTION_RESET_DONE. Configuration requests (R87, R285, R290, R308, R309): the identity, the answer before the engines
are released, and the writes of the power state and of the Command register. -/
def Obligations.PcieCommandsComplete : Prop :=
  (∀ (both5 : Bool) (s : State), s.coreUp = true → s.pow.perst = false → s.rd HPT.LINK_UP = 0 → s.is (Hdr.GATED 0x18) = false →
    Completes (.pcieLinkUp both5) s fun t =>
      t.rd HPT.LINK_UP = 1 ∧ t.rd HPT.SPEED = (if both5 = true ∧ s.rd HPT.GEN_MAX = 2 then 2 else 1) ∧ t.rd HPT.WIDTH = 1 ∧
      LeafSet t Lf.HPT.LINK_UP ∧ Keeps [HPT.LINK_UP, HPT.SPEED, HPT.WIDTH] s t) ∧
  (∀ s : State, s.coreUp = true → s.rd HPT.LINK_UP = 1 → s.rd HPT.RETRAIN = 0 →
    Completes .pcieRetrain s fun t => t.rd HPT.RETRAIN = 1 ∧ Keeps [HPT.RETRAIN] s t) ∧
  (∀ (both5 : Bool) (s : State), s.rd HPT.LINK_UP = 1 → HPT.RETRAIN.key ∉ s.goWait → s.is (Hdr.GATED 0x18) = false →
    Completes (.pcieRetrainDone true both5) s fun t =>
      t.rd HPT.LINK_UP = 1 ∧ t.rd HPT.SPEED = (if both5 = true ∧ s.rd HPT.GEN_MAX = 2 then 2 else 1) ∧ t.rd HPT.RETRAIN = 0 ∧
      LeafSet t Lf.HPT.RETRAIN ∧ Keeps [HPT.LINK_UP, HPT.SPEED, HPT.WIDTH, HPT.RETRAIN] s t) ∧
  (∀ (k : Nat) (s : State), s.coreUp = true → s.rd HPT.RECEIVER_ERRS < 2 ^ 16 - 1 → s.is (Hdr.GATED 0x18) = false →
    Completes (.receiverErr .receiver (some k)) s fun t =>
      t.rd HPT.RECEIVER_ERRS = s.rd HPT.RECEIVER_ERRS + 1 ∧ .errMsg k ∈ t.sent ∧ LeafSet t Lf.HPT.RECEIVER_ERR ∧
      LeafSet t Lf.HPT.ERR_MSG_SENT ∧ Keeps [HPT.RECEIVER_ERRS] s t) ∧
  (∀ (msg : Option Nat) (s : State), s.coreUp = true → s.is (Hdr.GATED 0x18) = false →
    Completes (.receiverErr .badTlp msg) s fun t => LeafSet t Lf.HPT.BAD_TLP ∧ Keeps [] s t) ∧
  (∀ (rollover : Bool) (msg : Option Nat) (s : State), s.coreUp = true → s.rd HPT.REPLAYS < 2 ^ 16 - 1 →
    s.is (Hdr.GATED 0x18) = false →
    Completes (.pcieReplayTimeout rollover msg) s fun t =>
      t.rd HPT.REPLAYS = s.rd HPT.REPLAYS + 1 ∧
      LeafSet t (if rollover then Lf.HPT.REPLAY_ROLLOVER else Lf.HPT.REPLAY_TIMEOUT) ∧ Keeps [HPT.REPLAYS] s t) ∧
  (∀ (hdr : List Nat) (s : State), s.coreUp = true → s.rd HPT.UR_SENT < 2 ^ 16 - 1 → s.is (Hdr.GATED 0x18) = false →
    Completes (.unsupportedRequest false hdr) s fun t =>
      .completion 1 [] false ∈ t.sent ∧ t.rd HPT.UR_SENT = s.rd HPT.UR_SENT + 1 ∧
      (∀ k, k < 4 → t.rd (HPT.LAST_HDR.at k) = (hdr[k]?).getD 0 % 2 ^ 32) ∧ LeafSet t Lf.HPT.UR_RECEIVED ∧
      Keeps (HPT.UR_SENT :: (List.range 4).map HPT.LAST_HDR.at) s t) ∧
  (∀ (hdr : List Nat) (s : State), s.coreUp = true → s.rd HPT.DROPPED < 2 ^ 16 - 1 → s.is (Hdr.GATED 0x18) = false →
    Completes (.unsupportedRequest true hdr) s fun t =>
      t.rd HPT.DROPPED = s.rd HPT.DROPPED + 1 ∧ (∀ k, k < 4 → t.rd (HPT.LAST_HDR.at k) = (hdr[k]?).getD 0 % 2 ^ 32) ∧
      LeafSet t Lf.HPT.TLP_DROPPED ∧ Keeps (HPT.DROPPED :: (List.range 4).map HPT.LAST_HDR.at) s t) ∧
  (∀ (hdr : List Nat) (s : State), s.coreUp = true →
    Completes (.pcieMessage .pmeTurnOff hdr) s fun t => .pmeToAck ∈ t.sent ∧ Keeps [] s t) ∧
  (∀ s : State, s.pow.perst = false → s.pow.phase ≠ .off → s.coreUp = true → s.is (Hdr.GATED 0x18) = false →
    Completes .perstAssert s fun t =>
      t.pow.perst = true ∧ t.pow.funcReset = true ∧ t.rd TIME.RC_PERST = 1 ∧ t.rd HPT.LINK_UP = 0 ∧ t.rd HPT.BME = 0 ∧
      t.rd HPT.DSTATE = 0 ∧ (∀ p ∈ t.que.pairs, p.loc = true) ∧ LeafSet t Lf.HPT.PERST) ∧
  (∀ s : State, Completes .perstDeassert s fun t => t.pow.perst = false ∧ Keeps [] s t) ∧
  (∀ s : State, s.pow.phase = .run → s.rd HPT.LINK_UP = 1 → s.is (Hdr.GATED 0x18) = false →
    Completes .functionLevelReset s fun t =>
      t.pow.funcReset = true ∧ t.rd TIME.RC_FLR = 1 ∧ t.rd HPT.LINK_UP = 1 ∧ t.rd HPT.BME = 0 ∧ t.rd HPT.DSTATE = 0 ∧
      (∀ p ∈ t.que.pairs, p.loc = true) ∧ LeafSet t Lf.HPT.FLR) ∧
  (∀ s : State, s.coreUp = true → s.rd HPT.LINK_UP = 1 →
    Completes .hotReset s fun t =>
      t.pow.funcReset = true ∧ t.rd HPT.LINK_UP = 1 ∧ t.rd HPT.BME = 0 ∧ t.rd HPT.DSTATE = 0 ∧ (∀ p ∈ t.que.pairs, p.loc = true)) ∧
  (∀ s : State, s.pow.funcReset = true → s.is (Hdr.GATED 0x00) = false →
    Completes .functionResetDone s fun t => t.pow.funcReset = false ∧ LeafSet t Lf.SYS.FLR_DONE ∧ Keeps [] s t) ∧
  (∀ s : State, s.rd HPT.LINK_UP = 1 → s.is (Hdr.GATED 0x18) = false →
    Completes .pcieLinkDown s fun t =>
      t.pow.funcReset = true ∧ t.rd HPT.LINK_UP = 0 ∧ t.rd HPT.SPEED = 0 ∧ t.rd HPT.WIDTH = 0 ∧ t.rd HPT.BME = 0 ∧
      (∀ p ∈ t.que.pairs, p.loc = true) ∧ LeafSet t Lf.HPT.LINK_DOWN) ∧
  (∀ (ident : Nat) (s : State), s.coreUp = true → s.rd HPT.LINK_UP = 1 → s.pow.phase = .run →
    Completes (.configRequest (.read 0x00) ident) s fun t => .completion 0 (leBytes 4 0x07241C3A) false ∈ t.sent ∧ Keeps [] s t) ∧
  (∀ (r : CfgReq) (ident : Nat) (s : State), s.coreUp = true → s.rd HPT.LINK_UP = 1 → s.pow.phase ≠ .run →
    Completes (.configRequest r ident) s fun t => .completion 2 [] false ∈ t.sent ∧ Keeps [] s t) ∧
  (∀ (ident : Nat) (s : State), s.coreUp = true → s.rd HPT.LINK_UP = 1 → s.pow.phase = .run → s.rd HPT.DSTATE = 0 →
    s.is (Hdr.GATED 0x18) = false →
    Completes (.configRequest (.write 0x44 15 3) ident) s fun t =>
      t.rd HPT.DSTATE = 3 ∧ t.rd HPT.OWN_ID = ident % 2 ^ 16 ∧ LeafSet t Lf.HPT.D3HOT ∧ Keeps [HPT.DSTATE, HPT.OWN_ID] s t) ∧
  (∀ (ident value : Nat) (s : State), s.coreUp = true → s.rd HPT.LINK_UP = 1 → s.pow.phase = .run → s.pci.readQ = [] →
    s.is (Hdr.GATED 0x18) = false →
    Completes (.configRequest (.write 0x04 3 value) ident) s fun t =>
      t.rd HPT.BME = bits value 2 1 ∧ t.pci.memEn = bit value 1 ∧ t.pci.intDisable = bit value 10 ∧
      (s.rd HPT.BME = 1 → bit value 2 = false → LeafSet t Lf.HPT.BME_OFF) ∧ Keeps [HPT.BME, HPT.OWN_ID] s t)

/-- Completions of DMA reads (R291, R293, R308): the last one gives its command the data, an unexpected one and one that does
not come are reported, and a failed one ends its command. -/
def Obligations.DmaCompletionsComplete : Prop :=
  (∀ (ptag : Nat) (data : List Byte) (r : DmaRead) (c : Cmd) (s : State), s.pci.reads = [r] → r.ptag = ptag → s.pci.readQ = [] →
    s.cmd r.ctag = some c → c.dmaGot = [] → data.length = r.len →
    Completes (.dmaReadCompletion ptag 0 data false) s fun t =>
      t.pci.reads = [] ∧ t.cmd r.ctag = some { c with dmaGot := [], dmaRead := false, dataIn := some data } ∧ Keeps [] s t) ∧
  (∀ (ptag status : Nat) (data : List Byte) (s : State), (∀ r ∈ s.pci.reads, r.ptag ≠ ptag) → s.is (Hdr.GATED 0x18) = false →
    Completes (.dmaReadCompletion ptag status data false) s fun t =>
      t.pci.reads = s.pci.reads ∧ LeafSet t Lf.HPT.CPL_UNEXPECTED ∧ Keeps [] s t) ∧
  (∀ (ptag : Nat) (r : DmaRead) (c : Cmd) (s : State), s.pci.reads = [r] → r.ptag = ptag → s.pci.readQ = [] →
    s.cmd r.ctag = some c → c.stage ≠ .ended → s.rd HPT.CPL_TIMEOUTS < 2 ^ 16 - 1 → s.is (Hdr.GATED 0x18) = false →
    s.is (Hdr.GATED 0x0F) = false →
    Completes (.completionTimeout (some ptag)) s fun t =>
      t.pci.reads = [] ∧ (∃ d, t.cmd r.ctag = some d ∧ d.stage = .ended ∧ d.status = stHostMemory) ∧
      t.rd HPT.CPL_TIMEOUTS = s.rd HPT.CPL_TIMEOUTS + 1 ∧ LeafSet t Lf.HPT.CPL_TIMEOUT ∧ LeafSet t Lf.QUE.DMA_ERR ∧
      Keeps [HPT.CPL_TIMEOUTS] s t)

/-! ### The serial port -/

/-- The serial port's transactions, once the engines are released (R295 to R302, R308, R309): READY and the dword of each read,
whole dwords of a write stored, the two bytes of STATUS, unknown opcodes and cut transactions recorded, the wait limit, and a
buffered access applied. -/
def Obligations.SerialCommandsComplete : Prop :=
  (∀ (mode3 : Bool) (s : State), s.pow.phase = .run → s.rd HPT.WAIT_MAX ≠ 0 → s.regsClosed 0x01 = false →
    Completes (.serialRead mode3 0x1048 1 []) s fun t =>
      .serial (tokByte 0x5A :: leBytes 4 (s.rd ATN.GROUP_MASK)) ∈ t.sent ∧ t.rd HPT.MODE3 = b2n mode3 ∧ t.rd HPT.QUAD = 0 ∧
      Keeps [HPT.MODE3, HPT.QUAD, HPT.TRANSACTIONS] s t) ∧
  (∀ (mode3 : Bool) (a : Nat) (s : State), s.pow.phase = .run → s.rd HPT.WAIT_MAX ≠ 0 → serTarget a = .nothing →
    Completes (.serialRead mode3 a 1 []) s fun t =>
      .serial [0x5A, 0, 0, 0, 0] ∈ t.sent ∧ Keeps [HPT.MODE3, HPT.QUAD, HPT.TRANSACTIONS] s t) ∧
  (∀ (mode3 : Bool) (s : State), s.pow.phase = .run → s.rd HPT.WAIT_MAX ≠ 0 → s.regsClosed 0x01 = false → s.rd HPT.QUAD_EN = 1 →
    Completes (.serialQread mode3 0x1048 1 []) s fun t =>
      .serial (tokByte 0x5A :: leBytes 4 (s.rd ATN.GROUP_MASK)) ∈ t.sent ∧ t.rd HPT.MODE3 = b2n mode3 ∧ t.rd HPT.QUAD = 1 ∧
      Keeps [HPT.MODE3, HPT.QUAD, HPT.TRANSACTIONS] s t) ∧
  (∀ (mode3 : Bool) (data : List Byte) (s : State), s.pow.phase = .run → s.regsClosed 0x01 = false → s.pci.serBuf = [] →
    data.length = 4 → s.rd HPT.RESULT = 0x5A →
    Completes (.serialWrite mode3 0x1048 data) s fun t =>
      t.rd ATN.GROUP_MASK = leAt data 0 4 % 2 ^ 24 ∧ t.rd HPT.RESULT = 0x5A ∧ t.pci.serBuf = [] ∧
      Keeps [ATN.GROUP_MASK, HPT.RESULT, HPT.MODE3, HPT.QUAD, HPT.TRANSACTIONS] s t) ∧
  (∀ (mode3 : Bool) (data : List Byte) (s : State), s.pow.phase = .run → s.regsClosed 0x01 = false → s.pci.serBuf = [] →
    data.length = 4 → s.rd HPT.RESULT = 0x5A → s.rd HPT.QUAD_EN = 1 →
    Completes (.serialQwrite mode3 0x1048 data) s fun t =>
      t.rd ATN.GROUP_MASK = leAt data 0 4 % 2 ^ 24 ∧ t.rd HPT.RESULT = 0x5A ∧ t.rd HPT.QUAD = 1 ∧
      Keeps [ATN.GROUP_MASK, HPT.RESULT, HPT.MODE3, HPT.QUAD, HPT.TRANSACTIONS] s t) ∧
  (∀ (mode3 : Bool) (data : List Byte) (s : State), s.pow.phase = .run → s.rd HPT.QUAD_EN = 0 → s.rd HPT.RESULT = 0x5A →
    s.is (Hdr.GATED 0x18) = false →
    Completes (.serialQwrite mode3 0x1048 data) s fun t =>
      t.rd HPT.RESULT = 0xE6 ∧ t.rd HPT.LAST_ERR = 0xE6 ∧ LeafSet t Lf.HPT.SPI_CMD_ERR ∧
      Keeps [HPT.RESULT, HPT.LAST_ERR, HPT.MODE3, HPT.QUAD, HPT.TRANSACTIONS] s t) ∧
  (∀ (mode3 : Bool) (s : State), s.pow.phase = .run → s.rd HPT.RESULT = 0x5A → s.pci.serBuf = [] → s.rd ATN.PIN_EN = 0 →
    s.rd ATN.WAKE_HOLD = 0 →
    Completes (.serialStatus mode3) s fun t =>
      .serial [0x80, 0x5A] ∈ t.sent ∧ Keeps [HPT.MODE3, HPT.QUAD, HPT.TRANSACTIONS] s t) ∧
  (∀ (mode3 : Bool) (op : Nat) (s : State), s.pow.phase = .run → op ∉ [0x0B, 0x02, 0x05, 0x3B, 0x32] → s.rd HPT.RESULT = 0x5A →
    s.is (Hdr.GATED 0x18) = false →
    Completes (.serialBadOpcode mode3 op) s fun t =>
      t.rd HPT.RESULT = 0xE6 ∧ t.rd HPT.LAST_ERR = 0xE6 ∧ LeafSet t Lf.HPT.SPI_CMD_ERR ∧
      Keeps [HPT.RESULT, HPT.LAST_ERR, HPT.MODE3, HPT.QUAD, HPT.TRANSACTIONS] s t) ∧
  (∀ (mode3 quad : Bool) (s : State), s.pow.phase = .run → s.rd HPT.ABORTS < 2 ^ 16 - 1 → s.is (Hdr.GATED 0x18) = false →
    Completes (.serialCsAbort mode3 quad .opcode) s fun t =>
      t.rd HPT.ABORTS = s.rd HPT.ABORTS + 1 ∧ LeafSet t Lf.HPT.SPI_ABORT ∧
      Keeps [HPT.ABORTS, HPT.MODE3, HPT.QUAD, HPT.TRANSACTIONS] s t) ∧
  (∀ (mode3 : Bool) (a : Nat) (s : State), s.pow.phase = .run → s.rd HPT.ERR_BYTES < 2 ^ 16 - 1 → s.is (Hdr.GATED 0x18) = false →
    Completes (.serialWaitLimit mode3 false a) s fun t =>
      .serial (List.replicate (s.rd HPT.WAIT_MAX) (tokByte 0xF0) ++ [tokByte 0xE3]) ∈ t.sent ∧ t.rd HPT.LAST_ERR = 0xE3 ∧
      t.rd HPT.ERR_BYTES = s.rd HPT.ERR_BYTES + 1 ∧ LeafSet t Lf.HPT.SPI_WAIT_LONG ∧ LeafSet t Lf.HPT.SPI_ERR_BYTE ∧
      Keeps [HPT.LAST_ERR, HPT.ERR_BYTES, HPT.MODE3, HPT.QUAD, HPT.TRANSACTIONS] s t) ∧
  (∀ (value : Nat) (s : State), s.pow.phase = .run → s.pci.serBuf = [.reg 0x1048 value] → s.regsClosed 0x01 = false →
    s.rd HPT.RESULT = 0xF0 →
    Completes .serialBufferedApply s fun t =>
      t.pci.serBuf = [] ∧ t.rd ATN.GROUP_MASK = value % 2 ^ 24 ∧ t.rd HPT.RESULT = 0x5A ∧ Keeps [ATN.GROUP_MASK, HPT.RESULT] s t)


/-! ### Queue pairs, commands and completions -/

/-- QP_CMD and its ends (R312, R313, R314): CREATE makes the selected pair from CFG and the bases or is refused, DELETE
stops fetching and discards unfetched entries, ABORT ends fetched commands ABORTED, and each ends when nothing of the pair
is left. The queue engine's waits, its thresholds, LAT_CLR and read-ahead (R329, R335, R337, R342, R343, R372). -/
def Obligations.QueuePairCommandsComplete : Prop :=
  (∀ s : State, PageUp s 0x0F → s.pair (s.rd QUE.SEL_SLICE) (s.rd QUE.SEL_QP) = none → s.bound (s.rd QUE.SEL_SLICE) = true →
    s.is QUE.CFG_LOC = false → s.rd QUE.CFG_DEPTH ≤ 2 ^ s.rd (SLC.DEPTH_LOG2.at (s.rd QUE.SEL_SLICE)) →
    Completes .qpCreate s fun t =>
      t.pair (s.rd QUE.SEL_SLICE) (s.rd QUE.SEL_QP) =
        some { slice := s.rd QUE.SEL_SLICE, qp := s.rd QUE.SEL_QP, depth := s.rd QUE.CFG_DEPTH, loc := false,
               atomic := s.is QUE.CFG_ATOMIC, sqBase := s.rd QUE.SQ_BASE_LO * 64 + s.rd QUE.SQ_BASE_HI * 2 ^ 32,
               cqBase := s.rd QUE.CQ_BASE_LO * 16 + s.rd QUE.CQ_BASE_HI * 2 ^ 32 } ∧
      t.rd QUE.LAST_RESULT = 1 ∧ LeafSet t Lf.QUE.SQ_CREATED ∧ LeafSet t Lf.QUE.CQ_CREATED ∧
      Keeps [QUE.LAST_RESULT, QUE.QP_CREATE] s t) ∧
  (∀ (p : QPair) (s : State), PageUp s 0x0F → s.pair (s.rd QUE.SEL_SLICE) (s.rd QUE.SEL_QP) = some p →
    Completes .qpCreate s fun t =>
      t.que.pairs = s.que.pairs ∧ t.rd QUE.LAST_RESULT = 2 ∧ Keeps [QUE.LAST_RESULT, QUE.QP_CREATE] s t) ∧
  (∀ (p : QPair) (s : State), PageUp s 0x0F → s.pair (s.rd QUE.SEL_SLICE) (s.rd QUE.SEL_QP) = some p → s.rd QUE.QP_DELETE = 0 →
    Completes .qpDelete s fun t =>
      t.pair p.slice p.qp = some { p with state := .draining, byGo := true } ∧
      (∀ a ∈ t.que.accepted, a ∈ s.que.accepted ∧ ¬(a.slice = p.slice ∧ a.qp = p.qp)) ∧ t.que.cmds = s.que.cmds ∧
      t.rd QUE.QP_DELETE = 1 ∧ t.rd QUE.LAST_RESULT = 1 ∧ Keeps [QUE.LAST_RESULT, QUE.QP_DELETE] s t) ∧
  (∀ (slice qp : Nat) (p : QPair) (s : State), s.pair slice qp = some p → p.state = .draining → p.byGo = true →
    s.pairIdle slice qp = true → QUE.QP_DELETE.key ∉ s.goWait → s.is (Hdr.GATED 0x0F) = false →
    Completes (.qpDeleteDone slice qp) s fun t =>
      t.pair slice qp = none ∧ t.rd QUE.QP_DELETE = 0 ∧ LeafSet t Lf.QUE.SQ_DRAINED ∧ LeafSet t Lf.QUE.SQ_DELETED ∧
      LeafSet t Lf.QUE.CQ_DELETED ∧ Keeps [QUE.QP_DELETE] s t) ∧
  (∀ (p : QPair) (c : Cmd) (s : State), PageUp s 0x0F → s.pair (s.rd QUE.SEL_SLICE) (s.rd QUE.SEL_QP) = some p →
    s.rd QUE.QP_ABORT = 0 → p.state = .active → s.que.cmds = [c] → c.slice = p.slice → c.qp = p.qp → c.stage ≠ .ended →
    s.playsTag c.tag = false →
    Completes .qpAbort s fun t =>
      t.pair p.slice p.qp = some { p with state := .aborting, byGo := true } ∧
      t.cmd c.tag = some { c with stage := .ended, status := stAborted, specific := 0, residual := 0, senseLba := none } ∧
      t.rd QUE.QP_ABORT = 1 ∧ t.rd QUE.LAST_RESULT = 1 ∧ Keeps [QUE.LAST_RESULT, QUE.QP_ABORT] s t) ∧
  (∀ (slice qp : Nat) (p : QPair) (s : State), s.pair slice qp = some p → p.state = .aborting → p.byGo = true →
    p.deleteAfter = false → s.pairIdle slice qp = true → (s.sl slice).aborting = false → QUE.QP_ABORT.key ∉ s.goWait →
    s.is (Hdr.GATED 0x0F) = false →
    Completes (.qpAbortDone slice qp) s fun t =>
      t.pair slice qp = some { p with state := .active, byGo := false } ∧ t.rd QUE.QP_ABORT = 0 ∧
      LeafSet t Lf.QUE.ABORT_DONE ∧ Keeps [QUE.QP_ABORT] s t) ∧
  (∀ (slice : Nat) (s : State), slice < 64 → s.rd (QUE.BACKLOG_THR.at slice) ≠ 0 →
    s.rd (QUE.BACKLOG_THR.at slice) < s.backlog slice → s.mapBit QUE.OVL_MAP_LO QUE.OVL_MAP_HI slice = false →
    s.is (Hdr.GATED 0x0F) = false →
    Completes (.overloadTimer slice) s fun t =>
      t.mapBit QUE.OVL_MAP_LO QUE.OVL_MAP_HI slice = true ∧ LeafSet t Lf.QUE.OVERLOAD ∧
      Keeps [QUE.OVL_MAP_LO, QUE.OVL_MAP_HI] s t) ∧
  (∀ (tag : Nat) (c : Cmd) (s : State), s.cmd tag = some c → c.stage = .fetched → s.chained c = true →
    s.is (Hdr.GATED 0x0F) = false → Completes (.hazardWaitLong tag) s fun t => LeafSet t Lf.QUE.HAZARD_LONG ∧ Keeps [] s t) ∧
  (∀ (tag : Nat) (c : Cmd) (s : State), s.cmd tag = some c → c.stage = .fetched → s.orderHeld c = true →
    s.is (Hdr.GATED 0x0F) = false → Completes (.hazardWaitLong tag) s fun t => LeafSet t Lf.QUE.ORDER_WAIT ∧ Keeps [] s t) ∧
  (∀ (tag : Nat) (c : Cmd) (s : State), s.cmd tag = some c → c.stage = .fetched → c.fenced = true → s.fenceHeld c = true →
    s.is (Hdr.GATED 0x0F) = false → Completes (.fenceWaitLong tag) s fun t => LeafSet t Lf.QUE.FENCE_LONG ∧ Keeps [] s t) ∧
  (∀ s : State, PageUp s 0x0F →
    Completes .latClr s fun t => t.rd QUE.LAT_MAX_US = 0 ∧ t.rd QUE.LAT_CLR = 0 ∧ Keeps [QUE.LAT_MAX_US, QUE.LAT_CLR] s t) ∧
  (∀ (tag : Nat) (c : Cmd) (s : State), s.cmd tag = some c → c.stage = .dispatched → s.is (Hdr.GATED 0x11) = false →
    Completes (.cmdStallTimeout tag) s fun t => LeafSet t Lf.CMD.CMD_STALL ∧ Keeps [] s t) ∧
  (∀ (engine : Nat) (s : State), engine < 4 → s.rd (engThr engine) < (s.eng engine).reqs.length → s.is (Hdr.GATED 0x0F) = false →
    Completes (.engineBacklog engine) s fun t => LeafSet t (Lf.QUE.BACKLOG_DEC.plus engine) ∧ Keeps [] s t) ∧
  (∀ (b : Nat) (s : State), s.que.ahead = some b → s.rd LDR.STATE = 6 → s.ecd.units = [] → s.drv.seek = none → s.drv.seeks = [] →
    s.rd TIME.STATE = 0 → s.drv.ejecting = false → 1 ≤ s.rd QUE.READAHEAD → b < s.drv.toc.leadOut → s.cachedAt 1 b = none →
    s.isDvd = false → b < 2 ^ 24 → s.rd (Hdr.HOOK 0x0B) = 0 →
    Completes (.readahead 1) s fun t =>
      t.que.ahead = none ∧ t.ecd.units = [{ addr := b, layer := 0, need := 1, most := 0, tries := 255, direct := false, forced := 0 }] ∧
      t.drv.seeks = [{ byGo := false, addr := b, layer := 0 }] ∧ Keeps [] s t)

/-- Doorbells (R319 to R321, R324, R379 to R381): a tail accepts its entries and gives them their places, one that does not fit
is clamped with a record, a head frees slots, and a request that fails the checks of R379 is a spoof and reaches no queue. -/
def Obligations.DoorbellsComplete : Prop :=
  (∀ (slice qp tail rid : Nat) (p : QPair) (s : State), s.pow.phase = .run → s.rd TIME.STATE ≤ 1 → s.pow.entry = none →
    s.pow.exit = none → PageUp s 0x0F → s.pair slice qp = some p → p.state = .active → (s.sl slice).resetting = false →
    tail < p.depth → s.rd QUE.ACCEPTED + p.depth < 2 ^ 32 - 1 →
    Completes (.sqDoorbell .serial slice qp tail rid none) s fun t =>
      t.pair slice qp = some { p with sqTail := tail } ∧
      t.que.accepted = s.que.accepted ++ (List.range ((tail + p.depth - p.sqTail) % p.depth)).map (fun i =>
        ({ slice := slice, qp := qp, index := (p.sqTail + i) % p.depth, place := s.que.nextPlace + i, at_ := s.elapsed } : Accepted)) ∧
      t.que.nextPlace = s.que.nextPlace + (tail + p.depth - p.sqTail) % p.depth ∧
      t.rd QUE.ACCEPTED = s.rd QUE.ACCEPTED + (tail + p.depth - p.sqTail) % p.depth ∧ Keeps [QUE.ACCEPTED] s t) ∧
  (∀ (slice qp tail rid : Nat) (p : QPair) (s : State), s.pow.phase = .run → s.rd TIME.STATE ≤ 1 → s.pow.entry = none →
    s.pow.exit = none → PageUp s 0x0F → s.pair slice qp = some p → p.state = .active → (s.sl slice).resetting = false →
    0 < p.depth → p.depth ≤ tail →
    Completes (.sqDoorbell .serial slice qp tail rid none) s fun t =>
      t.pair slice qp = some { p with sqTail := p.depth - 1 } ∧ t.rd QUE.DC_VALID = 1 ∧ t.rd QUE.DC_SLICE = slice % 2 ^ 6 ∧
      t.rd QUE.DC_CQ = 0 ∧ t.rd QUE.DC_QP = qp % 2 ^ 3 ∧
      Keeps ([QUE.ACCEPTED, QUE.DC_VALID, QUE.DC_SLICE, QUE.DC_CQ, QUE.DC_QP] ++ clampFields) s t) ∧
  (∀ (slice qp tail rid : Nat) (s : State), s.pow.phase = .run → s.rd HPT.DSTATE = 0 → PageUp s 0x10 → slice < 64 →
    s.bound slice = false → s.rd SLC.SPOOFS < 2 ^ 32 - 1 → s.rd (SLC.SPOOF_CNT.at slice) < 2 ^ 16 - 1 →
    Completes (.sqDoorbell .pcie slice qp tail rid none) s fun t =>
      t.que.accepted = s.que.accepted ∧ t.que.pairs = s.que.pairs ∧ t.rd SLC.SPOOFS = s.rd SLC.SPOOFS + 1 ∧
      t.rd (SLC.SPOOF_CNT.at slice) = s.rd (SLC.SPOOF_CNT.at slice) + 1 ∧ t.rd SLC.SP_VALID = 1 ∧ t.rd SLC.SP_KIND = 1 ∧
      t.rd SLC.SP_PREFIX = 0 ∧ t.rd SLC.SP_REASON = 2 ∧ t.rd SLC.SP_SLICE = slice ∧ t.rd SLC.SPOOF_REQ = rid % 2 ^ 16 ∧
      LeafSet t Lf.SLC.SPOOF_DB ∧
      Keeps [SLC.SPOOFS, SLC.SPOOF_CNT.at slice, SLC.SP_VALID, SLC.SP_KIND, SLC.SP_PREFIX, SLC.SP_REASON, SLC.SP_SLICE,
        SLC.SP_QP, SLC.SPOOF_PASID, SLC.SPOOF_REQ] s t) ∧
  (∀ (slice qp head rid : Nat) (p : QPair) (s : State), s.pow.phase = .run → PageUp s 0x0F → s.pair slice qp = some p →
    (s.sl slice).resetting = false → head < p.depth →
    (head + p.depth - p.cqHead) % p.depth ≤ (p.cqTail + p.depth - p.cqHead) % p.depth → s.que.cqWaiting = [] →
    Completes (.cqHeadDoorbell .serial slice qp head rid none) s fun t =>
      t.pair slice qp = some { p with cqHead := head } ∧ Keeps [] s t)

/-- From an accepted entry to its completion (R314, R316, R318, R322, R323, R326, R380, R385): a fetch gives the oldest entry
the lowest free tag, a failed fetch halts the pair, an entry with another source ends SPOOFED, a dispatch hands the command to
CMD, and a completion is 16 bytes with the slot's phase at the tail of its queue. -/
def Obligations.EntriesFetchedDispatchedCompleted : Prop :=
  (∀ (entry : List Byte) (a : Accepted) (p : QPair) (s : State), s.fetchOk = true → s.rd (Hdr.HOOK 0x0F) = 0 →
    s.que.accepted = [a] → s.fetchHold a = 0 → a.abort = false → a.qp ≠ 8 → s.pair a.slice a.qp = some p → p.state = .active →
    p.loc = false → s.is HPT.PASID_EN = false →
    Completes (.entryFetch entry true) s fun t =>
      t.que.accepted = [] ∧
      t.que.cmds = s.que.cmds ++
        [{ tag := s.freeTag, slice := a.slice, qp := a.qp, place := a.place, at_ := a.at_, loc := false, atomic := p.atomic,
           entry := entry, sqHead := (a.index + 1) % p.depth, fetchedAt := s.elapsed }] ∧
      t.pair a.slice a.qp = some { p with sqHead := (a.index + 1) % p.depth } ∧ Keeps [] s t) ∧
  (∀ (entry : List Byte) (a : Accepted) (p : QPair) (s : State), s.fetchOk = true → s.rd (Hdr.HOOK 0x0F) = 0 →
    s.que.accepted = [a] → s.que.cmds = [] → s.fetchHold a = 0 → a.abort = false → a.qp ≠ 8 → s.pair a.slice a.qp = some p →
    p.state = .active → p.loc = false → s.rd QUE.FETCH_ERRS < 2 ^ 16 - 1 →
    Completes (.entryFetch entry false) s fun t =>
      (∃ c, t.que.cmds = [c] ∧ c.stage = .ended ∧ c.status = stHostMemory ∧ c.slice = a.slice ∧ c.qp = a.qp) ∧
      t.pair a.slice a.qp = some { p with state := .halted, sqHead := (a.index + 1) % p.depth } ∧
      t.rd QUE.FETCH_ERRS = s.rd QUE.FETCH_ERRS + 1 ∧ LeafSet t Lf.QUE.FETCH_ERR ∧ Keeps [QUE.FETCH_ERRS] s t) ∧
  (∀ (entry : List Byte) (a : Accepted) (p : QPair) (s : State), s.fetchOk = true → s.rd (Hdr.HOOK 0x0F) = 0 →
    s.que.accepted = [a] → s.que.cmds = [] → s.fetchHold a = 0 → a.abort = false → a.qp ≠ 8 → s.pair a.slice a.qp = some p →
    p.state = .active → p.loc = false → s.is HPT.PASID_EN = true → a.slice ≠ 0 → a.slice < 64 →
    leAt entry 8 4 % 2 ^ 20 ≠ s.rd (SLC.PASID.at a.slice) → s.rd SLC.SPOOFS < 2 ^ 32 - 1 →
    s.rd (SLC.SPOOF_CNT.at a.slice) < 2 ^ 16 - 1 → s.is (Hdr.GATED 0x10) = false →
    Completes (.entryFetch entry true) s fun t =>
      (∃ c, t.que.cmds = [c] ∧ c.stage = .ended ∧ c.status = stSpoofed ∧ c.specific = leAt entry 8 4 % 2 ^ 20 ∧
        c.slice = a.slice ∧ c.qp = a.qp) ∧
      t.rd SLC.SPOOFS = s.rd SLC.SPOOFS + 1 ∧ t.rd SLC.SP_KIND = 0 ∧ t.rd SLC.SP_REASON = 1 ∧ t.rd SLC.SP_SLICE = a.slice ∧
      LeafSet t Lf.SLC.SPOOF_ENTRY) ∧
  (∀ (tag : Nat) (c : Cmd) (s : State), s.cmd tag = some c → c.stage = .fetched → s.pow.pfHeld = false → PageUp s 0x11 →
    s.is (Hdr.QUIESCE 0x11) = false → s.chained c = false → s.orderHeld c = false → s.fenceHeld c = false →
    s.withheld 0x11 = false → s.rd (Hdr.HOOK 0x11) = 0 → c.listed = true → c.isMmc = false → s.nsCheck c = stGood →
    (slice0Ops.contains c.opcode = true → c.slice = 0) → leAt c.entry 2 1 % 8 = c.levelMax →
    s.rd CMD.NATIVE_CMDS < 2 ^ 32 - 1 →
    Completes (.commandDispatch tag) s fun t =>
      t.cmd tag = some { c with stage := .dispatched } ∧ t.rd CMD.NATIVE_CMDS = s.rd CMD.NATIVE_CMDS + 1 ∧
      t.openTags = s.openTags ++ [OpenTag.mk 0x0F tag (s.rd (Hdr.EPOCH 0x0F)) (s.rd (Hdr.EPOCH 0x11))] ∧
      Keeps [CMD.NATIVE_CMDS] s t) ∧
  (∀ (tag : Nat) (c : Cmd) (p : QPair) (s : State), s.cmd tag = some c → c.stage = .ended → s.chainedOut c = false →
    PageUp s 0x0F → (∀ r ∈ s.que.dma.reqs, r.tag ≠ tag) → c.qp ≠ 8 → c.isMmc = false → s.pair c.slice c.qp = some p →
    p.lostCq = false → p.loc = false → s.dmaOk = true → p.cqFull = false → s.rd (Hdr.HOOK 0x11) = 0 → s.is QUE.DISC_CACHE_EN = true →
    s.rd TRC.RUNNING = 0 → p.cqBase % 16 = 0 → 16 ≤ s.pci.mps → s.rd QUE.COMPLETED < 2 ^ 32 - 1 →
    Completes (.completionWrite tag true) s fun t =>
      .memWrite (p.cqBase + 16 * p.cqTail) (cqEntry c p.phase false) false (s.pasidOf c.slice) ∈ t.sent ∧ t.cmd tag = none ∧
      t.pair c.slice c.qp = some { p with cqTail := (p.cqTail + 1) % p.depth,
                                          phase := if (p.cqTail + 1) % p.depth = 0 then !p.phase else p.phase } ∧
      t.rd QUE.COMPLETED = s.rd QUE.COMPLETED + 1 ∧
      Keeps [QUE.COMPLETED, QUE.ABORTS, QUE.LAT_MAX_US, QUE.OVL_MAP_LO, QUE.OVL_MAP_HI, CMD.CLAMPED, CMD.LS_STATUS, CMD.LS_SLICE,
        CMD.LS_OPCODE] s t)

/-! ### Slices and shared engines -/

/-- The slice table and the slices' resets (R374, R376, R388, R396, R398): a commit makes a pending field active, a slice
that becomes bound starts with full buckets and a unit attention, and RESET and ABORT reach every pair of the slice. The
Wadi buckets and the shared engines (R388, R389, R393, R395, R396): every limited bucket gains its rate up to its burst, a
unit boundary serves the slice whose turn it is and charges its deficit, and a share window is closed. -/
def Obligations.SliceCommandsComplete : Prop :=
  (∀ (i v : Nat) (s : State), i < 64 → PageUp s 0x10 → s.is (Hdr.QUIESCE 0x10) = false → s.is (Hdr.SHD_HOLD 0x10) = false →
    s.shadow = [((SLC.TAG_CAP.at i).key, v)] →
    Completes .slcTableCommit s fun t =>
      t.rd (SLC.TAG_CAP.at i) = v % 2 ^ SLC.TAG_CAP.width ∧ t.shadow = [] ∧ LeafSet t Lf.SLC.TABLE_COMMIT ∧
      (∀ f : Fld, settleKey f.key = false → f.key ≠ (SLC.TAG_CAP.at i).key → t.rd f = s.rd f)) ∧
  (∀ (i : Nat) (s : State), 1 ≤ i → i < 64 → PageUp s 0x10 → s.is (Hdr.QUIESCE 0x10) = false →
    s.is (Hdr.SHD_HOLD 0x10) = false → s.shadow = [((SLC.VALID.at i).key, 1)] → s.rd (SLC.VALID.at i) = 0 →
    s.is (Hdr.GATED 0x11) = false →
    Completes .slcTableCommit s fun t =>
      t.bound i = true ∧ t.shadow = [] ∧ (t.sl i).ua = 1 ∧ (t.sl i).cmdLevel = s.rd (SLC.CMD_BURST.at i) * 1024 ∧
      t.mapBit CMD.UA_MAP_LO CMD.UA_MAP_HI i = true ∧ LeafSet t Lf.SLC.TABLE_COMMIT ∧ LeafSet t Lf.SLC.BIND_DONE ∧
      LeafSet t Lf.CMD.UNIT_ATTENTION) ∧
  (∀ s : State, PageUp s 0x10 → s.rd SLC.SL_RESET = 0 → s.que.cmds = [] →
    Completes .sliceReset s fun t =>
      (t.sl (s.rd SLC.CMD_SLICE)).resetting = true ∧ t.rd SLC.SL_RESET = 1 ∧
      (∀ p ∈ t.que.pairs, p.slice = s.rd SLC.CMD_SLICE → p.deleteAfter = true ∧ (p.state = .aborting ∨ p.state = .halted)) ∧
      Keeps [SLC.SL_RESET] s t) ∧
  (∀ (i : Nat) (s : State), i < 64 → (s.sl i).resetting = true → (s.sl i).resetGo = true → (s.sl i).aborting = false →
    (s.sl i).rebind = 0 → (∀ p ∈ s.que.pairs, p.slice ≠ i) → s.mapBit CMD.PREVENT_MAP_LO CMD.PREVENT_MAP_HI i = false →
    SLC.SL_RESET.key ∉ s.goWait → s.is (Hdr.GATED 0x10) = false → s.is (Hdr.GATED 0x11) = false →
    Completes (.sliceResetDone i) s fun t =>
      (t.sl i).resetting = false ∧ (t.sl i).ua = 1 ∧ (t.sl i).cmdLevel = s.rd (SLC.CMD_BURST.at i) * 1024 ∧
      (t.sl i).byteLevel = (s.rd (SLC.BYTE_BURST.at i) : Int) * 1024 * 1024 ∧ t.rd SLC.SL_RESET = 0 ∧
      LeafSet t Lf.SLC.SLICE_RESET ∧ LeafSet t Lf.CMD.UNIT_ATTENTION ∧
      Keeps [SLC.SL_RESET, CMD.UA_MAP_LO, CMD.UA_MAP_HI, CMD.PREVENT_MAP_LO, CMD.PREVENT_MAP_HI] s t) ∧
  (∀ (q : QPair) (s : State), PageUp s 0x10 → s.rd SLC.SL_ABORT = 0 → s.que.cmds = [] → q ∈ s.que.pairs →
    q.slice = s.rd SLC.CMD_SLICE →
    Completes .sliceAbort s fun t =>
      (t.sl (s.rd SLC.CMD_SLICE)).aborting = true ∧ t.rd SLC.SL_ABORT = 1 ∧
      (∀ p ∈ t.que.pairs, p.slice = s.rd SLC.CMD_SLICE → p.state = .aborting ∨ p.state = .halted) ∧ Keeps [SLC.SL_ABORT] s t) ∧
  (∀ s : State, PageUp s 0x10 →
    Completes .wadiRefill s fun t =>
      (∀ i, i < 64 → s.rd (SLC.CMD_RATE.at i) ≠ 0 →
        (t.sl i).cmdLevel =
          min (s.rd (SLC.CMD_BURST.at i) * 1024) ((s.sl i).cmdLevel + s.rd (SLC.CMD_RATE.at i) * 1024 / 1000)) ∧
      (∀ i, i < 64 → s.rd (SLC.BYTE_RATE.at i) ≠ 0 →
        (t.sl i).byteLevel = min ((s.rd (SLC.BYTE_BURST.at i) : Int) * 1024 * 1024)
          ((s.sl i).byteLevel + ((s.rd (SLC.BYTE_RATE.at i) * 16384 * 1024 / 1000 : Nat) : Int))) ∧ Keeps [] s t) ∧
  (∀ (engine : Nat) (r : EngReq) (s : State), engine < 3 → (s.eng engine).cur = none → (s.eng engine).newList = [r.slice] →
    (s.eng engine).oldList = [] → (s.eng engine).reqs = [r] →
    Completes (.engineUnitBoundary engine) s fun t =>
      (t.eng engine).cur = some r.slice ∧ (t.eng engine).newList = [] ∧
      (t.eng engine).reqs = (if r.units ≤ 1 then [] else [{ r with units := r.units - 1, since := none }]) ∧
      (t.eng engine).total = (s.eng engine).total + r.credits ∧
      ((t.eng engine).of r.slice).deficit =
        ((s.eng engine).of r.slice).deficit + s.weight engine r.slice * engQ engine - r.credits ∧ Keeps [] s t) ∧
  (∀ (engine tag : Nat) (r : EngReq) (s : State), engine < 4 → r ∈ (s.eng engine).reqs → r.tag = tag → r.since.isSome = true →
    s.is (Hdr.GATED 0x10) = false →
    Completes (.unitWaitLong engine tag) s fun t => LeafSet t (Lf.SLC.UNIT_WAIT_DEC.plus engine) ∧ Keeps [] s t) ∧
  (∀ s : State,
    Completes .shareWindowEnd s fun t =>
      (∀ e, e < 4 → (t.eng e).lastTotal = (s.eng e).total ∧ (t.eng e).total = 0 ∧
        (t.eng e).sl.map EngSlice.lastServed = (s.eng e).sl.map EngSlice.served) ∧ Keeps [] s t)


/-! ### MMC commands -/

/-- Readiness, sense, identity and events (R354, R356, R357, R359 to R361): the data that each command's turn sends under an
allocation length that holds it, and the result that it ends with. The table of contents and what it says of the disc and
its track, for a DVD, which shows one session of one track (R359, R360). -/
def Obligations.MmcReportsComplete : Prop :=
  (∀ (tag : Nat) (c : Cmd) (s : State), s.atHostTurn tag c → mmcIs 0x00 c = true → s.medium = .ok → s.rd SPN.STATE = 3 →
    Completes (.testUnitReady tag) s fun t => EndsAs t c stGood 0 0 ∧ Keeps [] s t) ∧
  (∀ (tag st : Nat) (asc : Option (Nat × Nat)) (c : Cmd) (s : State), s.atHostTurn tag c → mmcIs 0x00 c = true →
    s.medium = .bad st asc →
    Completes (.testUnitReady tag) s fun t => EndsAs t { c with asc := asc } st 0 0 ∧ Keeps [] s t) ∧
  (∀ (tag : Nat) (c : Cmd) (p : QPair) (l : List Byte) (s : State), s.atHostTurn tag c → mmcIs 0x03 c = true →
    bit (beAt c.cdb 1 1) 0 = false → s.earlierOpen c = false → s.pair c.slice c.qp = some p → p.sense = some l → l.length = 18 →
    18 ≤ beAt c.cdb 4 1 → beAt c.cdb 4 1 ≤ c.dlen →
    Completes (.requestSense tag) s fun t =>
      DataSent s t c l ∧ EndsAs t c stGood 0 (beAt c.cdb 4 1 - 18) ∧ t.pair c.slice c.qp = some { p with sense := none } ∧
      Keeps [] s t) ∧
  (∀ (tag : Nat) (c : Cmd) (s : State), s.atHostTurn tag c → mmcIs 0x12 c = true → bit (beAt c.cdb 1 1) 0 = false →
    beAt c.cdb 2 1 = 0 → 36 ≤ beAt c.cdb 3 2 → beAt c.cdb 3 2 ≤ c.dlen →
    Completes (.inquiry tag) s fun t =>
      DataSent s t c ([0x05, 0x80, 0x05, 0x02, 31, 0, 0, 0] ++ ascii "CAMWETA " ++ ascii "THOPEL CWT724   " ++
        ascii (if Config.revB then "B   " else "A   ")) ∧
      EndsAs t c stGood 0 (beAt c.cdb 3 2 - 36) ∧ Keeps [] s t) ∧
  (∀ (tag : Nat) (c : Cmd) (s : State), s.atTurn tag = some c → c.loc = true → c.qp ≠ 8 → isRemote (s.localNs c.nsid) = false →
    mmcIs 0x12 c = true → bit (beAt c.cdb 1 1) 0 = true → beAt c.cdb 2 1 = 0 → 7 ≤ beAt c.cdb 3 2 → beAt c.cdb 3 2 ≤ c.dlen →
    s.rd (SLC.BYTE_RATE.at c.slice) = 0 → s.pageDown 0x0E = false → s.rd (Hdr.HOOK 0x0E) = 0 → s.mem.parityFaults = 0 →
    c.dptr + 7 ≤ cacheBytes → (∀ w ∈ wordsOf c.dptr 7, s.synd w = 0) →
    Completes (.inquiry tag) s fun t =>
      (∀ a, cellGet t.cells a = if c.dptr ≤ a ∧ a < c.dptr + 7 then (([0x05, 0, 0, 3, 0x00, 0x80, 0x83] : List Byte)[a - c.dptr]?).getD 0
        else cellGet s.cells a) ∧
      EndsAs t c stGood 0 (beAt c.cdb 3 2 - 7) ∧ KeepsRegs [MEM.MERGES] s t) ∧
  (∀ (tag : Nat) (c : Cmd) (s : State), s.atHostTurn tag c → mmcIs 0x46 c = true → beAt c.cdb 1 1 % 4 = 2 →
    beAt c.cdb 2 2 = 0x0001 → 16 ≤ beAt c.cdb 7 2 → beAt c.cdb 7 2 ≤ c.dlen →
    Completes (.getConfiguration tag) s fun t =>
      DataSent s t c ([0, 0, 0, 12, 0, 0] ++ beBytes 2 (profileOf (s.rd LDR.DISC)) ++ [0x00, 0x01, 0x03, 0x04, 0, 0, 0, 0]) ∧
      EndsAs t c stGood 0 (beAt c.cdb 7 2 - 16) ∧ Keeps [] s t) ∧
  (∀ (tag code : Nat) (c : Cmd) (s : State), s.atHostTurn tag c → mmcIs 0x4A c = true → bit (beAt c.cdb 1 1) 0 = true →
    beAt c.cdb 4 1 = 0x10 → (s.sl c.slice).events = [(4, code)] → 8 ≤ beAt c.cdb 7 2 → beAt c.cdb 7 2 ≤ c.dlen →
    Completes (.getEventStatusNotification tag) s fun t =>
      DataSent s t c ([0, 6, 4, 0x5E, BitVec.ofNat 8 code] ++ s.eventStatus 4 ++ [0]) ∧ (t.sl c.slice).events = [] ∧
      EndsAs t c stGood 0 (beAt c.cdb 7 2 - 8) ∧ Keeps [] s t) ∧
  (∀ (tag : Nat) (c : Cmd) (s : State), s.atHostTurn tag c → mmcIs 0xBD c = true → 8 ≤ beAt c.cdb 8 2 → beAt c.cdb 8 2 ≤ c.dlen →
    Completes (.mechanismStatus tag) s fun t =>
      DataSent s t c s.mechStatus ∧ EndsAs t c stGood 0 (beAt c.cdb 8 2 - 8) ∧ Keeps [] s t) ∧
  (∀ (tag : Nat) (c : Cmd) (s : State), s.atHostTurn tag c → mmcIs 0x43 c = true → s.medium = .ok → s.isDvd = true →
    bit (beAt c.cdb 1 1) 1 = false → beAt c.cdb 2 1 % 16 = 1 → 12 ≤ beAt c.cdb 7 2 → beAt c.cdb 7 2 ≤ c.dlen →
    Completes (.readTocPmaAtip tag) s fun t =>
      DataSent s t c [0, 10, 1, 1, 0, 0x14, 1, 0, 0, 0, 0, 0] ∧ EndsAs t c stGood 0 (beAt c.cdb 7 2 - 12) ∧ Keeps [] s t) ∧
  (∀ (tag : Nat) (c : Cmd) (s : State), s.atHostTurn tag c → mmcIs 0x51 c = true → s.medium = .ok → s.isDvd = true →
    s.rewritable = false → beAt c.cdb 1 1 % 8 = 0 → 34 ≤ beAt c.cdb 7 2 → beAt c.cdb 7 2 ≤ c.dlen →
    Completes (.readDiscInformation tag) s fun t =>
      DataSent s t c ([0, 32, 0x0E, 1, 1, 1, 1, 0, 0xFF, 0, 0, 0, 0, 0, 0, 0] ++ List.replicate 8 0xFF ++ List.replicate 10 0) ∧
      EndsAs t c stGood 0 (beAt c.cdb 7 2 - 34) ∧ Keeps [] s t) ∧
  (∀ (tag : Nat) (c : Cmd) (s : State), s.atHostTurn tag c → mmcIs 0x52 c = true → s.medium = .ok → s.isDvd = true →
    0 < s.drv.toc.leadOut → beAt c.cdb 1 1 % 4 = 1 → beAt c.cdb 2 4 = 1 → 36 ≤ beAt c.cdb 7 2 → beAt c.cdb 7 2 ≤ c.dlen →
    Completes (.readTrackInformation tag) s fun t =>
      DataSent s t c ([0, 34, 1, 1, 0, 4, 1, 0, 0, 0, 0, 0] ++ List.replicate 12 0 ++ beBytes 4 s.drv.toc.leadOut ++
        beBytes 4 (s.drv.toc.leadOut - 1) ++ [0, 0, 0, 0]) ∧
      EndsAs t c stGood 0 (beAt c.cdb 7 2 - 36) ∧ Keeps [] s t)

/-- The loader's, the speed's and the mode pages' commands (R362 to R365): a stop, an eject that a tenant may not ask for, the
prevention of removal, the speed caps that slice 0 sets, and mode page 0x01 read and written. -/
def Obligations.MmcControlsComplete : Prop :=
  (∀ (tag : Nat) (c : Cmd) (s : State), s.atHostTurn tag c → mmcIs 0x1B c = true → beAt c.cdb 4 1 = 0 →
    bit (beAt c.cdb 1 1) 0 = true →
    Completes (.startStopUnit tag) s fun t =>
      t.drv.demand = false ∧ EndsAs t { c with started := true } stGood 0 0 ∧ Keeps [] s t) ∧
  (∀ (tag : Nat) (c : Cmd) (s : State), s.atHostTurn tag c → mmcIs 0x1B c = true → beAt c.cdb 4 1 = 2 → c.started = false →
    c.slice ≠ 0 → s.is CMD.EJECT_OK = false → s.pagesFree [0x1A] →
    Completes (.startStopUnit tag) s fun t =>
      EndsAs t c stRemovalPrevented 0 0 ∧ LeafSet t Lf.LDR.EJECT_REQ ∧ LeafSet t Lf.LDR.EJECT_LOCKED ∧ Keeps [] s t) ∧
  (∀ (tag : Nat) (c : Cmd) (s : State), s.atHostTurn tag c → mmcIs 0x1E c = true → beAt c.cdb 4 1 % 4 = 1 → c.slice < 64 →
    PageUp s 0x1A →
    Completes (.preventAllowMediumRemoval tag) s fun t =>
      t.mapBit CMD.PREVENT_MAP_LO CMD.PREVENT_MAP_HI c.slice = true ∧ t.rd LDR.PREVENT = 1 ∧ EndsAs t c stGood 0 0 ∧
      Keeps [CMD.PREVENT_MAP_LO, CMD.PREVENT_MAP_HI, LDR.PREVENT] s t) ∧
  (∀ (tag v : Nat) (c : Cmd) (s : State), s.atHostTurn tag c → mmcIs 0xBB c = true → c.slice = 0 → PageUp s 0x07 →
    beAt c.cdb 2 2 = v → 704 ≤ v → v < 0xFFFF →
    Completes (.setCdSpeed tag) s fun t =>
      t.rd SPN.CAP_CD = nearRange 4 96 (4 * v / 176) ∧ t.rd SPN.CAP_DVD = nearRange 4 32 (4 * v / 1385) ∧
      EndsAs t c stGood (256 * nearRange 4 32 (4 * v / 1385) + nearRange 4 96 (4 * v / 176)) 0 ∧
      Keeps [SPN.CAP_CD, SPN.CAP_DVD] s t) ∧
  (∀ (tag : Nat) (c : Cmd) (s : State), s.atHostTurn tag c → mmcIs 0x5A c = true → beAt c.cdb 2 1 = 0x01 → beAt c.cdb 3 1 = 0 →
    20 ≤ beAt c.cdb 7 2 → beAt c.cdb 7 2 ≤ c.dlen →
    Completes (.modeSense10 tag) s fun t =>
      DataSent s t c ([0, 18, 0, 0, 0, 0, 0, 0, 0x01, 0x0A, BitVec.ofNat 8 (4 * b2n (s.sl c.slice).per),
        BitVec.ofNat 8 (s.retryNow c.slice), 0, 0, 0, 0, 0, 0, 0, 0]) ∧
      EndsAs t c stGood 0 (beAt c.cdb 7 2 - 20) ∧ Keeps [] s t) ∧
  (∀ (tag n : Nat) (per : Bool) (c : Cmd) (s : State), s.atHostTurn tag c → mmcIs 0x55 c = true → bit (beAt c.cdb 1 1) 0 = false →
    bit (beAt c.cdb 1 1) 4 = true → beAt c.cdb 7 2 = 20 → 20 ≤ c.dlen → c.started = true → n ≤ 8 →
    c.dataIn = some ([0, 0, 0, 0, 0, 0, 0, 0, 0x01, 0x0A, BitVec.ofNat 8 (4 * b2n per), BitVec.ofNat 8 n, 0, 0, 0, 0, 0, 0, 0, 0]) →
    Completes (.modeSelect10 tag) s fun t =>
      (t.sl c.slice).per = per ∧ (t.sl c.slice).retry = some n ∧ EndsAs t c stGood 0 0 ∧ Keeps [] s t)

/-- Reads of a block that the cache holds (R336, R348, R349, R351, R359): READ (10), READ (12), READ CD and READ CD MSF send its
2,048 bytes of user data and end GOOD with no residual. -/
def Obligations.MmcReadsComplete : Prop :=
  (∀ (tag lba : Nat) (c : Cmd) (e : Cached) (s : State), s.atHostTurn tag c → mmcIs 0x28 c = true → c.untouched →
    beAt c.cdb 2 4 = lba → beAt c.cdb 7 2 = 1 → 2048 ≤ c.dlen → s.pagesFree [0x0B, 0x0E] → s.medium = .ok →
    1 ≤ s.rd CMD.MAX_XFER → s.userHeld lba e → s.rd QUE.HITS < 2 ^ 32 - 1 →
    Completes (.read10 tag) s fun t =>
      DataSent s t c (s.userOf e) ∧ EndsAs t { c with started := true, got := [(1, lba)] } stGood 0 0 ∧
      t.rd QUE.HITS = s.rd QUE.HITS + 1 ∧ Keeps [QUE.HITS] s t) ∧
  (∀ (tag lba : Nat) (c : Cmd) (e : Cached) (s : State), s.atHostTurn tag c → mmcIs 0xA8 c = true → c.untouched →
    beAt c.cdb 2 4 = lba → beAt c.cdb 6 4 = 1 → 2048 ≤ c.dlen → s.pagesFree [0x0B, 0x0E] → s.medium = .ok →
    1 ≤ s.rd CMD.MAX_XFER → s.userHeld lba e → s.rd QUE.HITS < 2 ^ 32 - 1 →
    Completes (.read12 tag) s fun t =>
      DataSent s t c (s.userOf e) ∧ EndsAs t { c with started := true, got := [(1, lba)] } stGood 0 0 ∧
      t.rd QUE.HITS = s.rd QUE.HITS + 1 ∧ Keeps [QUE.HITS] s t) ∧
  (∀ (tag lba : Nat) (c : Cmd) (e : Cached) (s : State), s.atHostTurn tag c → mmcIs 0xBE c = true → c.untouched →
    cdSel c.cdb = some { type := 2, sync := false, hdr := 0, user := true, edc := false, c2 := 0, sub := 0 } →
    beAt c.cdb 2 4 = lba → beAt c.cdb 6 3 = 1 → 2048 ≤ c.dlen → s.pagesFree [0x0B, 0x0E] → s.medium = .ok →
    1 ≤ s.rd CMD.MAX_XFER → s.isDvd = false → s.userHeld lba e → s.rd QUE.HITS < 2 ^ 32 - 1 →
    Completes (.readCd tag) s fun t =>
      DataSent s t c (s.userOf e) ∧ EndsAs t { c with started := true, got := [(1, lba)] } stGood 0 0 ∧
      t.rd QUE.HITS = s.rd QUE.HITS + 1 ∧ Keeps [QUE.HITS] s t) ∧
  (∀ (tag lba : Nat) (c : Cmd) (e : Cached) (s : State), s.atHostTurn tag c → mmcIs 0xB9 c = true → c.untouched →
    cdSel c.cdb = some { type := 2, sync := false, hdr := 0, user := true, edc := false, c2 := 0, sub := 0 } →
    beAt c.cdb 4 1 ≤ 59 → beAt c.cdb 5 1 ≤ 74 → beAt c.cdb 7 1 ≤ 59 → beAt c.cdb 8 1 ≤ 74 →
    (beAt c.cdb 3 1 * 60 + beAt c.cdb 4 1) * 75 + beAt c.cdb 5 1 = lba + 150 →
    (beAt c.cdb 6 1 * 60 + beAt c.cdb 7 1) * 75 + beAt c.cdb 8 1 = lba + 151 → 2048 ≤ c.dlen → s.pagesFree [0x0B, 0x0E] →
    s.medium = .ok → 1 ≤ s.rd CMD.MAX_XFER → s.isDvd = false → s.userHeld lba e → s.rd QUE.HITS < 2 ^ 32 - 1 →
    Completes (.readCdMsf tag) s fun t =>
      DataSent s t c (s.userOf e) ∧ EndsAs t { c with started := true, got := [(1, lba)] } stGood 0 0 ∧
      t.rd QUE.HITS = s.rd QUE.HITS + 1 ∧ Keeps [QUE.HITS] s t)

/-! ### Native commands -/

/-- NOP, IDENTIFY, ABORT_ALL, the roster and the shadow (R367 to R369, R429, R451): each ends GOOD with its data and its
specific result. -/
def Obligations.NativeReportsComplete : Prop :=
  (∀ (tag : Nat) (c : Cmd) (s : State), s.atTurn tag = some c → nativeIs 0x00 c = true →
    Completes (.nop tag) s fun t => EndsAs t c stGood 0 0 ∧ Keeps [] s t) ∧
  (∀ (tag : Nat) (c : Cmd) (s : State), s.atHostTurn tag c → nativeIs 0x02 c = true → 512 ≤ c.dlen →
    Completes (.identify tag) s fun t =>
      DataSent s t c s.identify ∧ slice s.identify 0 4 = leBytes 4 (s.rd SYS.DEVICE_ID) ∧ EndsAs t c stGood 0 (c.dlen - 512) ∧
      Keeps [] s t) ∧
  (∀ (tag : Nat) (c d : Cmd) (s : State), s.atTurn tag = some c → nativeIs 0x03 c = true → c.started = false → s.que.cmds = [d, c] →
    s.que.accepted = [] → d.slice = c.abortTarget → d.place < c.place → d.tag ≠ c.tag → d.stage ≠ .ended → s.playsTag d.tag = false →
    Completes (.abortAll tag) s fun t =>
      EndsAs t d stAborted 0 0 ∧ EndsAs t { c with started := true } stGood 1 0 ∧ Keeps [] s t) ∧
  (∀ (tag : Nat) (c : Cmd) (s : State), s.atHostTurn tag c → nativeIs 0x30 c = true → s.pagesFree [0x13] →
    32 * (s.ryl.roster.take (s.rd RYL.ROSTER_HELD)).length ≤ c.dlen →
    Completes (.rylRoster tag) s fun t =>
      DataSent s t c ((s.ryl.roster.take (s.rd RYL.ROSTER_HELD)).flatMap RosterEnt.bytes) ∧
      EndsAs t c stGood (s.rd RYL.GEN) (c.dlen - 32 * (s.ryl.roster.take (s.rd RYL.ROSTER_HELD)).length) ∧ Keeps [] s t) ∧
  (∀ (tag : Nat) (c : Cmd) (s : State), s.atHostTurn tag c → nativeIs 0x20 c = true → c.started = false → s.medium = .ok →
    c.count = 1 → c.block < s.drv.toc.leadOut → 1 ≤ s.rd CMD.MAX_XFER → 1 ≤ c.dlen →
    Completes (.shadowLookup tag) s fun t =>
      DataSent s t c [if (s.shadowNow (s.discAddr c.block).2 (s.discAddr c.block).1).isSome then 1 else 0] ∧
      EndsAs t c stGood (b2n (s.shadowNow (s.discAddr c.block).2 (s.discAddr c.block).1).isSome) 0 ∧ Keeps [] s t) ∧
  (∀ (tag : Nat) (c : Cmd) (s : State), s.atTurn tag = some c → nativeIs 0x21 c = true → s.pagesFree [0x12] →
    bit c.param0 0 = true →
    Completes (.shadowPurge tag) s fun t =>
      t.nand.shadow = [] ∧ EndsAs t c stGood s.nand.shadow.length 0 ∧ Keeps [] s t)

/-- Native reads and writes (R330, R349, R351, R367, R416, R420 to R422, R558): a block of the disc from the cache, an unwritten
block of the library, a write, a trim and a rip that take the next sequence number, and a comparison of unwritten blocks. -/
def Obligations.NativeTransfersComplete : Prop :=
  (∀ (tag : Nat) (c : Cmd) (e : Cached) (s : State), s.atHostTurn tag c → nativeIs 0x10 c = true → c.untouched →
    s.localNs c.nsid = 1 → c.count = 1 → 2048 ≤ c.dlen → s.pagesFree [0x0B, 0x0E] → s.medium = .ok → 1 ≤ s.rd CMD.MAX_XFER →
    s.userHeld c.block e → s.rd QUE.HITS < 2 ^ 32 - 1 →
    Completes (.read tag) s fun t =>
      DataSent s t c (s.userOf e) ∧ EndsAs t { c with started := true, got := [(1, c.block)] } stGood 0 0 ∧
      t.rd QUE.HITS = s.rd QUE.HITS + 1 ∧ Keeps [QUE.HITS] s t) ∧
  (∀ (tag k : Nat) (c : Cmd) (s : State), s.atHostTurn tag c → nativeIs 0x10 c = true → c.untouched → k < 16 →
    s.localNs c.nsid = 0x10 + k → c.count = 1 → 2048 ≤ c.dlen → s.pagesFree [0x12] → s.rd OAS.STATE = 4 → 1 ≤ s.rd CMD.MAX_XFER →
    c.block < s.rd (OAS.NS_SIZE.at k) → s.libGet k c.block = none → s.cachedAt (0x10 + k) c.block = none →
    s.rd QUE.MISSES < 2 ^ 32 - 1 →
    Completes (.read tag) s fun t =>
      DataSent s t c (List.replicate 2048 0) ∧ EndsAs t { c with started := true } stUnwritten (infoBit stUnwritten) 0 ∧
      t.rd QUE.MISSES = s.rd QUE.MISSES + 1 ∧ Keeps [QUE.MISSES] s t) ∧
  (∀ (tag k : Nat) (l : List Byte) (c : Cmd) (s : State), s.atHostTurn tag c → nativeIs 0x11 c = true → c.started = true →
    c.dataIn = some l → l.length = 2048 * c.count → k < 16 → s.localNs c.nsid = 0x10 + k → s.pagesFree [0x12] → s.rd OAS.STATE = 4 →
    s.writeOf tag = none → 0 < c.count →
    min c.writeMost (s.xferCount c.block c.count (s.rd (OAS.NS_SIZE.at k)) (c.dlen / 2048)) = c.count →
    s.roomFor k c.block c.count = c.count → s.gcShort = false →
    Completes (.write tag) s fun t =>
      t.nand.seq = s.nand.seq + 1 ∧
      t.nand.writes = s.nand.writes ++ [{ tag := tag, atomic := c.atomic, trim := false, ns := k, block := c.block, count := c.count,
                                          seq := s.nand.seq + 1, data := l }] ∧
      t.cmd tag = some c ∧ Keeps [] s t) ∧
  (∀ (tag k : Nat) (c : Cmd) (s : State), s.atHostTurn tag c → nativeIs 0x12 c = true → k < 16 → s.localNs c.nsid = 0x10 + k →
    s.pagesFree [0x12] → s.rd OAS.STATE = 4 → s.writeOf tag = none → 0 < c.count →
    s.xferCount c.block c.count (s.rd (OAS.NS_SIZE.at k)) c.count = c.count →
    Completes (.trim tag) s fun t =>
      t.nand.seq = s.nand.seq + 1 ∧
      t.nand.writes = s.nand.writes ++ [{ tag := tag, atomic := true, trim := true, ns := k, block := c.block, count := c.count,
                                          seq := s.nand.seq + 1, data := [] }] ∧
      t.cmd tag = some { c with started := true } ∧ Keeps [] s t) ∧
  (∀ (tag k j : Nat) (c : Cmd) (s : State), s.atHostTurn tag c → nativeIs 0x13 c = true → c.untouched → k < 16 → j < 16 →
    s.localNs c.nsid = 0x10 + k → s.localNs (c.param 1) = 0x10 + j → c.count = 1 → s.pagesFree [0x12] → s.rd OAS.STATE = 4 →
    1 ≤ s.rd CMD.MAX_XFER → c.block < s.rd (OAS.NS_SIZE.at k) → c.param0 < s.rd (OAS.NS_SIZE.at j) → s.libGet k c.block = none →
    s.cachedAt (0x10 + k) c.block = none → s.libGet j c.param0 = none → s.cachedAt (0x10 + j) c.param0 = none →
    Completes (.verify tag) s fun t =>
      EndsAs t { c with started := true } stUnwritten (infoBit stUnwritten) 0 ∧ Keeps [] s t) ∧
  (∀ (tag k : Nat) (c : Cmd) (e : Cached) (s : State), s.atHostTurn tag c → nativeIs 0x18 c = true → c.untouched → k < 16 →
    s.localNs c.nsid = 0x10 + k → s.localNs (c.param 1) = 1 → c.count = 1 → s.pagesFree [0x0B, 0x0E, 0x12] → s.rd OAS.STATE = 4 →
    s.medium = .ok → s.writeOf tag = none → 1 ≤ s.rd CMD.MAX_XFER → c.block < s.rd (OAS.NS_SIZE.at k) → s.userHeld c.param0 e →
    s.rd QUE.HITS < 2 ^ 32 - 1 → s.roomFor k c.block 1 = 1 → s.gcShort = false →
    Completes (.rip tag) s fun t =>
      t.nand.seq = s.nand.seq + 1 ∧
      t.nand.writes = s.nand.writes ++ [{ tag := tag, atomic := c.atomic, trim := false, ns := k, block := c.block, count := 1,
                                          seq := s.nand.seq + 1, data := s.userOf e }] ∧
      t.rd QUE.HITS = s.rd QUE.HITS + 1 ∧ Keeps [QUE.HITS] s t)

/-- LIB_FORMAT, LIB_MOUNT and LIB_UNMOUNT by STATE (R414): a format of one namespace of a mounted library, and of a library that
is not formatted, a mount that is there already and one that starts, and an unmount with no background work. -/
def Obligations.LibraryCommandsComplete : Prop :=
  (∀ (tag k : Nat) (bad : List (Nat × Nat)) (c : Cmd) (s : State), s.atHostTurn tag c → nativeIs 0x14 c = true → s.pagesFree [0x12] →
    k < 16 → s.localNs c.nsid = 0x10 + k → s.rd OAS.STATE = 4 → c.started = false → s.mem.ueTab = [] →
    Completes (.libFormat tag bad) s fun t =>
      t.rd (OAS.NS_SIZE.at k) =
        min (s.rd (OAS.NS_SECTORS.at k)) (s.usable - (s.assigned - s.rd (OAS.NS_SIZE.at k))) % 2 ^ OAS.NS_SIZE.width ∧
      t.nand.lib = s.nand.lib.filter (fun b => b.ns ≠ k) ∧ EndsAs t { c with started := true } stGood 0 0 ∧
      Keeps (OAS.NS_SIZE.at k :: oasCountFields) s t) ∧
  (∀ (tag : Nat) (bad : List (Nat × Nat)) (c : Cmd) (s : State), s.atHostTurn tag c → nativeIs 0x14 c = true → s.pagesFree [0x12] →
    s.rd OAS.STATE = 1 → c.started = false →
    Completes (.libFormat tag bad) s fun t =>
      t.rd OAS.STATE = 4 ∧ t.nand.formatted = true ∧ t.nand.lib = [] ∧ t.nand.bad = bad ∧
      EndsAs t { c with started := true } stGood 0 0) ∧
  (∀ (tag : Nat) (c : Cmd) (s : State), s.atHostTurn tag c → nativeIs 0x15 c = true → s.pagesFree [0x12] → s.rd OAS.STATE = 4 →
    c.started = false →
    Completes (.libMount tag) s fun t => EndsAs t { c with started := true } stGood 0 0 ∧ Keeps [] s t) ∧
  (∀ (tag : Nat) (c : Cmd) (s : State), s.atHostTurn tag c → nativeIs 0x15 c = true → s.pagesFree [0x12] → s.rd OAS.STATE = 2 →
    c.started = false →
    Completes (.libMount tag) s fun t =>
      t.rd OAS.STATE = 3 ∧ (∃ d, t.cmd tag = some d ∧ d.stage = .dispatched ∧ d.started = true) ∧ Keeps [OAS.STATE] s t) ∧
  (∀ (tag : Nat) (c : Cmd) (s : State), s.atHostTurn tag c → nativeIs 0x16 c = true → s.pagesFree [0x12] → s.rd OAS.STATE = 4 →
    c.started = false → s.libBusy = false → s.mem.ueTab = [] →
    Completes (.libUnmount tag) s fun t =>
      t.rd OAS.STATE = 2 ∧ t.nand.mark = 1 ∧ t.nand.writes = [] ∧ t.nand.lib = s.nand.lib ∧
      EndsAs t { c with started := true } stGood 0 0 ∧ Keeps [OAS.STATE] s t)

/-- The servo's, the calibration's, the recorder's, the trace's and the audio's native commands (R132, R367, R368, R476, R483,
R498, R507): a test that ends, an operation that waits for the calibration slot, the blob, a dump, an erase, and the starts and
stops of a trace and of a play. -/
def Obligations.DeviceCommandsComplete : Prop :=
  (∀ (tag : Nat) (c : Cmd) (s : State), s.atHostTurn tag c → servoIs 0 c = true → c.started = true →
    s.pageDown 0x04 = false → s.pageDown 0x05 = false → s.pageDown 0x08 = false → s.mechLatched = false →
    Completes (.servoTestAcquire tag) s fun t =>
      (∃ n, n ≤ c.dlen ∧ EndsAs t c stGood ((s.elapsed - c.residual) / 1000) (c.dlen - n)) ∧ Keeps [] s t) ∧
  (∀ (tag : Nat) (c : Cmd) (s : State), s.atHostTurn tag c → servoIs 2 c = true → c.started = true →
    s.pageDown 0x04 = false → s.pageDown 0x05 = false → s.pageDown 0x08 = false → s.mechLatched = false →
    Completes (.servoTestRunout tag) s fun t =>
      (∃ n, n ≤ c.dlen ∧ EndsAs t c stGood ((s.elapsed - c.residual) / 1000) (c.dlen - n)) ∧ Keeps [] s t) ∧
  (∀ (tag : Nat) (c : Cmd) (s : State), s.atHostTurn tag c → servoIs 3 c = true → c.started = true →
    s.pageDown 0x04 = false → s.pageDown 0x05 = false → s.pageDown 0x08 = false → s.mechLatched = false →
    Completes (.servoTestSweep tag) s fun t =>
      (∃ n, n ≤ c.dlen ∧ EndsAs t c stGood ((s.elapsed - c.residual) / 1000) (c.dlen - n)) ∧ Keeps [] s t) ∧
  (∀ (tag : Nat) (c : Cmd) (s : State), s.atHostTurn tag c → servoIs 1 c = true → c.started = true →
    s.pageDown 0x04 = false → s.pageDown 0x05 = false → s.pageDown 0x08 = false → s.mechLatched = false →
    s.drv.seek = none → s.drv.seeks = [] →
    Completes (.servoTestSeek tag) s fun t =>
      (∃ n, n ≤ c.dlen ∧ EndsAs t c stGood ((s.elapsed - c.residual) / 1000) (c.dlen - n)) ∧ Keeps [] s t) ∧
  (∀ (tag : Nat) (c : Cmd) (s : State), s.atHostTurn tag c → nativeIs 0x48 c = true → s.pagesFree [0x03] → c.started = false →
    Completes (.calRun tag) s fun t =>
      t.cal.wait = s.cal.wait ++ [.run (some tag)] ∧ t.cmd tag = some { c with started := true } ∧ Keeps [] s t) ∧
  (∀ (tag : Nat) (c : Cmd) (s : State), s.atHostTurn tag c → nativeIs 0x49 c = true → s.pagesFree [0x03] → c.started = false →
    bit c.param0 0 = true →
    Completes (.calRestore tag) s fun t =>
      t.cal.wait = s.cal.wait ++ [.restoreCmd tag none] ∧ t.cmd tag = some { c with started := true } ∧ Keeps [] s t) ∧
  (∀ (tag : Nat) (c : Cmd) (s : State), s.atHostTurn tag c → nativeIs 0x4A c = true → s.pagesFree [0x03] → 256 ≤ c.dlen →
    Completes (.calSave tag) s fun t =>
      DataSent s t c ((List.range 64).flatMap fun k => leBytes 4 (s.rd (CAL.BLOB_OUT.at k))) ∧
      EndsAs t c stGood (s.rd CAL.RUNS + s.rd CAL.RESTORES * 2 ^ 16) (c.dlen - 256) ∧ Keeps [] s t) ∧
  (∀ (tag : Nat) (c : Cmd) (s : State), s.atHostTurn tag c → nativeIs 0x50 c = true → s.pagesFree [0x15] →
    s.xferCount c.block c.count (s.rd REC.NEXT_RSN) (c.dlen / 32) = c.count → (s.dumpRecs c.block c.count).2 = false →
    Completes (.recDump tag) s fun t =>
      DataSent s t c (s.dumpRecs c.block c.count).1 ∧ EndsAs t c stGood c.count 0 ∧ LeafSet t Lf.REC.READ_DONE ∧ Keeps [] s t) ∧
  (∀ (tag : Nat) (c : Cmd) (s : State), s.atHostTurn tag c → nativeIs 0x51 c = true → s.pagesFree [0x15] → c.started = false →
    s.storeOk = true → s.recd.eraseTag = none → s.is REC.FLUSHING = false →
    Completes (.recErase tag) s fun t =>
      t.recd.eraseTag = some tag ∧ t.recd.erasedBelow = max s.recd.erasedBelow (min (c.block + c.count) (s.rd REC.NEXT_RSN)) ∧
      t.rd REC.FLUSHING = 1 ∧ t.cmd tag = some { c with started := true } ∧ Keeps [] s t) ∧
  (∀ (tag : Nat) (c : Cmd) (s : State), s.atHostTurn tag c → nativeIs 0x58 c = true → c.traceOp = 0 → s.pagesFree [0x16] →
    c.started = false → s.is TRC.RUNNING = false → 8 ≤ Nat.log2 (c.dlen / 16) → Nat.log2 (c.dlen / 16) ≤ 24 →
    Completes (.traceCtlStart tag) s fun t =>
      t.rd TRC.RUN = 1 ∧ t.rd TRC.RUNNING = 1 ∧ t.rd TRC.WPTR = 0 ∧ t.rd TRC.BUF_LOG2 = Nat.log2 (c.dlen / 16) ∧
      t.rd TRC.SRC_EN = bits c.param0 8 8 ∧ t.rd TRC.MODE = bits c.param0 16 1 ∧ t.rd TRC.LOC = 0 ∧ t.trc.startTag = some tag ∧
      t.cmd tag = some { c with started := true } ∧ LeafSet t Lf.TRC.STARTED ∧
      Keeps [TRC.RUN, TRC.RUNNING, TRC.STALLED, TRC.WPTR, TRC.RPTR, TRC.SEQ, TRC.RS_VALID, TRC.SRC_EN, TRC.MODE, TRC.LOC,
        TRC.BUF_LOG2, TRC.BUF_BASE_LO, TRC.BUF_BASE_HI] s t) ∧
  (∀ (tag : Nat) (c : Cmd) (s : State), s.atHostTurn tag c → nativeIs 0x58 c = true → c.traceOp = 1 → s.pagesFree [0x16] →
    s.is TRC.RUNNING = false → Completes (.traceCtlStop tag) s fun t => EndsAs t c stGood 0xFFFFFFFF 0 ∧ Keeps [] s t) ∧
  (∀ (tag : Nat) (c : Cmd) (s : State), s.atHostTurn tag c → nativeIs 0x58 c = true → c.param0 % 4 = 2 → s.pagesFree [0x16] →
    Completes (.traceCtlFilter tag) s fun t =>
      t.rd TRC.SRC_EN = bits c.param0 8 8 ∧ EndsAs t c stGood 0 0 ∧ Keeps [TRC.SRC_EN] s t) ∧
  (∀ (tag stop : Nat) (how : PlayEnd) (c : Cmd) (s : State), s.atHostTurn tag c → nativeIs 0x60 c = true → c.started = false →
    s.pagesFree [0x0A, 0x0B, 0x14] → s.medium = .ok → s.isDvd = false → s.audioBlock c.block = true → s.aud.play = none →
    c.count ≤ s.drv.toc.leadOut - c.block → s.playRange c.block c.count = (stop, how) → c.block < stop → s.rd (Hdr.HOOK 0x0B) = 0 →
    s.rd TIME.STATE = 0 → s.pow.entry = none →
    Completes (.audioPlay tag) s fun t =>
      t.rd AUD.STATE = 1 ∧ t.aud.play = some { tag := tag, next := c.block, stop := stop, how := how, skip := false } ∧
      t.cmd tag = some { c with started := true } ∧ LeafSet t Lf.AUD.DIRECT_PATH ∧ Keeps [AUD.STATE] s t) ∧
  (∀ (tag : Nat) (c : Cmd) (s : State), s.atHostTurn tag c → nativeIs 0x61 c = true → c.started = false → s.pagesFree [0x14] →
    s.aud.play = none → Completes (.audioStop tag) s fun t => EndsAs t c stGood 0xFFFFFFFF 0 ∧ Keeps [] s t) ∧
  (∀ (tag : Nat) (c : Cmd) (p : Play) (s : State), s.atHostTurn tag c → nativeIs 0x61 c = true → c.started = false →
    s.pagesFree [0x14] → s.aud.play = some p → p.tag ≠ tag → s.aud.stops = [] → s.rd AUD.STATE ≠ 3 → s.mem.ueTab = [] →
    Completes (.audioStop tag) s fun t =>
      t.aud.play = none ∧ t.rd AUD.STATE = 0 ∧ EndsAs t { c with started := true } stGood (p.lastOut.getD 0xFFFFFFFF) 0 ∧
      LeafSet t Lf.AUD.PLAY_STOP ∧ Keeps [AUD.STATE] s t)

/-- A command to a remote namespace is carried whole to its node, and without a route it ends PATH_FAILED (R456, R458). -/
def Obligations.RemoteCommandsAreCarried : Prop :=
  (∀ (tag x : Nat) (c : Cmd) (s : State), s.atTurn tag = some c → c.loc = false → nativeIs 0x10 c = true →
    isRemote (s.localNs c.nsid) = true → c.started = false → s.rylUp = true → s.is (Hdr.QUIESCE 0x13) = false →
    s.routeUp (remoteNode (s.localNs c.nsid)) = some x →
    Completes (.read tag) s fun t =>
      t.ryl.opens = s.ryl.opens ++
        [RylOpen.mk s.freeCtag (s.rd (Hdr.EPOCH 0x13)) (remoteNode (s.localNs c.nsid)) (some tag) none] ∧
      t.cmd tag = some { c with started := true }) ∧
  (∀ (tag : Nat) (c : Cmd) (s : State), s.atTurn tag = some c → c.loc = false → nativeIs 0x10 c = true →
    isRemote (s.localNs c.nsid) = true → c.started = false → s.rylUp = true → s.is (Hdr.QUIESCE 0x13) = false →
    s.routeUp (remoteNode (s.localNs c.nsid)) = none →
    Completes (.read tag) s fun t => EndsAs t c stPathFailed 0 c.dlen ∧ t.ryl.opens = s.ryl.opens ∧ Keeps [] s t)

/-! ### Oasis -/

/-- NAND operations (R408, R410 to R412, R415, R417, R421, R422): a page that is programmed moves its block's pointer, the
last sectors of a streamed write commit it and end its command, a failed program retires its block, an erase returns the
pointer to 0, a page read gives a command its sectors, and a die that stays busy too long fails. The raw path (R409, R417 to
R419): an operation takes its address and runs, a program of a mounted library is refused, and the end of an erase and of a
read leave their results. -/
def Obligations.NandCommandsComplete : Prop :=
  (∀ (die block page : Nat) (wp : Bool) (s : State), s.oasUp = true → s.rd OAS.STATE = 4 → die ∉ s.lib.dead →
    dbGet s.nand.ptrs die block ≤ page → s.rd (Hdr.HOOK 0x12) = 0 → s.rd OAS.PAGES_PROGRAMMED < 2 ^ 32 - 1 →
    Completes (.nandProgramDone die block page .other true wp) s fun t =>
      dbGet t.nand.ptrs die block = page + 1 ∧ t.nand.lib = s.nand.lib ∧
      t.rd OAS.PAGES_PROGRAMMED = s.rd OAS.PAGES_PROGRAMMED + 1 ∧ Keeps (OAS.PAGES_PROGRAMMED :: oasCountFields) s t) ∧
  (∀ (die block page n : Nat) (wp : Bool) (w : LibWrite) (c : Cmd) (s : State), s.oasUp = true → s.rd OAS.STATE = 4 →
    die ∉ s.lib.dead → dbGet s.nand.ptrs die block ≤ page → s.rd (Hdr.HOOK 0x12) = 0 → s.nand.writes = [w] → w.live = true →
    w.trim = false → w.atomic = false → w.count = 1 → w.programmed = 0 → 1 ≤ n → s.cmd w.tag = some c → c.stage ≠ .ended →
    s.cachedAt (0x10 + w.ns) w.block = none → s.rd OAS.COMMITS < 2 ^ 32 - 1 →
    Completes (.nandProgramDone die block page (.data w.tag n) true wp) s fun t =>
      t.libGet w.ns w.block = some { ns := w.ns, block := w.block, seq := w.seq, die := die, data := slice w.data 0 2048 } ∧
      t.nand.writes = [] ∧ t.rd OAS.COMMITS = s.rd OAS.COMMITS + 1 ∧ EndsAs t c w.status w.specific w.residual ∧
      Keeps ([OAS.PAGES_PROGRAMMED, OAS.COMMITS] ++ oasCountFields) s t) ∧
  (∀ (die block page : Nat) (wp : Bool) (s : State), s.oasUp = true → s.rd OAS.STATE = 4 → die ∉ s.lib.dead →
    dbGet s.nand.ptrs die block ≤ page → s.rd (Hdr.HOOK 0x12) = 0 → 0 < s.sparesLeft die → s.failRunOf die < 15 →
    s.rd OAS.PROG_FAILS < 2 ^ 16 - 1 → s.rd OAS.GROWN_BAD < 2 ^ 16 - 1 →
    Completes (.nandProgramDone die block page .other false wp) s fun t =>
      t.nand.bad = s.nand.bad ++ [(die, block)] ∧ t.rd OAS.PROG_FAILS = s.rd OAS.PROG_FAILS + 1 ∧
      t.rd OAS.GROWN_BAD = s.rd OAS.GROWN_BAD + 1 ∧ LeafSet t Lf.NAND.PROG_FAIL ∧ LeafSet t Lf.NAND.BAD_BLOCK_NEW ∧
      (wp = true → LeafSet t Lf.NAND.WP_ACTIVE) ∧ Keeps ([OAS.PROG_FAILS, OAS.GROWN_BAD] ++ oasCountFields) s t) ∧
  (∀ (die block : Nat) (wp : Bool) (s : State), s.oasUp = true → s.rd OAS.STATE = 4 → die ∉ s.lib.dead → s.rd (Hdr.HOOK 0x12) = 0 →
    Completes (.nandEraseDone die block true wp) s fun t =>
      dbGet t.nand.ptrs die block = 0 ∧ dbGet t.nand.erases die block = dbGet s.nand.erases die block + 1 ∧
      Keeps oasCountFields s t) ∧
  (∀ (tag die : Nat) (r : SectorRead) (c : Cmd) (s : State), s.oasUp = true → s.rd OAS.STATE = 4 → die ∉ s.lib.dead →
    s.rd (Hdr.HOOK 0x12) = 0 → r.first ≠ [] → (∀ o ∈ r.first, ∃ n, o = some n ∧ n ≤ 72) → s.cmd tag = some c →
    s.rd OAS.PAGES_READ < 2 ^ 32 - 1 →
    Completes (.nandReadDone tag die [r]) s fun t =>
      t.cmd tag = some { c with got := c.got ++ [(0x10 + r.ns, r.block)] } ∧ t.rd OAS.PAGES_READ = s.rd OAS.PAGES_READ + 1 ∧
      Keeps [OAS.PAGES_READ] s t) ∧
  (∀ (tag die : Nat) (r : SectorRead) (c : Cmd) (s : State), s.oasUp = true → s.rd OAS.STATE = 4 → die ∉ s.lib.dead →
    s.rd (Hdr.HOOK 0x12) = 0 → none ∈ r.first → none ∈ r.again → none ∈ r.last → s.cmd tag = some c →
    s.rd OAS.READ_RETRIES < 2 ^ 16 - 1 → s.rd OAS.BCH_FAILS < 2 ^ 16 - 1 →
    Completes (.nandReadDone tag die [r]) s fun t =>
      t.cmd tag = some { c with lost := c.lost ++ [(0x10 + r.ns, r.block)] } ∧ t.rd OAS.READ_RETRIES = s.rd OAS.READ_RETRIES + 1 ∧
      t.rd OAS.BCH_FAILS = s.rd OAS.BCH_FAILS + 1 ∧ LeafSet t Lf.NAND.READ_RETRY ∧ LeafSet t Lf.NAND.BCH_FAIL ∧
      Keeps [OAS.PAGES_READ, OAS.READ_RETRIES, OAS.BCH_FAILS] s t) ∧
  (∀ (die : Nat) (beyond : Bool) (s : State), s.oasUp = true → die ∉ s.lib.dead → die < 8 →
    Completes (.nandBusyLong die beyond) s fun t =>
      LeafSet t Lf.NAND.BUSY_LONG ∧ (beyond = true → die ∈ t.lib.dead ∧ LeafSet t (Lf.NAND.DIE_FAIL_0.plus die)) ∧ Keeps [] s t) ∧
  (∀ (die block : Nat) (s : State), s.oasUp = true → s.pow.pfHeld = false → s.rd OAS.STATE = 4 →
    s.is (Hdr.QUIESCE 0x12) = false → die ∉ s.lib.dead →
    Completes (.garbageCollection die block) s fun t =>
      dbGet t.nand.ptrs die block = 0 ∧ dbGet t.nand.erases die block = dbGet s.nand.erases die block + 1 ∧
      t.nand.lib = s.nand.lib ∧ Keeps oasCountFields s t) ∧
  (∀ s : State, PageUp s 0x12 → s.rd OAS.RAW_GO = 0 → 1 ≤ s.rd OAS.STATE → 5 ≤ s.rd MEM.HOST_NOW →
    Completes .rawRead s fun t =>
      t.lib.raw = some (0, s.rd OAS.RAW_DIE, s.rd OAS.RAW_BLOCK, s.rd OAS.RAW_PAGE, s.rd OAS.RAW_BUF) ∧ t.rd OAS.RAW_GO = 1 ∧
      t.rd OAS.RAW_OP = 0 ∧ Keeps [OAS.RAW_GO, OAS.RAW_OP] s t) ∧
  (∀ s : State, PageUp s 0x12 → s.rd OAS.RAW_GO = 0 → 1 ≤ s.rd OAS.STATE → 5 ≤ s.rd MEM.HOST_NOW →
    Completes .rawReadRaw s fun t =>
      t.lib.raw = some (1, s.rd OAS.RAW_DIE, s.rd OAS.RAW_BLOCK, s.rd OAS.RAW_PAGE, s.rd OAS.RAW_BUF) ∧ t.rd OAS.RAW_GO = 1 ∧
      t.rd OAS.RAW_OP = 1 ∧ Keeps [OAS.RAW_GO, OAS.RAW_OP] s t) ∧
  (∀ s : State, PageUp s 0x12 → s.rd OAS.RAW_GO = 0 → 1 ≤ s.rd OAS.STATE → ¬(3 ≤ s.rd OAS.STATE ∧ s.rd OAS.STATE ≤ 5) →
    5 ≤ s.rd MEM.HOST_NOW →
    (s.ptrKnown (s.rd OAS.RAW_DIE) (s.rd OAS.RAW_BLOCK) = true →
      dbGet s.nand.ptrs (s.rd OAS.RAW_DIE) (s.rd OAS.RAW_BLOCK) ≤ s.rd OAS.RAW_PAGE) →
    s.mem.parityFaults = 0 → (∀ w ∈ wordsOf (s.rd OAS.RAW_BUF * 0x1000) 16512, s.synd w = 0) →
    Completes .rawProgram s fun t =>
      t.lib.raw = some (2, s.rd OAS.RAW_DIE, s.rd OAS.RAW_BLOCK, s.rd OAS.RAW_PAGE, s.rd OAS.RAW_BUF) ∧ t.rd OAS.RAW_GO = 1 ∧
      t.rd OAS.RAW_OP = 2 ∧ Keeps [OAS.RAW_GO, OAS.RAW_OP] s t) ∧
  (∀ s : State, PageUp s 0x12 → s.rd OAS.RAW_GO = 0 → 1 ≤ s.rd OAS.STATE → ¬(3 ≤ s.rd OAS.STATE ∧ s.rd OAS.STATE ≤ 5) →
    5 ≤ s.rd MEM.HOST_NOW →
    Completes .rawErase s fun t =>
      t.lib.raw = some (3, s.rd OAS.RAW_DIE, s.rd OAS.RAW_BLOCK, s.rd OAS.RAW_PAGE, s.rd OAS.RAW_BUF) ∧ t.rd OAS.RAW_GO = 1 ∧
      t.rd OAS.RAW_OP = 3 ∧ Keeps [OAS.RAW_GO, OAS.RAW_OP] s t) ∧
  (∀ s : State, PageUp s 0x12 → s.rd OAS.RAW_GO = 0 → s.rd OAS.STATE = 4 → 5 ≤ s.rd MEM.HOST_NOW → OAS.RAW_GO.key ∉ s.goWait →
    Completes .rawProgram s fun t =>
      t.lib.raw = none ∧ t.rd OAS.RAW_STATUS = stReadOnly ∧ t.rd OAS.RAW_GO = 0 ∧
      Keeps [OAS.RAW_GO, OAS.RAW_OP, OAS.RAW_STATUS] s t) ∧
  (∀ (d b p buf : Nat) (r : RawResult) (s : State), s.lib.raw = some (3, d, b, p, buf) → s.oasUp = true → s.rd (Hdr.HOOK 0x12) = 0 →
    r.ok = true → OAS.RAW_GO.key ∉ s.goWait →
    Completes (.rawOpDone r) s fun t =>
      t.lib.raw = none ∧ dbGet t.nand.ptrs d b = 0 ∧ dbGet t.nand.erases d b = dbGet s.nand.erases d b + 1 ∧ (d, b) ∈ t.lib.known ∧
      t.rd OAS.RAW_STATUS = stGood ∧ t.rd OAS.RAW_GO = 0 ∧ Keeps [OAS.RAW_STATUS, OAS.RAW_GO] s t) ∧
  (∀ (d b p buf : Nat) (r : RawResult) (s : State), s.lib.raw = some (0, d, b, p, buf) → s.oasUp = true → s.rd (Hdr.HOOK 0x12) = 0 →
    RawErased r = false → (∀ o ∈ r.bits, ∃ n, o = some n ∧ n ≤ 72) → r.data.length = 16512 → OAS.RAW_GO.key ∉ s.goWait →
    s.mem.parityFaults = 0 → s.rd (Hdr.HOOK 0x0E) = 0 → buf * 0x1000 + 16512 ≤ cacheBytes →
    (∀ w ∈ wordsOf (buf * 0x1000) 16512, s.synd w = 0) →
    Completes (.rawOpDone r) s fun t =>
      (∀ a, cellGet t.cells a = if buf * 0x1000 ≤ a ∧ a < buf * 0x1000 + 16512 then (r.data[a - buf * 0x1000]?).getD 0
        else cellGet s.cells a) ∧
      t.lib.raw = none ∧ t.rd OAS.RAW_STATUS = stGood ∧ t.rd OAS.RAW_GO = 0 ∧ t.rd OAS.ERASED = 0 ∧
      KeepsRegs [OAS.PAGES_READ, OAS.ERASED, OAS.BITS, OAS.RAW_STATUS, OAS.RAW_GO] s t)

/-- The end of a mount and the shadow store (R414, R424, R425, R428, R429). -/
def Obligations.MountAndShadowComplete : Prop :=
  (∀ s : State, s.rd OAS.STATE = 3 → s.oasUp = true → s.pow.pfHeld = false → s.nand.formatted = true →
    s.nand.geom = s.geomNow → s.nand.writes = [] → s.is (Hdr.GATED 0x00) = false →
    Completes (.mountDone false false) s fun t =>
      t.rd OAS.STATE = 4 ∧ t.lib.dead = [] ∧ t.nand.lib = s.nand.lib ∧
      (∀ k, k < 16 → t.rd (OAS.NS_SIZE.at k) =
        ((s.nand.sizes.find? fun e => e.1 == k).map Prod.snd).getD 0 % 2 ^ OAS.NS_SIZE.width) ∧
      LeafSet t Lf.OAS.MOUNT_DONE ∧ LeafSet t Lf.OAS.REPLAY_DONE ∧ LeafSet t Lf.SYS.RECOVERY_DONE ∧
      Keeps (OAS.STATE :: (List.range 16).map OAS.NS_SIZE.at ++ oasCountFields) s t) ∧
  (∀ (fail : Bool) (s : State), s.rd OAS.STATE = 3 → s.oasUp = true → s.pow.pfHeld = false →
    Completes (.mountDone true fail) s fun t => t.rd OAS.STATE = 1 ∧ LeafSet t Lf.OAS.FORMAT_NEEDED ∧ Keeps [OAS.STATE] s t) ∧
  (∀ (x : ShadowSec) (r : List ShadowSec) (s : State), s.lib.shadowQ = x :: r → s.oasUp = true → s.pow.pfHeld = false →
    s.rd OAS.STATE = 4 → (∀ y ∈ s.nand.shadow, ¬(y.ident = x.ident ∧ y.layer = x.layer ∧ y.addr = x.addr)) →
    (s.nand.shadow.filter fun y => y.ident == x.ident).length < 16384 → s.nand.shadow.length < s.shadowCap →
    Completes .shadowStoreWrite s fun t => t.nand.shadow = s.nand.shadow ++ [x] ∧ t.lib.shadowQ = r ∧ Keeps [] s t)


/-! ### The Ryrram link -/

/-- Ports and links (R440, R441, R454): a link that comes up and one that goes down, a HELLO from a neighbour and one of the
node's own, a code error, a retrain and a wake. The link layer (R443 to R446): acknowledgements free caravans, NAKs and
timeouts send them again, credits are counted up to 32, and a forwarded caravan whose lifetime has run out is discarded. -/
def Obligations.RylLinkCommandsComplete : Prop :=
  (∀ (x : Nat) (s : State), x < 3 → s.rylQuiet → s.portLive x = true → (s.rport x).gotHello = true → (s.rport x).sentHello = true →
    s.is (RYL.LOOP.at x) = false → s.is (RYL.UP.at x) = false →
    Completes (.rylLinkUp x) s fun t =>
      t.rd (RYL.UP.at x) = 1 ∧ (s.rd RYL.JOIN_STATE = 0 → t.rd RYL.JOIN_STATE = 1) ∧ LeafSet t (Lf.RYP.LINK_UP_A.plus x) ∧
      Keeps ([RYL.UP.at x, RYL.JOIN_STATE] ++ portFields) s t) ∧
  (∀ (x : Nat) (s : State), x < 3 → s.rylQuiet → s.portLive x = true → s.is (RYL.UP.at x) = true →
    Completes (.rylLinkDown x) s fun t =>
      t.rd (RYL.UP.at x) = 0 ∧ t.rd (RYL.NEIGH_VALID.at x) = 0 ∧
      t.ryl.held = s.ryl.held ++ ((s.rport x).unacked ++ (s.rport x).queue).filter (fun q => !linkKind q.c.body.kind) ∧
      LeafSet t (Lf.RYP.LINK_DOWN_A.plus x) ∧
      Keeps ([RYL.UP.at x, RYL.NEIGH_VALID.at x, RYL.NEIGH_ID.at x, RYL.LOOP.at x] ++ portFields) s t) ∧
  (∀ (x unique n port : Nat) (c : Caravan) (s : State), x < 3 → s.rylQuiet → s.portLive x = true →
    c.lseq = (s.rport x).rxNext → s.rd RYL.CARAVANS_RX < 2 ^ 32 - 1 → c.body = .hello unique (some n) port → unique ≠ ownUnique →
    (s.rport x).sentHello = true →
    Completes (.helloReceived x c) s fun t =>
      (t.rport x).gotHello = true ∧ t.rd (RYL.NEIGH_VALID.at x) = 1 ∧ t.rd (RYL.NEIGH_ID.at x) = n % 2 ^ 16 ∧ Acked s t x c ∧
      Keeps [RYL.CARAVANS_RX, RYL.NEIGH_VALID.at x, RYL.NEIGH_ID.at x] s t) ∧
  (∀ (x port : Nat) (node : Option Nat) (c : Caravan) (s : State), x < 3 → s.rylQuiet → s.portLive x = true →
    c.lseq = (s.rport x).rxNext → s.rd RYL.CARAVANS_RX < 2 ^ 32 - 1 → c.body = .hello ownUnique node port →
    s.is (RYL.UP.at x) = false → s.rd (RYL.LOOP.at x) = 0 →
    Completes (.helloReceived x c) s fun t =>
      t.rd (RYL.LOOP.at x) = 1 ∧ LeafSet t (Lf.RYP.LOOP_A.plus x) ∧ Acked s t x c ∧
      Keeps [RYL.CARAVANS_RX, RYL.LOOP.at x] s t) ∧
  (∀ (x : Nat) (s : State), x < 3 → s.portLive x = true → s.rd RYL.SYMBOL_ERRS < 2 ^ 16 - 1 →
    Completes (.codeError x) s fun t =>
      t.rd RYL.SYMBOL_ERRS = s.rd RYL.SYMBOL_ERRS + 1 ∧ LeafSet t (Lf.RYP.SYMBOL_ERR_A.plus x) ∧ Keeps [RYL.SYMBOL_ERRS] s t) ∧
  (∀ (x : Nat) (s : State), x < 3 → s.rylQuiet → s.portLive x = true →
    Completes (.portRetrain x) s fun t =>
      t.rd (RYL.UP.at x) = 0 ∧ t.rd (RYL.LOOP.at x) = 0 ∧ t.rd (RYL.CREDITS.at x) = 31 ∧ (t.rport x).sentHello = true ∧
      (t.rport x).gotHello = false ∧ t.rd (retrainGo x) = 0 ∧ (s.is (RYL.UP.at x) = true → LeafSet t (Lf.RYP.LINK_DOWN_A.plus x)) ∧
      Keeps [RYL.UP.at x, RYL.NEIGH_VALID.at x, RYL.NEIGH_ID.at x, RYL.LOOP.at x, RYL.CREDITS.at x, RYL.CARAVANS_TX,
        retrainGo x] s t) ∧
  (∀ (x : Nat) (s : State), x < 3 → s.rylUp = true → s.is (RYL.UP.at x) = false →
    Completes (.portWake x) s fun t => .linkSym x 3 0 ∈ t.sent ∧ t.rd (wakeGo x) = 0 ∧ Keeps [wakeGo x] s t) ∧
  (∀ (x : Nat) (c : Caravan) (s : State), s.takes x c → s.rylQuiet → c.body = .reserved →
    Completes (.reservedCaravanReceived x c) s fun t => Acked s t x c ∧ Keeps [RYL.CARAVANS_RX] s t) ∧
  (∀ (x : Nat) (s : State), x < 3 → s.portLive x = true → s.rd RYL.CRC_ERRS < 2 ^ 16 - 1 →
    Completes (.badCaravan x true) s fun t =>
      .linkSym x 1 (s.rport x).rxNext ∈ t.sent ∧ t.rd RYL.CRC_ERRS = s.rd RYL.CRC_ERRS + 1 ∧
      LeafSet t (Lf.RYP.CRC_ERR_A.plus x) ∧ Keeps [RYL.CRC_ERRS] s t) ∧
  (∀ (x : Nat) (s : State), x < 3 → s.portLive x = true →
    Completes (.badCaravan x false) s fun t => .linkSym x 1 (s.rport x).rxNext ∈ t.sent ∧ Keeps [] s t) ∧
  (∀ (x : Nat) (q : QCar) (s : State), x < 3 → s.portLive x = true → s.ryl.ports.length = 3 → (s.rport x).unacked = [q] →
    (s.rport x).queue = [] →
    Completes (.ackReceived x q.c.lseq) s fun t =>
      (t.rport x).unacked = [] ∧ (∀ y, q.came = some y → .linkSym y 2 (carCredits q.c) ∈ t.sent) ∧ Keeps [] s t) ∧
  (∀ (x : Nat) (q : QCar) (s : State), x < 3 → s.rylQuiet → s.portLive x = true → (s.rport x).unacked = [q] →
    (s.rport x).replays < 3 → s.rd RYL.REPLAYS < 2 ^ 16 - 1 →
    Completes (.nakReceived x q.c.lseq) s fun t =>
      .caravan x q.c false ∈ t.sent ∧ t.rd RYL.REPLAYS = s.rd RYL.REPLAYS + 1 ∧ Keeps [RYL.REPLAYS] s t) ∧
  (∀ (x : Nat) (q : QCar) (s : State), x < 3 → s.rylQuiet → s.portLive x = true → (s.rport x).unacked = [q] →
    (s.rport x).replays < 3 → s.rd RYL.REPLAYS < 2 ^ 16 - 1 →
    Completes (.replayTimeout x) s fun t =>
      .caravan x q.c false ∈ t.sent ∧ t.rd RYL.REPLAYS = s.rd RYL.REPLAYS + 1 ∧ Keeps [RYL.REPLAYS] s t) ∧
  (∀ (x n : Nat) (s : State), x < 3 → s.portLive x = true → (s.rport x).queue = [] →
    Completes (.creditsReceived x n) s fun t =>
      t.rd (RYL.CREDITS.at x) = min 32 (s.rd (RYL.CREDITS.at x) + n) ∧ Keeps [RYL.CREDITS.at x] s t) ∧
  (∀ (x : Nat) (q : QCar) (s : State), x < 3 → pickNext (s.rport x) = some q → s.rd (RYL.CREDITS.at x) < carCredits q.c →
    s.is (Hdr.GATED 0x13) = false →
    Completes (.creditStall x) s fun t => LeafSet t (Lf.RYP.CREDIT_STALL_A.plus x) ∧ Keeps [] s t) ∧
  (∀ (x y : Nat) (q : QCar) (s : State), x < 3 → s.ryl.ports.length = 3 → (s.rport x).queue = [q] → q.came = some y →
    s.rd RYL.FWD_DROPS < 2 ^ 16 - 1 →
    Completes (.caravanLifetimeExpiry x) s fun t =>
      (t.rport x).queue = [] ∧ .linkSym y 2 (carCredits q.c) ∈ t.sent ∧ t.rd RYL.FWD_DROPS = s.rd RYL.FWD_DROPS + 1 ∧
      Keeps [RYL.FWD_DROPS] s t)

/-- The election, IDs and timers of the node (R447 to R450, R453): a better key replaces BEST, a lost elder is dropped, quiet
makes the node elder, and it joins, forwards a join, and takes the ID that it is granted. -/
def Obligations.RylElectionComplete : Prop :=
  (∀ (x p u h : Nat) (c : Caravan) (s : State), s.takes x c → s.rylQuiet → c.body = .elect p u h → h < 256 → s.ryl.ignore = none →
    u ≠ ownUnique → keyBetter p u s.bestNow.1 s.bestNow.2.1 = true →
    Completes (.electReceived x c) s fun t =>
      t.ryl.best = some { priority := p, unique := u, hops := h, port := x } ∧ t.rd RYL.ELDER = 0 ∧ t.rd RYL.JOIN_STATE = 1 ∧
      t.rd RYL.ELDER_PORT = x + 1 ∧ t.rd RYL.HOPS = h ∧ Acked s t x c ∧
      Keeps ([RYL.CARAVANS_RX, RYL.ELDER, RYL.JOIN_STATE, RYL.ELDER_PORT, RYL.HOPS] ++ portFields) s t) ∧
  (∀ (b : Best) (s : State), s.rylQuiet → s.ryl.best = some b →
    Completes .elderLost s fun t =>
      t.ryl.best = none ∧ t.ryl.ignore = some (b.priority, b.unique, s.elapsed + 2 * s.rd RYL.LOST_N * s.rd RYL.HEARTBEAT_MS * 1000) ∧
      t.rd RYL.ELDER_PORT = 0 ∧ t.rd RYL.JOIN_STATE = 1 ∧ t.rd RYL.HOPS = 0 ∧ LeafSet t Lf.RYL.ELDER_LOST ∧
      Keeps ([RYL.ELDER, RYL.JOIN_STATE, RYL.ELDER_PORT, RYL.HOPS] ++ portFields) s t) ∧
  (∀ s : State, s.rylQuiet → s.ryl.best = none → s.ryl.roster = [] → s.ryl.reserved = [] → s.is RYL.ID_VALID = false →
    s.is RYL.PREF_EN = false → s.ryl.lastId = none → s.mem.owners = [] →
    Completes .elderQuietExpiry s fun t =>
      t.rd RYL.ELDER = 1 ∧ t.rd RYL.ID_VALID = 1 ∧ t.rd RYL.NODE_ID = 0 ∧ t.rd RYL.ELDER_ID = 0 ∧ t.rd RYL.JOIN_STATE = 3 ∧
      t.rd RYL.GEN = (s.rd RYL.GEN + 65537) % 2 ^ 32 ∧ LeafSet t Lf.RYL.SELF_ELDER ∧ LeafSet t Lf.RYL.ROSTER_CHANGED ∧
      Keeps ([RYL.ELDER, RYL.GEN, RYL.ELECTIONS, RYL.ID_VALID, RYL.NODE_ID, RYL.JOIN_STATE, RYL.ELDER_ID, RYL.ROSTER_HELD] ++
        portFields) s t) ∧
  (∀ s : State, s.elderSettled →
    Completes .heartbeatTimer s fun t =>
      (∀ y, y < 3 → s.is (RYL.UP.at y) = true →
        Queued t y fun q => q.body = .roster (s.rd RYL.GEN) [] [] ∧ q.src = s.rd RYL.NODE_ID) ∧ Keeps portFields s t) ∧
  (∀ (y : Nat) (s : State), y < 3 → s.rylQuiet → s.rd RYL.JOIN_STATE = 2 → s.rd RYL.ELDER_PORT = y + 1 → s.is RYL.JOIN_EN = true →
    Completes .joinRetry s fun t =>
      (Queued t y fun q => q.body = .joinReq ownUnique s.preferredId []) ∧ t.rd RYL.JOIN_STATE = 2 ∧
      Keeps (RYL.JOIN_STATE :: portFields) s t) ∧
  (∀ (x y unique : Nat) (pref : Option Nat) (path : List Nat) (c : Caravan) (s : State), s.takes x c → s.rylQuiet → y < 3 →
    c.body = .joinReq unique pref path → s.rd RYL.ELDER_PORT = y + 1 → c.hops ≠ 0 → s.is (RYL.UP.at y) = true →
    s.rd RYL.FORWARDED < 2 ^ 32 - 1 →
    Completes (.joinReqReceived x c) s fun t =>
      (Queued t y fun q => q.body = .joinReq unique pref (path ++ [x]) ∧ q.hops = c.hops - 1) ∧
      t.rd RYL.FORWARDED = s.rd RYL.FORWARDED + 1 ∧ Acked s t x c ∧ Keeps ([RYL.CARAVANS_RX, RYL.FORWARDED] ++ portFields) s t) ∧
  (∀ (x n : Nat) (c : Caravan) (s : State), s.takes x c → s.rylQuiet → c.body = .joinGrant ownUnique n [] → s.is RYL.ID_VALID = false →
    Completes (.joinGrantReceived x c) s fun t =>
      t.rd RYL.ID_VALID = 1 ∧ t.rd RYL.NODE_ID = n % 2 ^ 16 ∧ t.rd RYL.JOIN_STATE = 3 ∧ t.ryl.lastId = some n ∧
      LeafSet t Lf.RYL.NODE_ID_ASSIGNED ∧ Acked s t x c ∧
      Keeps ([RYL.CARAVANS_RX, RYL.ID_VALID, RYL.NODE_ID, RYL.JOIN_STATE] ++ portFields) s t) ∧
  (∀ (id : Nat) (s : State), s.is RYL.ELDER = true → (∀ e ∈ s.ryl.roster, e.id ≠ id) →
    Completes (.idReservationExpiry id) s fun t =>
      t.ryl.reserved = s.ryl.reserved.filter (fun r => r.2 ≠ id) ∧ t.ryl.roster = s.ryl.roster ∧ Keeps [] s t)

/-- The roster (R448, R451 to R453): a report reaches the elder, a heartbeat goes on down the tree, a generation is applied, a
request for the whole roster is answered and one is taken, and the routes follow. -/
def Obligations.RylRosterComplete : Prop :=
  (∀ (x : Nat) (e : RosterEnt) (c : Caravan) (s : State), s.takes x c → s.forMe c → s.rylTrained → s.is RYL.ELDER = true →
    c.body = .neigh e → (e.unique, e.id) ∈ s.ryl.reserved →
    ({ s with ryl := { s.ryl with reports := (s.ryl.reports.filter fun (f : RosterEnt) => f.unique ≠ e.unique) ++ [e] } }).elderRoster = s.ryl.roster →
    Completes (.neighReceived x c) s fun t =>
      t.ryl.reports = (s.ryl.reports.filter fun (f : RosterEnt) => f.unique ≠ e.unique) ++ [e] ∧ t.ryl.roster = s.ryl.roster ∧ Acked s t x c ∧
      Keeps [RYL.CARAVANS_RX] s t) ∧
  (∀ (x : Nat) (c : Caravan) (s : State), s.takes x c → s.rylQuiet → c.body = .roster (s.rd RYL.GEN) [] [] → c.hops ≠ 0 →
    s.rd RYL.ELDER_PORT = x + 1 → s.ryl.awaitElder = false → s.ryl.needSync = false → s.rd RYL.GEN < 2 ^ 32 →
    Completes (.rosterReceived x c) s fun t =>
      (∀ y, y < 3 → y ≠ x → s.is (RYL.UP.at y) = true →
        Queued t y fun q => q.body = .roster (s.rd RYL.GEN) [] [] ∧ q.hops = c.hops - 1) ∧
      t.ryl.roster = s.ryl.roster ∧ Acked s t x c ∧ Keeps (RYL.CARAVANS_RX :: portFields) s t) ∧
  (∀ (x : Nat) (e : RosterEnt) (c : Caravan) (s : State), s.takes x c → s.rylQuiet →
    c.body = .roster ((s.rd RYL.GEN + 1) % 2 ^ 32) [e] [] → c.hops = 0 → s.rd RYL.ELDER_PORT = x + 1 → s.ryl.awaitElder = false →
    s.ryl.needSync = false → s.rd RYL.GEN < 2 ^ 32 → s.ryl.roster = [] → s.mem.owners = [] →
    Completes (.rosterReceived x c) s fun t =>
      t.ryl.roster = [e] ∧ t.ryl.rebuilding = true ∧ t.rd RYL.GEN = (s.rd RYL.GEN + 1) % 2 ^ 32 ∧
      LeafSet t Lf.RYL.ROSTER_CHANGED ∧ LeafSet t Lf.RYL.NODE_JOINED ∧ Acked s t x c ∧
      Keeps [RYL.CARAVANS_RX, RYL.GEN, RYL.ROSTER_HELD] s t) ∧
  (∀ (x y : Nat) (c : Caravan) (s : State), s.takes x c → s.forMe c → s.elderSettled → c.body = .syncReq →
    s.ryl.roster.length ≤ 127 → y < 3 → s.routeUp c.src = some y →
    Completes (.syncReqReceived x c) s fun t =>
      (Queued t y fun q => q.body = .rosterFull (s.rd RYL.GEN) s.ryl.roster ∧ q.last = true ∧ q.dst = c.src) ∧ Acked s t x c ∧
      Keeps (RYL.CARAVANS_RX :: portFields) s t) ∧
  (∀ (x gen : Nat) (e : RosterEnt) (c : Caravan) (s : State), s.takes x c → s.forMe c → s.rylQuiet → c.body = .rosterFull gen [e] →
    c.last = true → s.ryl.full = [] → s.ryl.roster = [] → s.mem.owners = [] →
    Completes (.rosterFullReceived x c) s fun t =>
      t.ryl.roster = [e] ∧ t.ryl.needSync = false ∧ t.ryl.full = [] ∧ t.rd RYL.GEN = gen % 2 ^ 32 ∧
      LeafSet t Lf.RYL.ROSTER_CHANGED ∧ Acked s t x c ∧ Keeps [RYL.CARAVANS_RX, RYL.GEN, RYL.ROSTER_HELD] s t) ∧
  (∀ s : State, s.rylQuiet → s.ryl.rebuilding = true → s.ryl.held = [] → s.ryl.opens = [] → s.is (Hdr.GATED 0x00) = false →
    Completes .routeRebuildDone s fun t =>
      t.ryl.rebuilding = false ∧ t.ryl.routes = routesOf s.ryl.roster (s.rd RYL.NODE_ID) ∧
      (s.ryl.lossPending = true → LeafSet t Lf.SYS.RECOVERY_DONE) ∧ Keeps [] s t)

/-- Remote namespaces and borrows (R249, R250, R455 to R458, R461): a request becomes a command of SERVE_SLICE or is refused,
data and the status of a remote command arrive, its timers, and a borrow is asked of this node's shadow, takes its data and
ends. -/
def Obligations.RylRemoteComplete : Prop :=
  (∀ (x : Nat) (entry : List Byte) (c : Caravan) (s : State), s.takes x c → s.forMe c → s.rylQuiet → c.body = .nsReq entry →
    s.is (Hdr.QUIESCE 0x13) = false → s.ryl.serves = [] → s.exported (s.localNs (nsReqNs entry)) = true → s.rd TIME.STATE ≤ 1 →
    s.pow.entry = none →
    Completes (.nsReqReceived x c) s fun t =>
      t.ryl.serves = [{ src := c.src, tag := c.tag, epoch := c.epoch, key := s.ryl.nextServe, entry := entry }] ∧
      t.que.accepted = s.que.accepted ++ [{ slice := s.rd RYL.SERVE_SLICE, qp := 8, index := s.ryl.nextServe, place := s.que.nextPlace,
                                            at_ := s.elapsed }] ∧
      t.que.nextPlace = s.que.nextPlace + 1 ∧ Acked s t x c ∧ Keeps [RYL.CARAVANS_RX] s t) ∧
  (∀ (x y : Nat) (entry : List Byte) (c : Caravan) (s : State), s.takes x c → s.forMe c → s.rylQuiet → c.body = .nsReq entry →
    s.is (Hdr.QUIESCE 0x13) = false → s.ryl.serves = [] → s.exported (s.localNs (nsReqNs entry)) = false → y < 3 →
    s.routeUp c.src = some y →
    Completes (.nsReqReceived x c) s fun t =>
      (Queued t y fun q => q.body = .nsDone 0 0 stInvalidNamespace ∧ q.dst = c.src ∧ q.tag = c.tag) ∧
      t.que.accepted = s.que.accepted ∧ Acked s t x c ∧ Keeps (RYL.CARAVANS_RX :: portFields) s t) ∧
  (∀ (x tag : Nat) (data : List Byte) (o : RylOpen) (d : Cmd) (c : Caravan) (s : State), s.takes x c → s.forMe c → s.rylQuiet →
    c.body = .nsData data → s.openOf c = some o → o.cmd = some tag → s.cmd tag = some d → d.loc = false → d.remotePlain = true →
    d.stage ≠ .ended → d.remoteDone = none → 16 * c.param + data.length ≤ d.dlen →
    Completes (.nsDataReceived x c) s fun t =>
      t.cmd tag = some { d with remote := d.remote ++ [(16 * c.param, data)] } ∧
      (∀ m ∈ (s.hostWrite d.slice (d.dptr + 16 * c.param) data false).sent, m ∈ t.sent) ∧ Acked s t x c ∧
      Keeps [RYL.CARAVANS_RX] s t) ∧
  (∀ (x tag specific residual status : Nat) (o : RylOpen) (d : Cmd) (c : Caravan) (s : State), s.takes x c → s.forMe c → s.rylQuiet →
    c.body = .nsDone specific residual status → s.openOf c = some o → o.cmd = some tag → s.cmd tag = some d → d.remotePlain = true →
    d.stage ≠ .ended → d.dlen - residual ≤ d.remoteLen →
    Completes (.nsDoneReceived x c) s fun t =>
      EndsAs t { d with remoteDone := some (specific, residual, status) } status specific residual ∧ o ∉ t.ryl.opens ∧
      Acked s t x c ∧ Keeps [RYL.CARAVANS_RX] s t) ∧
  (∀ (x : Nat) (o : RylOpen) (c : Caravan) (s : State), s.takes x c → s.forMe c → s.rylQuiet → c.body = .progress →
    s.openOf c = some o →
    Completes (.progressReceived x c) s fun t => t.ryl.opens = s.ryl.opens ∧ Acked s t x c ∧ Keeps [RYL.CARAVANS_RX] s t) ∧
  (∀ (x : Nat) (c : Caravan) (s : State), s.takes x c → s.forMe c → s.rylQuiet → c.body = .progress → s.openOf c = none →
    s.is (Hdr.GATED 0x00) = false →
    Completes (.progressReceived x c) s fun t => LeafSet t Lf.SYS.EPOCH_DISCARD ∧ Acked s t x c ∧ Keeps [RYL.CARAVANS_RX] s t) ∧
  (∀ (src tag y : Nat) (v : Serve) (s : State), (s.ryl.serves.find? fun v => v.src == src && v.tag == tag) = some v → s.rylTrained →
    y < 3 → s.routeUp src = some y →
    Completes (.exporterProgressTimer src tag) s fun t =>
      (Queued t y fun q => q.body = .progress ∧ q.dst = src ∧ q.tag = tag ∧ q.epoch = v.epoch) ∧ Keeps portFields s t) ∧
  (∀ (tag : Nat) (o : RylOpen) (e : RosterEnt) (d : Cmd) (s : State), o ∈ s.ryl.opens → o.cmd = some tag → e ∈ s.ryl.roster →
    e.id = o.node → s.cmd tag = some d → d.stage ≠ .ended →
    Completes (.remoteProgressTimeout tag) s fun t =>
      EndsAs t d stPathFailed 0 (d.dlen - d.remoteLen) ∧ (∀ p ∈ t.ryl.opens, p.cmd ≠ some tag) ∧ Keeps [] s t) ∧
  (∀ (x y layer addr : Nat) (ident : List Byte) (f : ShadowSec) (c : Caravan) (s : State), s.takes x c → s.forMe c → s.rylQuiet →
    c.body = .borrowReq ident layer addr 1 → s.is (Hdr.QUIESCE 0x13) = false → s.is RYL.BORROW_SERVE = true → s.ryl.bserves = [] →
    s.drv.discId = none → s.shadowGet ident layer addr = some f → s.rd TIME.STATE ≤ 1 → s.pow.entry = none →
    s.rd RYL.BORROWS_SERVED < 2 ^ 16 - 1 → y < 3 → s.routeUp c.src = some y →
    Completes (.borrowReqReceived x c) s fun t =>
      (Queued t y fun q => q.body = .borrowData f.data ∧ q.dst = c.src ∧ q.param = 0) ∧
      (Queued t y fun q => q.body = .borrowDone 0 ∧ q.dst = c.src) ∧ t.rd RYL.BORROWS_SERVED = s.rd RYL.BORROWS_SERVED + 1 ∧
      LeafSet t Lf.RYL.BORROW_SERVED ∧ Acked s t x c ∧ Keeps ([RYL.CARAVANS_RX, RYL.BORROWS_SERVED] ++ portFields) s t) ∧
  (∀ (x addr layer p : Nat) (data : List Byte) (o : RylOpen) (u : EUnit) (k : Cached) (c : Caravan) (s : State), s.takes x c →
    s.forMe c → c.body = .borrowData data → c.param = 0 → s.openOf c = some o → o.unit = some (addr, layer) → s.ecd.units = [u] →
    u.addr = addr → u.layer = layer → u.direct = false → u.need = 3 → u.level = 4 → s.isDvd = true → s.rd ECD.SHADOW_FROM = 0 →
    s.ryl.bserves = [] → s.mem.owners = [(p, .cache)] → s.mem.sectors = [k] → k.off = p * 0x1000 → k.raw = false →
    k.block ≠ s.discBlock addr layer → p < 1536 → s.mem.parityFaults = 0 → s.rd (Hdr.HOOK 0x0E) = 0 →
    (∀ w ∈ wordsOf (p * 0x1000 + 0x800) 2048, s.synd w = 0) →
    Completes (.borrowDataReceived x c true) s fun t =>
      t.ecd.units = [{ u with need := 2 }] ∧
      (∃ e, t.mem.sectors = [k, e] ∧ e.ns = 1 ∧ e.block = s.discBlock addr layer ∧ e.off = p * 0x1000 + 0x800 ∧ e.len = 2048 ∧
        e.info = infoBit stBorrowed ∧ e.level = 4) ∧
      (∀ a, cellGet t.cells a = if p * 0x1000 + 0x800 ≤ a ∧ a < p * 0x1000 + 0x1000 then (data[12 + (a - (p * 0x1000 + 0x800))]?).getD 0
        else cellGet s.cells a) ∧ Acked s t x c ∧ KeepsRegs [RYL.CARAVANS_RX] s t) ∧
  (∀ (x addr layer mask : Nat) (o : RylOpen) (u : EUnit) (c : Caravan) (s : State), s.takes x c → s.forMe c →
    c.body = .borrowDone mask → s.openOf c = some o → o.unit = some (addr, layer) → s.unitAt addr layer = some u → s.endsHere u →
    u.level = 4 → s.rd ECD.BORROW_PEERS ≤ u.asked.length → s.rd ECD.UNRECOVERED < 2 ^ 16 - 1 → s.is (Hdr.GATED 0x0B) = false →
    Completes (.borrowDoneReceived x c) s fun t => FailedOn s t u ∧ o ∉ t.ryl.opens ∧ Acked s t x c)

/-! ### Audio, the recorder and the trace -/

/-- The audio outputs (R473, R475, R477 to R480, R485): a frame of zeros after a change of format, a frame of a play and one
of the host path whose samples leave as they are, and a play's next sector, which fills the FIFO up to HIGH. The audio
island's other commands (R473, R474, R479, R480, R485): S/PDIF goes on and off at a block boundary, the loss and the return
of MCLK_IN pause and resume a play, and the bits of PLAY_CTL. -/
def Obligations.AudioCommandsComplete : Prop :=
  (∀ (n : Nat) (s : State), s.audUp = true → s.shadow = [] → s.aud.zeros = n + 1 → s.rd AUD.DEEMPH_EN = 0 → s.rd AUD.FORMAT ≠ 2 →
    s.rd AUD.FRAMES < 2 ^ 32 - 1 →
    Completes .audioFrameBoundary s fun t =>
      .audio [0, 0] (if s.is AUD.SPDIF_LIVE then some (0, 0, true, true) else none) ∈ t.sent ∧ t.aud.zeros = n ∧
      t.rd AUD.MUTED = 1 ∧ t.rd AUD.FRAMES = s.rd AUD.FRAMES + 1 ∧ t.aud.fifo = s.aud.fifo ∧ t.aud.pos = s.aud.pos ∧
      Keeps [AUD.MUTED, AUD.FRAMES] s t) ∧
  (∀ (p : Play) (x : AudSec) (r : List AudSec) (s : State), s.audUp = true → s.shadow = [] → s.aud.zeros = 0 →
    s.aud.play = some p → p.how = .range → p.reading = false → p.ending = none → s.rd AUD.STATE = 3 → s.aud.fifo = x :: r →
    0 < s.aud.pos → s.aud.pos < 587 → (∀ f ∈ framesFrom s.aud.fifo s.aud.pos 256, f.fl = false ∧ f.fr = false) →
    s.aud.pauseLvl = none → s.aud.muteLvl = none → s.aud.stopLvl = none → s.aud.upLvl = none → s.aud.inMute = false →
    s.rd AUD.PAUSE = 0 → s.rd AUD.MUTE = 0 → s.rd AUD.DEEMPH_EN = 0 → s.rd AUD.FORMAT ≠ 2 → s.rd AUD.FRAMES < 2 ^ 32 - 1 →
    Completes .audioFrameBoundary s fun t =>
      let wl := s.audWord (x.frame s.aud.pos).l
      let wr := s.audWord (x.frame s.aud.pos).r
      .audio [s.audSlot wl, s.audSlot wr] (if s.is AUD.SPDIF_LIVE then some (wl, wr, false, false) else none) ∈ t.sent ∧
      t.aud.pos = s.aud.pos + 1 ∧ t.aud.fifo = s.aud.fifo ∧ t.aud.play = some p ∧ t.rd AUD.MUTED = 0 ∧
      t.rd AUD.FRAMES = s.rd AUD.FRAMES + 1 ∧ Keeps [AUD.MUTED, AUD.FRAMES] s t) ∧
  (∀ s : State, s.audUp = true → s.shadow = [] → s.aud.zeros = 0 → s.aud.play = none → s.rd AUD.SRC = 1 →
    s.aud.pauseLvl = none → s.aud.muteLvl = none → s.aud.stopLvl = none → s.aud.upLvl = none →
    s.rd AUD.PAUSE = 0 → s.rd AUD.MUTE = 0 → s.rd AUD.DEEMPH_EN = 0 → s.rd AUD.FORMAT ≠ 2 →
    s.rd AUD.RING_PAGES ≤ s.rd MEM.HOST_NOW → s.rd AUD.RING_RPTR ≠ s.rd AUD.RING_WPTR → s.rd AUD.RING_RPTR < 2 ^ 16 →
    s.rd AUD.RING_PAGES ≤ 64 → s.is (Hdr.QUIESCE 0x14) = false → s.mem.parityFaults = 0 →
    (∀ w ∈ wordsOf (s.rd AUD.RING_PAGE * 0x1000 + 4 * s.rd AUD.RING_RPTR) 4, s.synd w = 0) → s.is (Hdr.GATED 0x14) = false →
    s.rd AUD.FRAMES < 2 ^ 32 - 1 →
    Completes .audioFrameBoundary s fun t =>
      let a := s.rd AUD.RING_PAGE * 0x1000 + 4 * s.rd AUD.RING_RPTR
      let b := (List.range 4).map fun i => cellGet s.cells (a + i)
      let wl := s.audWord (ofCode 16 (leAt b 0 2))
      let wr := s.audWord (ofCode 16 (leAt b 2 2))
      .audio [s.audSlot wl, s.audSlot wr] (if s.is AUD.SPDIF_LIVE then some (wl, wr, false, false) else none) ∈ t.sent ∧
      t.rd AUD.RING_RPTR = (s.rd AUD.RING_RPTR + 1) % (s.rd AUD.RING_PAGES * 1024) % 2 ^ 16 ∧ t.rd AUD.PATH = 1 ∧
      t.rd AUD.MUTED = 0 ∧ t.rd AUD.EMPH = s.rd AUD.HC_EMPH % 2 ∧ t.rd AUD.COPY_OK = s.rd AUD.HC_COPY_OK % 2 ∧
      t.rd AUD.FRAMES = s.rd AUD.FRAMES + 1 ∧ (s.aud.hostOn = false → LeafSet t Lf.AUD.HOST_PATH) ∧
      Keeps [AUD.MUTED, AUD.FRAMES, AUD.PATH, AUD.EMPH, AUD.COPY_OK, AUD.RING_RPTR] s t) ∧
  (∀ (p : Play) (x : ReadySec) (s : State), s.aud.play = some p → p.reading = true → p.ending = none → p.skip = false →
    (s.ecd.ready.find? fun y => y.addr == (s.discAddr p.next).1) = some x → s.is (Hdr.QUIESCE 0x14) = false →
    s.pageDown 0x14 = false → s.allocOk = true → s.withheld 0x14 = false → s.freePages ≠ [] → s.rd (Hdr.HOOK 0x14) = 0 →
    s.rd (Hdr.HOOK 0x0E) = 0 → s.rd AUD.STATE = 3 → (∀ y ∈ s.aud.fifo, y.fresh = true) → s.rd AUD.HIGH ≤ s.aud.fifo.length →
    Completes .audioSectorEnter s fun t =>
      t.aud.fifo = s.aud.fifo ++ [{ lba := p.next, data := x.data, c2 := x.c2,
                                    q := if qPasses (qOfSub x.sub) then some (qOfSub x.sub) else none }] ∧
      t.aud.play = some { p with next := p.next + 1, reading := false } ∧ LeafSet t Lf.AUD.FIFO_HIGH ∧ Keeps [] s t) ∧
  (∀ s : State, s.audUp = true → s.rd AUD.SPDIF_EN = 1 → s.rd AUD.SPDIF_LIVE = 0 →
    Completes .spdifBlockBoundary s fun t =>
      .spdifStatus s.channelStatus ∈ t.sent ∧ t.rd AUD.SPDIF_LIVE = 1 ∧ LeafSet t Lf.AUD.SPDIF_ON ∧ Keeps [AUD.SPDIF_LIVE] s t) ∧
  (∀ s : State, s.audUp = true → s.rd AUD.SPDIF_EN = 0 → s.rd AUD.SPDIF_LIVE = 1 →
    Completes .spdifBlockBoundary s fun t =>
      t.rd AUD.SPDIF_LIVE = 0 ∧ LeafSet t Lf.AUD.SPDIF_OFF ∧ Keeps [AUD.SPDIF_LIVE] s t) ∧
  (∀ s : State, s.rd AUD.MCLK_OK = 1 → s.pageDown 0x14 = false → s.aud.play = none →
    Completes .mclkLost s fun t => t.rd AUD.MCLK_OK = 0 ∧ LeafSet t Lf.AUD.MCLK_LOST ∧ Keeps [AUD.MCLK_OK] s t) ∧
  (∀ (p : Play) (s : State), s.rd AUD.MCLK_OK = 1 → s.pageDown 0x14 = false → s.aud.play = some p → p.ending = none →
    s.rd AUD.STATE = 3 →
    Completes .mclkLost s fun t =>
      t.rd AUD.MCLK_OK = 0 ∧ t.rd AUD.STATE = 4 ∧ t.aud.play = some p ∧ t.aud.upLvl = some 0 ∧ LeafSet t Lf.AUD.MCLK_LOST ∧
      LeafSet t Lf.AUD.PLAY_PAUSE ∧ Keeps [AUD.MCLK_OK, AUD.STATE] s t) ∧
  (∀ s : State, s.rd AUD.MCLK_OK = 0 → s.pow.phase = .run → s.rd TIME.STATE ≤ 1 → s.pageDown 0x14 = false → s.rd AUD.PAUSE = 0 →
    s.rd AUD.STATE = 4 →
    Completes .mclkBack s fun t =>
      t.rd AUD.MCLK_OK = 1 ∧ t.rd AUD.STATE = 3 ∧ t.aud.upLvl = some 0 ∧ LeafSet t Lf.AUD.MCLK_BACK ∧
      LeafSet t Lf.AUD.PLAY_RESUME ∧ Keeps [AUD.MCLK_OK, AUD.STATE] s t) ∧
  (∀ (v : Bool) (s : State), s.pageDown 0x14 = false →
    Completes (.audioMuteWrite v) s fun t => t.rd AUD.MUTE = b2n v ∧ Keeps [AUD.MUTE] s t) ∧
  (∀ (v : Bool) (s : State), s.pageDown 0x14 = false →
    Completes (.audioSourceWrite v) s fun t => t.rd AUD.SRC = b2n v ∧ Keeps [AUD.SRC] s t) ∧
  (∀ s : State, s.pageDown 0x14 = false → s.rd AUD.PAUSE = 0 → s.rd AUD.STATE = 3 →
    Completes (.audioPauseWrite true) s fun t =>
      t.rd AUD.PAUSE = 1 ∧ t.rd AUD.STATE = 4 ∧ LeafSet t Lf.AUD.PLAY_PAUSE ∧ Keeps [AUD.PAUSE, AUD.STATE] s t) ∧
  (∀ s : State, s.pageDown 0x14 = false → s.rd AUD.PAUSE = 1 → s.rd AUD.STATE = 4 →
    Completes (.audioPauseWrite false) s fun t =>
      t.rd AUD.PAUSE = 0 ∧ t.rd AUD.STATE = 3 ∧ LeafSet t Lf.AUD.PLAY_RESUME ∧ Keeps [AUD.PAUSE, AUD.STATE] s t)

/-- The event recorder (R495 to R497, R499, R500, R513): a flush takes the ring's records as they stand and its page holds them,
a failed one leaves the store, a host record is staged, the life counters follow the newest page, and a ring record is read. -/
def Obligations.RecorderCommandsComplete : Prop :=
  (∀ s : State, s.pageDown 0x15 = false → s.storeOk = true → s.rd REC.FLUSHING = 0 → s.rd REC.FLUSH = 0 →
    Brings .recFlushGo s fun u =>
      u.rd REC.FLUSH = 1 ∧ u.rd REC.FLUSHING = 1 ∧ u.recd.flushN = s.recd.ring.length ∧ u.recd.flushFlags = 0 ∧
      u.recd.ring = s.recd.ring ∧ Keeps [REC.FLUSH] s u) ∧
  (∀ s : State, s.pageDown 0x15 = false → s.storeOk = true → s.rd REC.FLUSHING = 0 → s.recd.ring ≠ [] →
    Brings .recFlushTimer s fun u =>
      u.rd REC.FLUSHING = 1 ∧ u.recd.flushN = s.recd.ring.length ∧ u.recd.flushFlags = 0 ∧ u.recd.ring = s.recd.ring ∧ Keeps [] s u) ∧
  (∀ s : State, s.pageDown 0x15 = false → s.storeOk = true → s.rd REC.FLUSHING = 0 → s.recd.restored = true →
    Brings .lifeSaveTimer s fun u =>
      u.rd REC.FLUSHING = 1 ∧ u.recd.flushN = s.recd.ring.length ∧ u.recd.flushFlags = 2 ∧ u.recd.ring = s.recd.ring ∧ Keeps [] s u) ∧
  (∀ (e : RingRec) (r : List RingRec) (s : State), s.rd REC.FLUSHING = 1 → s.recd.ring = e :: r → 0 < s.recd.flushN →
    s.recd.eraseTag = none → s.recd.flushGo = false → s.pow.pfFlush = false → s.rd REC.FLUSH = 0 →
    s.rd REC.FLUSHES < 2 ^ 16 - 1 → s.is (Hdr.GATED 0x15) = false →
    Completes (.recFlushDone true) s fun t =>
      { flags := s.recd.flushFlags % 4, pageSeq := s.recd.pageSeq, firstRsn := e.rsn, block := s.recd.active, ok := true,
        recs := (s.recd.ring.take s.recd.flushN).map RingRec.body, opSeconds := s.rd SYS.OP_SECONDS,
        powerCycles := s.rd SYS.POWER_CYCLES, erasedBelow := s.recd.erasedBelow } ∈ t.recStore ∧
      t.recd.pageSeq = s.recd.pageSeq + 1 ∧ t.rd REC.FLUSHES = s.rd REC.FLUSHES + 1 ∧ LeafSet t Lf.REC.FLUSH_DONE ∧
      (bit (s.recd.flushFlags % 4) 0 = true → LeafSet t Lf.REC.POWER_FAIL_FLUSH) ∧ Keeps [REC.FLUSHES] s t) ∧
  (∀ s : State, s.rd REC.FLUSHING = 1 → s.recd.eraseTag = none → s.recd.flushGo = false → s.is (Hdr.GATED 0x15) = false →
    Completes (.recFlushDone false) s fun t => t.recStore = s.recStore ∧ LeafSet t Lf.REC.FLUSH_FAIL ∧ Keeps [] s t) ∧
  (∀ s : State, s.pageDown 0x15 = false → s.rd REC.WRITE = 0 → s.is (Hdr.QUIESCE 0x15) = false → s.recd.ring = [] →
    REC.WRITE.key ∉ s.goWait → s.rd REC.NEXT_RSN < 2 ^ 32 - 1 →
    Brings .recWrite s fun u =>
      u.recd.ring = [{ rsn := s.rd REC.NEXT_RSN, early := !s.recd.restored,
                       body := s.newRec (s.rd REC.WR_CODE) 0xFF 0 (s.rd REC.WR_SEV)
                         ((List.range 3).flatMap (fun k => leBytes 4 (s.rd (REC.WR_DATA.at k))) ++ leBytes 2 (s.rd REC.WR_DATA_3)) }] ∧
      u.rd REC.NEXT_RSN = s.rd REC.NEXT_RSN + 1 ∧ u.rd REC.WRITE = 0 ∧ Keeps [REC.WRITE] s u) ∧
  (∀ (p : RecPage) (s : State), s.pow.phase = .run → s.pow.kind = .por → s.recd.restored = false → s.recd.again = false →
    s.pageDown 0x15 = false → s.storeOk = true → s.newestPage = some p → p.opSeconds < 2 ^ 32 → p.powerCycles < 2 ^ 32 - 1 →
    s.is (Hdr.GATED 0x15) = false →
    Completes .lifeCounterRestore s fun t =>
      t.rd SYS.OP_SECONDS = p.opSeconds ∧ t.rd SYS.POWER_CYCLES = p.powerCycles + 1 ∧ t.rd REC.RESTORED = 1 ∧
      t.recd.erasedBelow = p.erasedBelow ∧ t.recd.pageSeq = p.pageSeq + 1 ∧ t.recd.active = p.block ∧
      LeafSet t Lf.REC.STAGE_RESTORED ∧ Keeps [SYS.OP_SECONDS, SYS.POWER_CYCLES, REC.RESTORED] s t) ∧
  (∀ (port : HostPort) (r : EvRec) (s : State), s.pageDown 0x15 = false → s.ringRec (s.rd REC.RD_RSN) = some r →
    Completes (.rdDataRead port 0) s fun t =>
      .regData port 0x15080 (leAt r.bytes 0 4) ∈ t.sent ∧ (∀ k, k < 8 → t.rd (REC.RD_DATA.at k) = leAt r.bytes (4 * k) 4) ∧
      Keeps ((List.range 8).map REC.RD_DATA.at) s t)

/-- The trace (R501, R503 to R506): a start places its marker and takes WPTR and RPTR to 0, a stop writes out a STOP marker, and a
batch in wrap mode writes its records, each with the next SEQ in the next slot; a failed write stops the trace. -/
def Obligations.TraceCommandsComplete : Prop :=
  (∀ s : State, s.pageDown 0x16 = false → s.rd TRC.RUNNING = 0 → s.rd TRC.RS_VALID = 0 →
    Brings .traceStart s fun u =>
      u.rd TRC.RUN = 1 ∧ u.rd TRC.RUNNING = 1 ∧ u.rd TRC.WPTR = 0 ∧ u.rd TRC.RPTR = 0 ∧ u.rd TRC.STALLED = 0 ∧
      (∃ m, u.trc.queue = [m] ∧ m.src = 15 ∧ m.kind = 0 ∧ m.payload = leBytes 8 s.now) ∧ LeafSet u Lf.TRC.STARTED ∧
      Keeps [TRC.RUN, TRC.RUNNING, TRC.STALLED, TRC.WPTR, TRC.RPTR] s u) ∧
  (∀ s : State, s.pageDown 0x16 = false → s.rd TRC.RUNNING = 1 → s.trc.queue = [] → s.trcDest = true → s.rd TRC.LOC = 0 →
    s.rd TRC.MODE = 1 → s.trc.startTag = none → s.rd TRC.RECORDS < 2 ^ 32 - 1 → s.rd TRC.BUF_LOG2 ≤ 24 →
    Brings .traceStop s fun u =>
      u.rd TRC.RUN = 0 ∧ u.rd TRC.RUNNING = 0 ∧ u.rd TRC.SEQ = (s.rd TRC.SEQ + 1) % 2 ^ 16 ∧
      u.rd TRC.WPTR = (s.rd TRC.WPTR + 1) % 2 ^ s.rd TRC.BUF_LOG2 ∧ u.trc.stopSeq = s.rd TRC.SEQ ∧
      (∃ m : TrcRec, m.src = 15 ∧ m.kind = 1 ∧ m.payload = padTo 8 (leBytes 4 s.trc.droppedRun) ∧
        ∀ o ∈ (s.hostWrite 0 (s.trcBase + 16 * s.rd TRC.WPTR) (m.bytes (s.rd TRC.SEQ) s.trc.resumed) false).sent, o ∈ u.sent) ∧
      LeafSet u Lf.TRC.STOPPED ∧ Keeps [TRC.RUN, TRC.RUNNING, TRC.SEQ, TRC.WPTR, TRC.RECORDS] s u) ∧
  (∀ s : State, s.rd TRC.RUNNING = 1 → s.trc.postLeft = some 0 → s.trc.queue = [] → s.trcDest = true → s.rd TRC.LOC = 0 →
    s.rd TRC.MODE = 1 → s.trc.startTag = none → s.is (Hdr.GATED 0x16) = false →
    Brings .tracePostDone s fun u =>
      u.rd TRC.RUN = 0 ∧ u.rd TRC.RUNNING = 0 ∧ u.rd TRC.SEQ = (s.rd TRC.SEQ + 1) % 2 ^ 16 ∧ LeafSet u Lf.TRC.STOPPED ∧
      Keeps [TRC.RUN, TRC.RUNNING, TRC.SEQ, TRC.WPTR, TRC.RECORDS] s u) ∧
  (∀ s : State, s.rd TRC.RUNNING = 1 → 32 ≤ s.trc.queue.length → s.trcDest = true → s.rd TRC.LOC = 0 → s.rd TRC.MODE = 1 →
    s.rd TRC.BUF_LOG2 ≤ 24 → s.rd TRC.RECORDS + 32 < 2 ^ 32 - 1 →
    Brings (.traceBatchWrite true) s fun u =>
      u.trc.queue = s.trc.queue.drop 32 ∧ u.rd TRC.SEQ = (s.rd TRC.SEQ + 32) % 2 ^ 16 ∧
      u.rd TRC.WPTR = (s.rd TRC.WPTR + 32) % 2 ^ s.rd TRC.BUF_LOG2 ∧ u.rd TRC.RECORDS = s.rd TRC.RECORDS + 32 ∧
      Keeps [TRC.SEQ, TRC.WPTR, TRC.RECORDS] s u) ∧
  (∀ s : State, s.rd TRC.RUNNING = 1 → s.trc.queue ≠ [] → s.trc.queue.length ≤ 32 → s.trcDest = true → s.rd TRC.LOC = 0 →
    s.rd TRC.MODE = 1 → s.rd TRC.BUF_LOG2 ≤ 24 → s.rd TRC.RECORDS + 32 < 2 ^ 32 - 1 →
    Brings (.traceBatchTimeout true) s fun u =>
      u.trc.queue = [] ∧ u.rd TRC.SEQ = (s.rd TRC.SEQ + s.trc.queue.length) % 2 ^ 16 ∧
      u.rd TRC.RECORDS = s.rd TRC.RECORDS + s.trc.queue.length ∧ Keeps [TRC.SEQ, TRC.WPTR, TRC.RECORDS] s u) ∧
  (∀ s : State, s.rd TRC.RUNNING = 1 → s.trc.queue ≠ [] → s.trc.startTag = none → s.is (Hdr.GATED 0x16) = false →
    Brings (.traceBatchTimeout false) s fun u =>
      u.rd TRC.RUN = 0 ∧ u.rd TRC.RUNNING = 0 ∧ u.trc.queue = [] ∧ LeafSet u Lf.TRC.DEST_ERR ∧ LeafSet u Lf.TRC.STOPPED ∧
      Keeps [TRC.RUN, TRC.RUNNING] s u)

/-! ### The machine as a whole -/

/-- A step takes the command at the front of the queue and runs it on the state whose queue is the rest. With no command waiting
one µs passes, which is the model's choice (notes/assumptions/3.md): TIME.NOW counts while REFCLK arrives and the core runs. -/
def Obligations.StepRunsTheFrontCommand : Prop :=
  (∀ (c : Instr) (rest : List Instr) (s : State), s.pending = c :: rest → step s = exec c { s with pending := rest }) ∧
  (∀ s : State, s.pending = [] → s.rd TIME.PC_GO = 0 → ∃ t, step s = .next t ∧ t.pending = [] ∧ t.elapsed = s.elapsed + 1 ∧
    t.now = (if s.pow.refclk = true ∧ (s.pow.phase = .boot ∨ s.pow.phase = .run) then s.now + 1 else s.now) ∧ Keeps [] s t)

/-- No command stops the block: each answers a next state, the one that some state settles to, whatever state it finds. -/
def Obligations.EveryCommandAnswersANextState : Prop :=
  (∀ (c : Instr) (s : State), ∃ u : State, exec c s = .next u.settle) ∧ (∀ s : State, ∃ t, step s = .next t)

/-- After every step, whatever came before it, INTX_STATE says what R63 asks of INTA. -/
def Obligations.IntaFollowsThePinAfterEveryStep : Prop :=
  ∀ s t : State, s.IntxFollowsPin → step s = .next t → t.IntxFollowsPin

/-- After every step the laser is off unless three of its permits hold (R146): REF_OK, POWER_FAIL_N high and the block up. -/
def Obligations.LaserOffWithoutItsPermits : Prop :=
  ∀ s t : State, s.LaserPermitted → step s = .next t → t.LaserPermitted

/-- The machine right after a power-on reset (R83, R85, R89): every register field reads its reset value, TIME.NOW is 0, PWR_EN is
high, nothing waits, runs or is shadowed, and what holds after every step holds. -/
def Obligations.ResetLeavesEveryFieldAtItsResetValue : Prop :=
  (∀ f : Fld, State.reset.rd f = f.reset) ∧ (∀ f : Fld, State.reset.shadowOf f = f.reset) ∧ State.reset.now = 0 ∧
    State.reset.pow.pwrEn = true ∧ State.reset.pow.phase = .held ∧ State.reset.pending = [] ∧ State.reset.sent = [] ∧
    State.reset.que.cmds = [] ∧ State.reset.que.pairs = [] ∧ Memory.wf State.reset ∧ State.reset.IntxFollowsPin ∧
    State.reset.LaserPermitted

/-- Host DMA (R291): a write's requests carry its bytes in order and at consecutive addresses, none longer than Max Payload Size
and none across a 4 KiB boundary; a read's carry no more than Max Read Request Size each and cross none; the function sends no
read while as many are outstanding as it may have; and a request of a tenant slice carries its PASID while PASID Enable is 1. -/
def Obligations.HostDmaKeepsItsLimits : Prop :=
  (∀ (sl addr : Nat) (data : List Byte) (poison : Bool) (s : State), 0 < s.pci.mps →
    ∃ tl : List (Nat × List Byte),
      (s.hostWrite sl addr data poison).sent =
        s.sent ++ tl.map (fun (e : Nat × List Byte) => .memWrite e.1 e.2 poison (s.pasidOf sl)) ∧
      tl.flatMap Prod.snd = data ∧
      (∀ e ∈ tl, 0 < e.2.length ∧ e.2.length ≤ s.pci.mps ∧ e.1 % 0x1000 + e.2.length ≤ 0x1000) ∧
      (∀ pre e post, tl = pre ++ e :: post → e.1 = addr + (pre.flatMap Prod.snd).length)) ∧
  (∀ (max_ addr len : Nat), 0 < max_ →
    (∀ e ∈ cutTlps max_ addr len 0 len, 0 < e.2.2 ∧ e.2.2 ≤ max_ ∧ e.2.1 % 0x1000 + e.2.2 ≤ 0x1000 ∧ e.2.1 = addr + e.1) ∧
    ((cutTlps max_ addr len 0 len).map fun e => e.2.2).sum = len) ∧
  (∀ s : State, s.pci.reads.length ≤ s.readLimit → s.sendReads.pci.reads.length ≤ s.readLimit) ∧
  (∀ s : State, s.readLimit = if s.pci.extTag then 64 else 32) ∧
  (∀ s : State, s.pasidOf 0 = none ∧ (s.rd HPT.PASID_EN = 0 → ∀ sl, s.pasidOf sl = none) ∧
    (s.rd HPT.PASID_EN = 1 → ∀ sl, sl ≠ 0 → s.pasidOf sl = some (s.rd (SLC.PASID.at sl))))

/-- A counter saturates (R55, R56): it takes the sum, or all ones where that is past them, and then its page's SAT is 1. -/
def Obligations.CountersSaturate : Prop :=
  ∀ (f : Fld) (n : Nat) (s : State), logKey f.key = false → s.rd f ≤ f.maxVal →
    (s.add f n).rd f = min (s.rd f + n) f.maxVal ∧
    (0 < n → f.maxVal ≤ s.rd f + n → (s.add f n).rd (Hdr.SAT f.page) = 1) ∧
    (∀ g : Fld, g.key ≠ f.key → logKey g.key = false → (s.add f n).rd g = s.rd g)

/-- When a page is freed, each of its words with an uncleared entry of the uncorrectable table is written with zeros in full
(R271), no other word changes, and the page has no owner any more. -/
def Obligations.FreedPageIsZeroed : Prop :=
  (∀ (p : Nat) (s : State), s.rd (Hdr.HOOK 0x0E) = 0 → p < 1536 →
    (∀ e ∈ s.mem.ueTab, e.word / 512 = p → e.cleared = false →
      (∀ i, i < 8 → cellGet (s.freePage p).cells (8 * e.word + i) = 0) ∧ (s.freePage p).synd e.word = 0) ∧
    (∀ w, (∀ e ∈ s.mem.ueTab, e.word = w → e.cleared = true ∨ w / 512 ≠ p) →
      (∀ i, i < 8 → cellGet (s.freePage p).cells (8 * w + i) = cellGet s.cells (8 * w + i)) ∧ (s.freePage p).synd w = s.synd w) ∧
    (∀ o ∈ (s.freePage p).mem.owners, o.1 ≠ p)) ∧
  (∀ (page : Nat) (s : State), (page, PageUse.cache) ∈ s.mem.owners →
    (∀ c ∈ s.mem.sectors, c.off / 0x1000 = page → s.blockHeld c.ns c.block = false) →
    Brings (.pageFree page) s fun u =>
      u = ({ s with mem := { s.mem with sectors := s.mem.sectors.filter fun c => c.off / 0x1000 ≠ page } }).freePage page)
end

