-- ==== Sys2Proof/Laws/Bytes.lean ====
section
/-! SUPPORT. The laws of byte lists, of the CRC-16, of quotients whose rounding is open, and of the part's own UNIQUE. -/

namespace Sys2Proof.Machine

/-! ### Slices and little-endian bytes -/

/-- A slice inside the first of two lists. -/
theorem slice_left (l m : List Byte) (o n : Nat) (h : o + n ≤ l.length) : slice (l ++ m) o n = slice l o n := by
  unfold slice
  apply List.map_congr_left
  intro i hi
  rw [List.getElem?_append_left (by have := List.mem_range.1 hi; omega)]

/-- A slice inside the second of two lists. -/
theorem slice_right (l m : List Byte) (o n : Nat) : slice (l ++ m) (l.length + o) n = slice m o n := by
  unfold slice
  apply List.map_congr_left
  intro i _
  rw [List.getElem?_append_right (by omega), show l.length + o + i - l.length = o + i by omega]

theorem slice_all (l : List Byte) : slice l 0 l.length = l := by
  apply List.ext_getElem
  · simp [slice]
  · intro i h1 h2
    simp [slice, h2]

theorem length_leBytes (n v : Nat) : (leBytes n v).length = n := by
  induction n generalizing v with
  | zero => rfl
  | succ n ih => simp [leBytes, ih]

/-- Little-endian bytes spell the number that they were made of, cut to their width. -/
theorem ofLe_leBytes (n : Nat) : ∀ v, ofLe (leBytes n v) = v % 256 ^ n := by
  induction n with
  | zero => intro v; simp [leBytes, ofLe, Nat.mod_one]
  | succ n ih =>
    intro v
    simp only [leBytes, ofLe, ih, BitVec.toNat_ofNat]
    have e : 256 ^ (n + 1) = 256 * 256 ^ n := Nat.pow_succ'
    rw [e]
    exact (Nat.mod_mul (x := v) (a := 256) (b := 256 ^ n)).symm

/-! ### The CRC-16 -/

theorem crc16Bit_lt (c : Nat) : crc16Bit c < 2 ^ 16 := by
  unfold crc16Bit
  split
  · exact Nat.xor_lt_two_pow (Nat.mod_lt _ (by decide)) (by decide)
  · exact Nat.mod_lt _ (by decide)

theorem crc16Byte_lt (c : Nat) (b : Byte) : crc16Byte c b < 2 ^ 16 := by
  unfold crc16Byte
  rw [show List.range 8 = List.range 7 ++ [7] from rfl, List.foldl_append]
  exact crc16Bit_lt _

theorem crc16_lt (l : List Byte) : crc16 l < 2 ^ 16 := by
  unfold crc16 crc16From
  suffices h : ∀ (l : List Byte) c, c < 2 ^ 16 → l.foldl crc16Byte c < 2 ^ 16 from h l _ (by decide)
  intro l
  induction l with
  | nil => intro c h; exact h
  | cons b r ih => intro c _; exact ih _ (crc16Byte_lt c b)

/-! ### Quotients whose rounding is open -/

/-- The quotient is at most one above the one rounded down. -/
theorem quot_le (p : Nat) (n d : Int) (h : 0 < d) : Config.quot p n d ≤ n / d + 1 := by
  have hf : n.fdiv d = n / d := Int.fdiv_eq_ediv_of_nonneg _ (by omega)
  unfold Config.quot
  simp only [hf]
  split
  · omega
  · split
    · omega
    · split <;> omega

/-- The quotient of a multiple is exact. -/
theorem quot_exact (p : Nat) (n d : Int) (h : 0 < d) : Config.quot p (n * d) d = n := by
  unfold Config.quot
  simp only [Int.mul_emod_left, if_true]
  rw [if_neg (by omega), Int.fdiv_eq_ediv_of_nonneg _ (by omega), Int.mul_ediv_cancel _ (by omega)]

/-! ### UNIQUE -/

/-- The part's UNIQUE has 64 bits. -/
theorem ownUnique_lt : ownUnique < 2 ^ 64 := by
  have h1 := Config.uniqueHi.isLt
  have h2 := Config.uniqueLo.isLt
  unfold ownUnique
  omega

end Sys2Proof.Machine
end

