-- ==== Sys2Proof/Laws/Dispatch.lean ====
section
/-! SUPPORT. The meaning that `exec` calls for each command, one equation each, and how completion is shown from it. -/

namespace Sys2Proof.Machine

/-- A meaning that ends in a next state completes, with what holds of that state. -/
theorem Completes.of {c : Instr} {s u : State} {P : State → Prop} (h : exec c s = done u) (hp : P u.settle) : Completes c s P :=
  ⟨u.settle, h, hp⟩

theorem exec_stageWindowEnd (c0 c1 c2 laps mclk : Nat) (s : State) :
    exec (.stageWindowEnd c0 c1 c2 laps mclk) s = execStageWindowEnd c0 c1 c2 laps mclk s := rfl
theorem exec_refclkStop (s : State) : exec .refclkStop s = execRefclkStop s := rfl
theorem exec_dllLockAcquired (s : State) : exec .dllLockAcquired s = execDllLockAcquired s := rfl
theorem exec_dllUnlock (s : State) : exec .dllUnlock s = execDllUnlock s := rfl
theorem exec_servoUpdate (loop : Loop) (late : Bool) (s : State) :
    exec (.servoUpdate loop late) s = execServoUpdate loop late s := rfl
theorem exec_waterClr (s : State) : exec .waterClr s = execWaterClr s := rfl
theorem exec_waterClrDone (s : State) : exec .waterClrDone s = execWaterClrDone s := rfl
theorem exec_nowLoRead (port : HostPort) (s : State) : exec (.nowLoRead port) s = execNowLoRead port s := rfl
theorem exec_opSecondsTick (s : State) : exec .opSecondsTick s = execOpSecondsTick s := rfl
theorem exec_bar0Write (port : HostPort) (page off be value rid : Nat) (pasid : Option Nat) (s : State) :
    exec (.bar0Write port page off be value rid pasid) s = execBar0Write port page off be value rid pasid s := rfl
theorem exec_chipResetKey (port : HostPort) (value : Nat) (s : State) :
    exec (.chipResetKey port value) s = execChipResetKey port value s := rfl
theorem exec_quiesceWrite (page : Nat) (v : Bool) (s : State) : exec (.quiesceWrite page v) s = execQuiesceWrite page v s := rfl
theorem exec_blockDrained (page : Nat) (s : State) : exec (.blockDrained page) s = execBlockDrained page s := rfl
theorem exec_forcedBlockReset (page : Nat) (s : State) : exec (.forcedBlockReset page) s = execForcedBlockReset page s := rfl
theorem exec_forcedResetEnd (page : Nat) (s : State) : exec (.forcedResetEnd page) s = execForcedResetEnd page s := rfl
theorem exec_blockGate (page : Nat) (s : State) : exec (.blockGate page) s = execBlockGate page s := rfl
theorem exec_blockGated (page : Nat) (s : State) : exec (.blockGated page) s = execBlockGated page s := rfl
theorem exec_blockUngate (page : Nat) (s : State) : exec (.blockUngate page) s = execBlockUngate page s := rfl
theorem exec_ungateDone (page : Nat) (s : State) : exec (.ungateDone page) s = execUngateDone page s := rfl
theorem exec_gateFaultTimeout (page : Nat) (s : State) : exec (.gateFaultTimeout page) s = execGateFaultTimeout page s := rfl
theorem exec_shdHoldWrite (page : Nat) (v : Bool) (s : State) : exec (.shdHoldWrite page v) s = execShdHoldWrite page v s := rfl
theorem exec_internalReplyArrival (page tag reqEpoch repEpoch : Nat) (s : State) :
    exec (.internalReplyArrival page tag reqEpoch repEpoch) s = execInternalReplyArrival page tag reqEpoch repEpoch s := rfl
theorem exec_quarantineExpiry (tag : Nat) (s : State) : exec (.quarantineExpiry tag) s = execQuarantineExpiry tag s := rfl
theorem exec_atnForceWrite (page value : Nat) (s : State) :
    exec (.atnForceWrite page value) s = execAtnForceWrite page value s := rfl
theorem exec_grpPendClear (group value : Nat) (s : State) :
    exec (.grpPendClear group value) s = execGrpPendClear group value s := rfl
theorem exec_routedClear (slice group value : Nat) (s : State) :
    exec (.routedClear slice group value) s = execRoutedClear slice group value s := rfl
theorem exec_atnSliceWrite (port : HostPort) (page be value : Nat) (s : State) :
    exec (.atnSliceWrite port page be value) s = execAtnSliceWrite port page be value s := rfl
theorem exec_pinCtlWrite (port : HostPort) (be value : Nat) (s : State) :
    exec (.pinCtlWrite port be value) s = execPinCtlWrite port be value s := rfl
theorem exec_summaryRead (port : HostPort) (s : State) : exec (.summaryRead port) s = execSummaryRead port s := rfl
theorem exec_powerOnReset (s : State) : exec .powerOnReset s = execPowerOnReset s := rfl
theorem exec_stbyPowerLoss (s : State) : exec .stbyPowerLoss s = execStbyPowerLoss s := rfl
theorem exec_railLow (rail : Nat) (s : State) : exec (.railLow rail) s = execRailLow rail s := rfl
theorem exec_railGood (rail : Nat) (s : State) : exec (.railGood rail) s = execRailGood rail s := rfl
theorem exec_brownout (s : State) : exec .brownout s = execBrownout s := rfl
theorem exec_coreResetRelease (fuseErr : Bool) (s : State) :
    exec (.coreResetRelease fuseErr) s = execCoreResetRelease fuseErr s := rfl
theorem exec_sramZeroFillDone (upsets : List (Nat × Nat)) (s : State) :
    exec (.sramZeroFillDone upsets) s = execSramZeroFillDone upsets s := rfl
theorem exec_engineRelease (ce0 ce1 : NandFind) (s : State) :
    exec (.engineRelease ce0 ce1) s = execEngineRelease ce0 ce1 s := rfl
theorem exec_perstAssert (s : State) : exec .perstAssert s = execPerstAssert s := rfl
theorem exec_perstDeassert (s : State) : exec .perstDeassert s = execPerstDeassert s := rfl
theorem exec_functionLevelReset (s : State) : exec .functionLevelReset s = execFunctionLevelReset s := rfl
theorem exec_hotReset (s : State) : exec .hotReset s = execHotReset s := rfl
theorem exec_functionResetDone (s : State) : exec .functionResetDone s = execFunctionResetDone s := rfl
theorem exec_idleTimerExpiry (target : Nat) (s : State) : exec (.idleTimerExpiry target) s = execIdleTimerExpiry target s := rfl
theorem exec_dozeEntryDone (s : State) : exec .dozeEntryDone s = execDozeEntryDone s := rfl
theorem exec_napEntryDone (s : State) : exec .napEntryDone s = execNapEntryDone s := rfl
theorem exec_standbyEntryCommit (s : State) : exec .standbyEntryCommit s = execStandbyEntryCommit s := rfl
theorem exec_dischargeWaitEnd (s : State) : exec .dischargeWaitEnd s = execDischargeWaitEnd s := rfl
theorem exec_powerCmdGo (s : State) : exec .powerCmdGo s = execPowerCmdGo s := rfl
theorem exec_idleTimerWrite (port : HostPort) (off be value : Nat) (s : State) :
    exec (.idleTimerWrite port off be value) s = execIdleTimerWrite port off be value s := rfl
theorem exec_hwakeEvent (s : State) : exec .hwakeEvent s = execHwakeEvent s := rfl
theorem exec_wakePinEvent (n : Nat) (s : State) : exec (.wakePinEvent n) s = execWakePinEvent n s := rfl
theorem exec_loaderWakeEvent (s : State) : exec .loaderWakeEvent s = execLoaderWakeEvent s := rfl
theorem exec_rylWakeActivity (rport : Nat) (s : State) : exec (.rylWakeActivity rport) s = execRylWakeActivity rport s := rfl
theorem exec_dozeExitDone (s : State) : exec .dozeExitDone s = execDozeExitDone s := rfl
theorem exec_napExitDone (s : State) : exec .napExitDone s = execNapExitDone s := rfl
theorem exec_standbyExitDone (ce0 ce1 : NandFind) (s : State) :
    exec (.standbyExitDone ce0 ce1) s = execStandbyExitDone ce0 ce1 s := rfl
theorem exec_powerFail (s : State) : exec .powerFail s = execPowerFail s := rfl
theorem exec_powerFailFlushDone (s : State) : exec .powerFailFlushDone s = execPowerFailFlushDone s := rfl
theorem exec_powerRestored (s : State) : exec .powerRestored s = execPowerRestored s := rfl
theorem exec_calRunGo (s : State) : exec .calRunGo s = execCalRunGo s := rfl
theorem exec_calRunStart (s : State) : exec .calRunStart s = execCalRunStart s := rfl
theorem exec_calRunStepEnd (m : CalMeas) (s : State) : exec (.calRunStepEnd m) s = execCalRunStepEnd m s := rfl
theorem exec_calRunAbort (s : State) : exec .calRunAbort s = execCalRunAbort s := rfl
theorem exec_calRestoreGo (s : State) : exec .calRestoreGo s = execCalRestoreGo s := rfl
theorem exec_calRestoreStart (s : State) : exec .calRestoreStart s = execCalRestoreStart s := rfl
theorem exec_calRestoreEnd (residuals : List Int) (spanNow stageNow : Nat) (s : State) :
    exec (.calRestoreEnd residuals spanNow stageNow) s = execCalRestoreEnd residuals spanNow stageNow s := rfl
theorem exec_focCloseWrite (port : HostPort) (be value : Nat) (s : State) :
    exec (.focCloseWrite port be value) s = execFocCloseWrite port be value s := rfl
theorem exec_trkCloseWrite (port : HostPort) (be value : Nat) (s : State) :
    exec (.trkCloseWrite port be value) s = execTrkCloseWrite port be value s := rfl
theorem exec_lpcWaveWrite (port : HostPort) (be value : Nat) (s : State) :
    exec (.lpcWaveWrite port be value) s = execLpcWaveWrite port be value s := rfl
theorem exec_focusTrackingSample (w : List Nat) (dpd : Int) (num den : Nat) (cross : Int) (period : Nat) (s : State) :
    exec (.focusTrackingSample w dpd num den cross period) s = execFocusTrackingSample w dpd num den cross period s := rfl
theorem exec_acqSweepExhausted (s : State) : exec .acqSweepExhausted s = execAcqSweepExhausted s := rfl
theorem exec_focusLoss (s : State) : exec .focusLoss s = execFocusLoss s := rfl
theorem exec_trkPullinTimeout (s : State) : exec .trkPullinTimeout s = execTrkPullinTimeout s := rfl
theorem exec_trackingLock (s : State) : exec .trackingLock s = execTrackingLock s := rfl
theorem exec_trackingLoss (s : State) : exec .trackingLoss s = execTrackingLoss s := rfl
theorem exec_duneHoldExit (loop : Loop) (s : State) : exec (.duneHoldExit loop) s = execDuneHoldExit loop s := rfl
theorem exec_duneHoldMax (loop : Loop) (s : State) : exec (.duneHoldMax loop) s = execDuneHoldMax loop s := rfl
theorem exec_ffLearnWrap (s : State) : exec .ffLearnWrap s = execFfLearnWrap s := rfl
theorem exec_layerJumpGo (s : State) : exec .layerJumpGo s = execLayerJumpGo s := rfl
theorem exec_layerJumpKickEnd (s : State) : exec .layerJumpKickEnd s = execLayerJumpKickEnd s := rfl
theorem exec_layerJumpBrakeEnd (s : State) : exec .layerJumpBrakeEnd s = execLayerJumpBrakeEnd s := rfl
theorem exec_layerJumpTimeout (s : State) : exec .layerJumpTimeout s = execLayerJumpTimeout s := rfl
theorem exec_layerJumpSettled (s : State) : exec .layerJumpSettled s = execLayerJumpSettled s := rfl
theorem exec_loopReleaseDone (loop : Loop) (s : State) : exec (.loopReleaseDone loop) s = execLoopReleaseDone loop s := rfl
theorem exec_lpcSample (mon : Nat) (s : State) : exec (.lpcSample mon) s = execLpcSample mon s := rfl
theorem exec_laserMonFail (s : State) : exec .laserMonFail s = execLaserMonFail s := rfl
theorem exec_laserLocked (s : State) : exec .laserLocked s = execLaserLocked s := rfl
theorem exec_laserRampDone (s : State) : exec .laserRampDone s = execLaserRampDone s := rfl
theorem exec_lpcOverUnder (s : State) : exec .lpcOverUnder s = execLpcOverUnder s := rfl
theorem exec_dacFault (loop : Loop) (s : State) : exec (.dacFault loop) s = execDacFault loop s := rfl
theorem exec_driveSatRun (loop : Loop) (s : State) : exec (.driveSatRun loop) s = execDriveSatRun loop s := rfl
theorem exec_ffClear (loop : Loop) (s : State) : exec (.ffClear loop) s = execFfClear loop s := rfl
theorem exec_crossClear (s : State) : exec .crossClear s = execCrossClear s := rfl
theorem exec_refCapture (s : State) : exec .refCapture s = execRefCapture s := rfl
theorem exec_spindleSample (rpm now : Nat) (s : State) : exec (.spindleSample rpm now) s = execSpindleSample rpm now s := rfl
theorem exec_commutationEvent (hall : Nat) (late : Bool) (ripple dead : Nat) (s : State) :
    exec (.commutationEvent hall late ripple dead) s = execCommutationEvent hall late ripple dead s := rfl
theorem exec_spindleAlignDone (s : State) : exec .spindleAlignDone s = execSpindleAlignDone s := rfl
theorem exec_spindleLock (s : State) : exec .spindleLock s = execSpindleLock s := rfl
theorem exec_spnCtlWrite (port : HostPort) (be value : Nat) (s : State) :
    exec (.spnCtlWrite port be value) s = execSpnCtlWrite port be value s := rfl
theorem exec_speedCapWrite (port : HostPort) (be value : Nat) (s : State) :
    exec (.speedCapWrite port be value) s = execSpeedCapWrite port be value s := rfl
theorem exec_zoneTableWrite (port : HostPort) (dvd : Bool) (k be value : Nat) (s : State) :
    exec (.zoneTableWrite port dvd k be value) s = execZoneTableWrite port dvd k be value s := rfl
theorem exec_spindleStopped (s : State) : exec .spindleStopped s = execSpindleStopped s := rfl
theorem exec_spindleFaultPin (s : State) : exec .spindleFaultPin s = execSpindleFaultPin s := rfl
theorem exec_spindleStallTimeout (s : State) : exec .spindleStallTimeout s = execSpindleStallTimeout s := rfl
theorem exec_seekGo (s : State) : exec .seekGo s = execSeekGo s := rfl
theorem exec_seekStart (s : State) : exec .seekStart s = execSeekStart s := rfl
theorem exec_seekCoarseDone (position : Nat) (s : State) :
    exec (.seekCoarseDone position) s = execSeekCoarseDone position s := rfl
theorem exec_seekTimeout (s : State) : exec .seekTimeout s = execSeekTimeout s := rfl
theorem exec_seekAbort (s : State) : exec .seekAbort s = execSeekAbort s := rfl
theorem exec_sledSample (position jumped : Nat) (s : State) :
    exec (.sledSample position jumped) s = execSledSample position jumped s := rfl
theorem exec_homeGo (s : State) : exec .homeGo s = execHomeGo s := rfl
theorem exec_homeReached (s : State) : exec .homeReached s = execHomeReached s := rfl
theorem exec_sledFaultPin (s : State) : exec .sledFaultPin s = execSledFaultPin s := rfl
theorem exec_sledStallTimeout (s : State) : exec .sledStallTimeout s = execSledStallTimeout s := rfl
theorem exec_loaderOpen (s : State) : exec .loaderOpen s = execLoaderOpen s := rfl
theorem exec_loaderClose (s : State) : exec .loaderClose s = execLoaderClose s := rfl
theorem exec_loaderDetect (s : State) : exec .loaderDetect s = execLoaderDetect s := rfl
theorem exec_limitAChange (high : Bool) (s : State) : exec (.limitAChange high) s = execLimitAChange high s := rfl
theorem exec_limitBChange (high : Bool) (s : State) : exec (.limitBChange high) s = execLimitBChange high s := rfl
theorem exec_slotChange (asserted : Bool) (s : State) : exec (.slotChange asserted) s = execSlotChange asserted s := rfl
theorem exec_ejectButton (s : State) : exec .ejectButton s = execEjectButton s := rfl
theorem exec_ejectMotionStart (s : State) : exec .ejectMotionStart s = execEjectMotionStart s := rfl
theorem exec_loadTimeout (s : State) : exec .loadTimeout s = execLoadTimeout s := rfl
theorem exec_bothLimitsFault (s : State) : exec .bothLimitsFault s = execBothLimitsFault s := rfl
theorem exec_loaderFaultPin (s : State) : exec .loaderFaultPin s = execLoaderFaultPin s := rfl
theorem exec_loaderThermalTimeout (s : State) : exec .loaderThermalTimeout s = execLoaderThermalTimeout s := rfl
theorem exec_detectStepDone (r : DetectResult) (s : State) : exec (.detectStepDone r) s = execDetectStepDone r s := rfl
theorem exec_chnBitBlockBoundary (b : BitBlock) (s : State) :
    exec (.chnBitBlockBoundary b) s = execChnBitBlockBoundary b s := rfl
theorem exec_timingLock (errs : List Int) (s : State) : exec (.timingLock errs) s = execTimingLock errs s := rfl
theorem exec_timingLost (errs : List Int) (s : State) : exec (.timingLost errs) s = execTimingLost errs s := rfl
theorem exec_dropoutDeclared (theta : Nat) (s : State) : exec (.dropoutDeclared theta) s = execDropoutDeclared theta s := rfl
theorem exec_dropoutEnd (theta : Nat) (s : State) : exec (.dropoutEnd theta) s = execDropoutEnd theta s := rfl
theorem exec_freewheelTimeout (s : State) : exec .freewheelTimeout s = execFreewheelTimeout s := rfl
theorem exec_blankTimeout (s : State) : exec .blankTimeout s = execBlankTimeout s := rfl
theorem exec_blankEnd (s : State) : exec .blankEnd s = execBlankEnd s := rfl
theorem exec_rfOkChange (ok : Bool) (theta : Nat) (s : State) : exec (.rfOkChange ok theta) s = execRfOkChange ok theta s := rfl
theorem exec_overrate (s : State) : exec .overrate s = execOverrate s := rfl
theorem exec_eqLoad (s : State) : exec .eqLoad s = execEqLoad s := rfl
theorem exec_syncFound (ofs : Int) (id frame : Nat) (s : State) :
    exec (.syncFound ofs id frame) s = execSyncFound ofs id frame s := rfl
theorem exec_syncInsert (s : State) : exec .syncInsert s = execSyncInsert s := rfl
theorem exec_codewordDecode (data margin : Nat) (erased illegal inserted : Bool) (s : State) :
    exec (.codewordDecode data margin erased illegal inserted) s = execCodewordDecode data margin erased illegal inserted s := rfl
theorem exec_subcodeBlock (q : List Byte) (marks : Bool) (s : State) :
    exec (.subcodeBlock q marks) s = execSubcodeBlock q marks s := rfl
theorem exec_dvdIdField (id : Option Nat) (s : State) : exec (.dvdIdField id) s = execDvdIdField id s := rfl
theorem exec_subqRead (port : HostPort) (s : State) : exec (.subqRead port) s = execSubqRead port s := rfl
theorem exec_unitDecodeDone (d : Decode) (s : State) : exec (.unitDecodeDone d) s = execUnitDecodeDone d s := rfl
theorem exec_rereadAttemptDone (d : Decode) (s : State) : exec (.rereadAttemptDone d) s = execRereadAttemptDone d s := rfl
theorem exec_avgAccumulatorGrant (s : State) : exec .avgAccumulatorGrant s = execAvgAccumulatorGrant s := rfl
theorem exec_avgAllocTimeout (s : State) : exec .avgAllocTimeout s = execAvgAllocTimeout s := rfl
theorem exec_avgPassEnd (p : Pass) (s : State) : exec (.avgPassEnd p) s = execAvgPassEnd p s := rfl
theorem exec_avgAbort (s : State) : exec .avgAbort s = execAvgAbort s := rfl
theorem exec_borrowTimeout (addr layer : Nat) (s : State) :
    exec (.borrowTimeout addr layer) s = execBorrowTimeout addr layer s := rfl
theorem exec_ergClear (s : State) : exec .ergClear s = execErgClear s := rfl
theorem exec_ergSave (s : State) : exec .ergSave s = execErgSave s := rfl
theorem exec_ergScan (s : State) : exec .ergScan s = execErgScan s := rfl
theorem exec_ergScanDone (s : State) : exec .ergScanDone s = execErgScanDone s := rfl
theorem exec_segDataRead (port : HostPort) (s : State) : exec (.segDataRead port) s = execSegDataRead port s := rfl
theorem exec_bar4Read (off len : Nat) (hdr : List Nat) (par : Bool) (s : State) :
    exec (.bar4Read off len hdr par) s = execBar4Read off len hdr par s := rfl
theorem exec_bar4Write (off : Nat) (data : List Byte) (en : List Bool) (hdr : List Nat) (par : Bool) (s : State) :
    exec (.bar4Write off data en hdr par) s = execBar4Write off data en hdr par s := rfl
theorem exec_poisonedTlp (p : PoisonTlp) (s : State) : exec (.poisonedTlp p) s = execPoisonedTlp p s := rfl
theorem exec_scrubWord (upsets : List (Nat × Nat)) (par : Bool) (s : State) :
    exec (.scrubWord upsets par) s = execScrubWord upsets par s := rfl
theorem exec_scrubLate (s : State) : exec .scrubLate s = execScrubLate s := rfl
theorem exec_tblClearCe (s : State) : exec .tblClearCe s = execTblClearCe s := rfl
theorem exec_tblClearUe (s : State) : exec .tblClearUe s = execTblClearUe s := rfl
theorem exec_tblDataRead (port : HostPort) (k : Nat) (s : State) : exec (.tblDataRead port k) s = execTblDataRead port k s := rfl
theorem exec_hostPagesWrite (port : HostPort) (be value : Nat) (s : State) :
    exec (.hostPagesWrite port be value) s = execHostPagesWrite port be value s := rfl
theorem exec_hostPagesTakeEffect (s : State) : exec .hostPagesTakeEffect s = execHostPagesTakeEffect s := rfl
theorem exec_pageAllocGrant (s : State) : exec .pageAllocGrant s = execPageAllocGrant s := rfl
theorem exec_pageFree (page : Nat) (s : State) : exec (.pageFree page) s = execPageFree page s := rfl
theorem exec_configRequest (r : CfgReq) (ident : Nat) (s : State) :
    exec (.configRequest r ident) s = execConfigRequest r ident s := rfl
theorem exec_unsupportedRequest (posted : Bool) (hdr : List Nat) (s : State) :
    exec (.unsupportedRequest posted hdr) s = execUnsupportedRequest posted hdr s := rfl
theorem exec_pcieMessage (m : PcieMsg) (hdr : List Nat) (s : State) :
    exec (.pcieMessage m hdr) s = execPcieMessage m hdr s := rfl
theorem exec_dmaReadCompletion (ptag status : Nat) (data : List Byte) (poison : Bool) (s : State) :
    exec (.dmaReadCompletion ptag status data poison) s = execDmaReadCompletion ptag status data poison s := rfl
theorem exec_completionTimeout (ptag : Option Nat) (s : State) :
    exec (.completionTimeout ptag) s = execCompletionTimeout ptag s := rfl
theorem exec_pcieLinkUp (both5 : Bool) (s : State) : exec (.pcieLinkUp both5) s = execPcieLinkUp both5 s := rfl
theorem exec_pcieLinkDown (s : State) : exec .pcieLinkDown s = execPcieLinkDown s := rfl
theorem exec_pcieRetrain (s : State) : exec .pcieRetrain s = execPcieRetrain s := rfl
theorem exec_pcieRetrainDone (up both5 : Bool) (s : State) :
    exec (.pcieRetrainDone up both5) s = execPcieRetrainDone up both5 s := rfl
theorem exec_serialRead (mode3 : Bool) (addr n : Nat) (waits : List Nat) (s : State) :
    exec (.serialRead mode3 addr n waits) s = execSerialRead mode3 addr n waits s := rfl
theorem exec_serialQread (mode3 : Bool) (addr n : Nat) (waits : List Nat) (s : State) :
    exec (.serialQread mode3 addr n waits) s = execSerialQread mode3 addr n waits s := rfl
theorem exec_serialWrite (mode3 : Bool) (addr : Nat) (data : List Byte) (s : State) :
    exec (.serialWrite mode3 addr data) s = execSerialWrite mode3 addr data s := rfl
theorem exec_serialQwrite (mode3 : Bool) (addr : Nat) (data : List Byte) (s : State) :
    exec (.serialQwrite mode3 addr data) s = execSerialQwrite mode3 addr data s := rfl
theorem exec_serialStatus (mode3 : Bool) (s : State) : exec (.serialStatus mode3) s = execSerialStatus mode3 s := rfl
theorem exec_serialBadOpcode (mode3 : Bool) (op : Nat) (s : State) :
    exec (.serialBadOpcode mode3 op) s = execSerialBadOpcode mode3 op s := rfl
theorem exec_serialCsAbort (mode3 quad : Bool) (cut : SerialCut) (s : State) :
    exec (.serialCsAbort mode3 quad cut) s = execSerialCsAbort mode3 quad cut s := rfl
theorem exec_serialWaitLimit (mode3 quad : Bool) (addr : Nat) (s : State) :
    exec (.serialWaitLimit mode3 quad addr) s = execSerialWaitLimit mode3 quad addr s := rfl
theorem exec_serialBufferedApply (s : State) : exec .serialBufferedApply s = execSerialBufferedApply s := rfl
theorem exec_qpCreate (s : State) : exec .qpCreate s = execQpCreate s := rfl
theorem exec_qpDelete (s : State) : exec .qpDelete s = execQpDelete s := rfl
theorem exec_qpDeleteDone (slice qp : Nat) (s : State) : exec (.qpDeleteDone slice qp) s = execQpDeleteDone slice qp s := rfl
theorem exec_qpAbort (s : State) : exec .qpAbort s = execQpAbort s := rfl
theorem exec_qpAbortDone (slice qp : Nat) (s : State) : exec (.qpAbortDone slice qp) s = execQpAbortDone slice qp s := rfl
theorem exec_sqDoorbell (port : HostPort) (slice qp tail rid : Nat) (pasid : Option Nat) (s : State) :
    exec (.sqDoorbell port slice qp tail rid pasid) s = execSqDoorbell port slice qp tail rid pasid s := rfl
theorem exec_cqHeadDoorbell (port : HostPort) (slice qp head rid : Nat) (pasid : Option Nat) (s : State) :
    exec (.cqHeadDoorbell port slice qp head rid pasid) s = execCqHeadDoorbell port slice qp head rid pasid s := rfl
theorem exec_entryFetch (entry : List Byte) (ok : Bool) (s : State) :
    exec (.entryFetch entry ok) s = execEntryFetch entry ok s := rfl
theorem exec_commandDispatch (tag : Nat) (s : State) : exec (.commandDispatch tag) s = execCommandDispatch tag s := rfl
theorem exec_completionWrite (tag : Nat) (ok : Bool) (s : State) :
    exec (.completionWrite tag ok) s = execCompletionWrite tag ok s := rfl
theorem exec_overloadTimer (slice : Nat) (s : State) : exec (.overloadTimer slice) s = execOverloadTimer slice s := rfl
theorem exec_hazardWaitLong (tag : Nat) (s : State) : exec (.hazardWaitLong tag) s = execHazardWaitLong tag s := rfl
theorem exec_fenceWaitLong (tag : Nat) (s : State) : exec (.fenceWaitLong tag) s = execFenceWaitLong tag s := rfl
theorem exec_readahead (sectors : Nat) (s : State) : exec (.readahead sectors) s = execReadahead sectors s := rfl
theorem exec_latClr (s : State) : exec .latClr s = execLatClr s := rfl
theorem exec_testUnitReady (tag : Nat) (s : State) : exec (.testUnitReady tag) s = execTestUnitReady tag s := rfl
theorem exec_requestSense (tag : Nat) (s : State) : exec (.requestSense tag) s = execRequestSense tag s := rfl
theorem exec_inquiry (tag : Nat) (s : State) : exec (.inquiry tag) s = execInquiry tag s := rfl
theorem exec_startStopUnit (tag : Nat) (s : State) : exec (.startStopUnit tag) s = execStartStopUnit tag s := rfl
theorem exec_preventAllowMediumRemoval (tag : Nat) (s : State) :
    exec (.preventAllowMediumRemoval tag) s = execPreventAllowMediumRemoval tag s := rfl
theorem exec_read10 (tag : Nat) (s : State) : exec (.read10 tag) s = execRead10 tag s := rfl
theorem exec_read12 (tag : Nat) (s : State) : exec (.read12 tag) s = execRead12 tag s := rfl
theorem exec_readCd (tag : Nat) (s : State) : exec (.readCd tag) s = execReadCd tag s := rfl
theorem exec_readCdMsf (tag : Nat) (s : State) : exec (.readCdMsf tag) s = execReadCdMsf tag s := rfl
theorem exec_readTocPmaAtip (tag : Nat) (s : State) : exec (.readTocPmaAtip tag) s = execReadTocPmaAtip tag s := rfl
theorem exec_readDiscInformation (tag : Nat) (s : State) :
    exec (.readDiscInformation tag) s = execReadDiscInformation tag s := rfl
theorem exec_readTrackInformation (tag : Nat) (s : State) :
    exec (.readTrackInformation tag) s = execReadTrackInformation tag s := rfl
theorem exec_getConfiguration (tag : Nat) (s : State) : exec (.getConfiguration tag) s = execGetConfiguration tag s := rfl
theorem exec_getEventStatusNotification (tag : Nat) (s : State) :
    exec (.getEventStatusNotification tag) s = execGetEventStatusNotification tag s := rfl
theorem exec_mechanismStatus (tag : Nat) (s : State) : exec (.mechanismStatus tag) s = execMechanismStatus tag s := rfl
theorem exec_setCdSpeed (tag : Nat) (s : State) : exec (.setCdSpeed tag) s = execSetCdSpeed tag s := rfl
theorem exec_modeSense10 (tag : Nat) (s : State) : exec (.modeSense10 tag) s = execModeSense10 tag s := rfl
theorem exec_modeSelect10 (tag : Nat) (s : State) : exec (.modeSelect10 tag) s = execModeSelect10 tag s := rfl
theorem exec_nop (tag : Nat) (s : State) : exec (.nop tag) s = execNop tag s := rfl
theorem exec_identify (tag : Nat) (s : State) : exec (.identify tag) s = execIdentify tag s := rfl
theorem exec_abortAll (tag : Nat) (s : State) : exec (.abortAll tag) s = execAbortAll tag s := rfl
theorem exec_read (tag : Nat) (s : State) : exec (.read tag) s = execRead tag s := rfl
theorem exec_write (tag : Nat) (s : State) : exec (.write tag) s = execWrite tag s := rfl
theorem exec_trim (tag : Nat) (s : State) : exec (.trim tag) s = execTrim tag s := rfl
theorem exec_verify (tag : Nat) (s : State) : exec (.verify tag) s = execVerify tag s := rfl
theorem exec_libFormat (tag : Nat) (bad : List (Nat × Nat)) (s : State) :
    exec (.libFormat tag bad) s = execLibFormat tag bad s := rfl
theorem exec_libMount (tag : Nat) (s : State) : exec (.libMount tag) s = execLibMount tag s := rfl
theorem exec_libUnmount (tag : Nat) (s : State) : exec (.libUnmount tag) s = execLibUnmount tag s := rfl
theorem exec_rip (tag : Nat) (s : State) : exec (.rip tag) s = execRip tag s := rfl
theorem exec_shadowLookup (tag : Nat) (s : State) : exec (.shadowLookup tag) s = execShadowLookup tag s := rfl
theorem exec_shadowPurge (tag : Nat) (s : State) : exec (.shadowPurge tag) s = execShadowPurge tag s := rfl
theorem exec_rylRoster (tag : Nat) (s : State) : exec (.rylRoster tag) s = execRylRoster tag s := rfl
theorem exec_servoTestAcquire (tag : Nat) (s : State) : exec (.servoTestAcquire tag) s = execServoTestAcquire tag s := rfl
theorem exec_servoTestSeek (tag : Nat) (s : State) : exec (.servoTestSeek tag) s = execServoTestSeek tag s := rfl
theorem exec_servoTestRunout (tag : Nat) (s : State) : exec (.servoTestRunout tag) s = execServoTestRunout tag s := rfl
theorem exec_servoTestSweep (tag : Nat) (s : State) : exec (.servoTestSweep tag) s = execServoTestSweep tag s := rfl
theorem exec_calRun (tag : Nat) (s : State) : exec (.calRun tag) s = execCalRun tag s := rfl
theorem exec_calRestore (tag : Nat) (s : State) : exec (.calRestore tag) s = execCalRestore tag s := rfl
theorem exec_calSave (tag : Nat) (s : State) : exec (.calSave tag) s = execCalSave tag s := rfl
theorem exec_recDump (tag : Nat) (s : State) : exec (.recDump tag) s = execRecDump tag s := rfl
theorem exec_recErase (tag : Nat) (s : State) : exec (.recErase tag) s = execRecErase tag s := rfl
theorem exec_traceCtlStart (tag : Nat) (s : State) : exec (.traceCtlStart tag) s = execTraceCtlStart tag s := rfl
theorem exec_traceCtlStop (tag : Nat) (s : State) : exec (.traceCtlStop tag) s = execTraceCtlStop tag s := rfl
theorem exec_traceCtlFilter (tag : Nat) (s : State) : exec (.traceCtlFilter tag) s = execTraceCtlFilter tag s := rfl
theorem exec_audioPlay (tag : Nat) (s : State) : exec (.audioPlay tag) s = execAudioPlay tag s := rfl
theorem exec_audioStop (tag : Nat) (s : State) : exec (.audioStop tag) s = execAudioStop tag s := rfl
theorem exec_cmdStallTimeout (tag : Nat) (s : State) : exec (.cmdStallTimeout tag) s = execCmdStallTimeout tag s := rfl
theorem exec_slcTableCommit (s : State) : exec .slcTableCommit s = execSlcTableCommit s := rfl
theorem exec_sliceReset (s : State) : exec .sliceReset s = execSliceReset s := rfl
theorem exec_sliceResetDone (slice : Nat) (s : State) : exec (.sliceResetDone slice) s = execSliceResetDone slice s := rfl
theorem exec_sliceAbort (s : State) : exec .sliceAbort s = execSliceAbort s := rfl
theorem exec_wadiRefill (s : State) : exec .wadiRefill s = execWadiRefill s := rfl
theorem exec_engineUnitBoundary (engine : Nat) (s : State) :
    exec (.engineUnitBoundary engine) s = execEngineUnitBoundary engine s := rfl
theorem exec_unitWaitLong (engine tag : Nat) (s : State) :
    exec (.unitWaitLong engine tag) s = execUnitWaitLong engine tag s := rfl
theorem exec_shareWindowEnd (s : State) : exec .shareWindowEnd s = execShareWindowEnd s := rfl
theorem exec_nandProgramDone (die block page : Nat) (kind : ProgKind) (ok wp : Bool) (s : State) :
    exec (.nandProgramDone die block page kind ok wp) s = execNandProgramDone die block page kind ok wp s := rfl
theorem exec_nandEraseDone (die block : Nat) (ok wp : Bool) (s : State) :
    exec (.nandEraseDone die block ok wp) s = execNandEraseDone die block ok wp s := rfl
theorem exec_nandReadDone (tag die : Nat) (sectors : List SectorRead) (s : State) :
    exec (.nandReadDone tag die sectors) s = execNandReadDone tag die sectors s := rfl
theorem exec_nandBusyLong (die : Nat) (beyond : Bool) (s : State) :
    exec (.nandBusyLong die beyond) s = execNandBusyLong die beyond s := rfl
theorem exec_mountDone (noSuper fail : Bool) (s : State) : exec (.mountDone noSuper fail) s = execMountDone noSuper fail s := rfl
theorem exec_rawRead (s : State) : exec .rawRead s = execRawRead s := rfl
theorem exec_rawReadRaw (s : State) : exec .rawReadRaw s = execRawReadRaw s := rfl
theorem exec_rawProgram (s : State) : exec .rawProgram s = execRawProgram s := rfl
theorem exec_rawErase (s : State) : exec .rawErase s = execRawErase s := rfl
theorem exec_rawOpDone (r : RawResult) (s : State) : exec (.rawOpDone r) s = execRawOpDone r s := rfl
theorem exec_garbageCollection (die block : Nat) (s : State) :
    exec (.garbageCollection die block) s = execGarbageCollection die block s := rfl
theorem exec_shadowStoreWrite (s : State) : exec .shadowStoreWrite s = execShadowStoreWrite s := rfl
theorem exec_rylLinkUp (rport : Nat) (s : State) : exec (.rylLinkUp rport) s = execRylLinkUp rport s := rfl
theorem exec_rylLinkDown (rport : Nat) (s : State) : exec (.rylLinkDown rport) s = execRylLinkDown rport s := rfl
theorem exec_helloReceived (rport : Nat) (c : Caravan) (s : State) :
    exec (.helloReceived rport c) s = execHelloReceived rport c s := rfl
theorem exec_electReceived (rport : Nat) (c : Caravan) (s : State) :
    exec (.electReceived rport c) s = execElectReceived rport c s := rfl
theorem exec_joinReqReceived (rport : Nat) (c : Caravan) (s : State) :
    exec (.joinReqReceived rport c) s = execJoinReqReceived rport c s := rfl
theorem exec_joinGrantReceived (rport : Nat) (c : Caravan) (s : State) :
    exec (.joinGrantReceived rport c) s = execJoinGrantReceived rport c s := rfl
theorem exec_neighReceived (rport : Nat) (c : Caravan) (s : State) :
    exec (.neighReceived rport c) s = execNeighReceived rport c s := rfl
theorem exec_rosterReceived (rport : Nat) (c : Caravan) (s : State) :
    exec (.rosterReceived rport c) s = execRosterReceived rport c s := rfl
theorem exec_syncReqReceived (rport : Nat) (c : Caravan) (s : State) :
    exec (.syncReqReceived rport c) s = execSyncReqReceived rport c s := rfl
theorem exec_rosterFullReceived (rport : Nat) (c : Caravan) (s : State) :
    exec (.rosterFullReceived rport c) s = execRosterFullReceived rport c s := rfl
theorem exec_nsReqReceived (rport : Nat) (c : Caravan) (s : State) :
    exec (.nsReqReceived rport c) s = execNsReqReceived rport c s := rfl
theorem exec_nsDataReceived (rport : Nat) (c : Caravan) (s : State) :
    exec (.nsDataReceived rport c) s = execNsDataReceived rport c s := rfl
theorem exec_nsDoneReceived (rport : Nat) (c : Caravan) (s : State) :
    exec (.nsDoneReceived rport c) s = execNsDoneReceived rport c s := rfl
theorem exec_progressReceived (rport : Nat) (c : Caravan) (s : State) :
    exec (.progressReceived rport c) s = execProgressReceived rport c s := rfl
theorem exec_borrowReqReceived (rport : Nat) (c : Caravan) (s : State) :
    exec (.borrowReqReceived rport c) s = execBorrowReqReceived rport c s := rfl
theorem exec_borrowDataReceived (rport : Nat) (c : Caravan) (good : Bool) (s : State) :
    exec (.borrowDataReceived rport c good) s = execBorrowDataReceived rport c good s := rfl
theorem exec_borrowDoneReceived (rport : Nat) (c : Caravan) (s : State) :
    exec (.borrowDoneReceived rport c) s = execBorrowDoneReceived rport c s := rfl
theorem exec_reservedCaravanReceived (rport : Nat) (c : Caravan) (s : State) :
    exec (.reservedCaravanReceived rport c) s = execReservedCaravanReceived rport c s := rfl
theorem exec_badCaravan (rport : Nat) (own : Bool) (s : State) :
    exec (.badCaravan rport own) s = execBadCaravan rport own s := rfl
theorem exec_ackReceived (rport lseq : Nat) (s : State) : exec (.ackReceived rport lseq) s = execAckReceived rport lseq s := rfl
theorem exec_nakReceived (rport lseq : Nat) (s : State) : exec (.nakReceived rport lseq) s = execNakReceived rport lseq s := rfl
theorem exec_creditsReceived (rport n : Nat) (s : State) :
    exec (.creditsReceived rport n) s = execCreditsReceived rport n s := rfl
theorem exec_replayTimeout (rport : Nat) (s : State) : exec (.replayTimeout rport) s = execReplayTimeout rport s := rfl
theorem exec_creditStall (rport : Nat) (s : State) : exec (.creditStall rport) s = execCreditStall rport s := rfl
theorem exec_caravanLifetimeExpiry (rport : Nat) (s : State) :
    exec (.caravanLifetimeExpiry rport) s = execCaravanLifetimeExpiry rport s := rfl
theorem exec_elderQuietExpiry (s : State) : exec .elderQuietExpiry s = execElderQuietExpiry s := rfl
theorem exec_heartbeatTimer (s : State) : exec .heartbeatTimer s = execHeartbeatTimer s := rfl
theorem exec_elderLost (s : State) : exec .elderLost s = execElderLost s := rfl
theorem exec_joinRetry (s : State) : exec .joinRetry s = execJoinRetry s := rfl
theorem exec_idReservationExpiry (id : Nat) (s : State) : exec (.idReservationExpiry id) s = execIdReservationExpiry id s := rfl
theorem exec_routeRebuildDone (s : State) : exec .routeRebuildDone s = execRouteRebuildDone s := rfl
theorem exec_exporterProgressTimer (src tag : Nat) (s : State) :
    exec (.exporterProgressTimer src tag) s = execExporterProgressTimer src tag s := rfl
theorem exec_remoteProgressTimeout (tag : Nat) (s : State) :
    exec (.remoteProgressTimeout tag) s = execRemoteProgressTimeout tag s := rfl
theorem exec_portRetrain (rport : Nat) (s : State) : exec (.portRetrain rport) s = execPortRetrain rport s := rfl
theorem exec_portWake (rport : Nat) (s : State) : exec (.portWake rport) s = execPortWake rport s := rfl
theorem exec_audioFrameBoundary (s : State) : exec .audioFrameBoundary s = execAudioFrameBoundary s := rfl
theorem exec_audioSectorEnter (s : State) : exec .audioSectorEnter s = execAudioSectorEnter s := rfl
theorem exec_spdifBlockBoundary (s : State) : exec .spdifBlockBoundary s = execSpdifBlockBoundary s := rfl
theorem exec_mclkLost (s : State) : exec .mclkLost s = execMclkLost s := rfl
theorem exec_mclkBack (s : State) : exec .mclkBack s = execMclkBack s := rfl
theorem exec_audioMuteWrite (v : Bool) (s : State) : exec (.audioMuteWrite v) s = execAudioMuteWrite v s := rfl
theorem exec_audioPauseWrite (v : Bool) (s : State) : exec (.audioPauseWrite v) s = execAudioPauseWrite v s := rfl
theorem exec_audioSourceWrite (v : Bool) (s : State) : exec (.audioSourceWrite v) s = execAudioSourceWrite v s := rfl
theorem exec_recFlushGo (s : State) : exec .recFlushGo s = execRecFlushGo s := rfl
theorem exec_recFlushTimer (s : State) : exec .recFlushTimer s = execRecFlushTimer s := rfl
theorem exec_recFlushDone (ok : Bool) (s : State) : exec (.recFlushDone ok) s = execRecFlushDone ok s := rfl
theorem exec_recWrite (s : State) : exec .recWrite s = execRecWrite s := rfl
theorem exec_lifeSaveTimer (s : State) : exec .lifeSaveTimer s = execLifeSaveTimer s := rfl
theorem exec_lifeCounterRestore (s : State) : exec .lifeCounterRestore s = execLifeCounterRestore s := rfl
theorem exec_rdDataRead (port : HostPort) (k : Nat) (s : State) : exec (.rdDataRead port k) s = execRdDataRead port k s := rfl
theorem exec_traceStart (s : State) : exec .traceStart s = execTraceStart s := rfl
theorem exec_traceStop (s : State) : exec .traceStop s = execTraceStop s := rfl
theorem exec_traceBatchWrite (ok : Bool) (s : State) : exec (.traceBatchWrite ok) s = execTraceBatchWrite ok s := rfl
theorem exec_traceBatchTimeout (ok : Bool) (s : State) : exec (.traceBatchTimeout ok) s = execTraceBatchTimeout ok s := rfl
theorem exec_traceRptrWrite (port : HostPort) (be value : Nat) (s : State) :
    exec (.traceRptrWrite port be value) s = execTraceRptrWrite port be value s := rfl
theorem exec_tracePostDone (s : State) : exec .tracePostDone s = execTracePostDone s := rfl
theorem exec_mirKeyWrite (value : Nat) (s : State) : exec (.mirKeyWrite value) s = execMirKeyWrite value s := rfl
theorem exec_mirLock (s : State) : exec .mirLock s = execMirLock s := rfl
theorem exec_mirAutoLock (s : State) : exec .mirAutoLock s = execMirAutoLock s := rfl
theorem exec_mirHookWrite (port : HostPort) (page be value : Nat) (s : State) :
    exec (.mirHookWrite port page be value) s = execMirHookWrite port page be value s := rfl
theorem exec_mirSlotWrite (port : HostPort) (off be value : Nat) (s : State) :
    exec (.mirSlotWrite port off be value) s = execMirSlotWrite port off be value s := rfl
theorem exec_mirBackpressWindow (page : Nat) (s : State) :
    exec (.mirBackpressWindow page) s = execMirBackpressWindow page s := rfl
theorem exec_testenRise (s : State) : exec .testenRise s = execTestenRise s := rfl
theorem exec_testenFall (s : State) : exec .testenFall s = execTestenFall s := rfl
theorem exec_tapLeaveReset (s : State) : exec .tapLeaveReset s = execTapLeaveReset s := rfl
theorem exec_extest (pins tdi : List Bool) (s : State) : exec (.extest pins tdi) s = execExtest pins tdi s := rfl
theorem exec_samplePreload (pins tdi : List Bool) (s : State) :
    exec (.samplePreload pins tdi) s = execSamplePreload pins tdi s := rfl
theorem exec_idcode (tdi : List Bool) (s : State) : exec (.idcode tdi) s = execIdcode tdi s := rfl
theorem exec_clamp (tdi : List Bool) (s : State) : exec (.clamp tdi) s = execClamp tdi s := rfl
theorem exec_highz (tdi : List Bool) (s : State) : exec (.highz tdi) s = execHighz tdi s := rfl
theorem exec_bypass (code : Nat) (tdi : List Bool) (s : State) : exec (.bypass code tdi) s = execBypass code tdi s := rfl
theorem exec_freewheelRelock (errs : List Int) (s : State) : exec (.freewheelRelock errs) s = execFreewheelRelock errs s := rfl
theorem exec_codeError (rport : Nat) (s : State) : exec (.codeError rport) s = execCodeError rport s := rfl
theorem exec_receiverErr (e : RxErr) (msg : Option Nat) (s : State) :
    exec (.receiverErr e msg) s = execReceiverErr e msg s := rfl
theorem exec_pcieReplayTimeout (rollover : Bool) (msg : Option Nat) (s : State) :
    exec (.pcieReplayTimeout rollover msg) s = execPcieReplayTimeout rollover msg s := rfl
theorem exec_engineBacklog (engine : Nat) (s : State) : exec (.engineBacklog engine) s = execEngineBacklog engine s := rfl
theorem exec_tapReset (s : State) : exec .tapReset s = execTapReset s := rfl

end Sys2Proof.Machine
end

