-- ==== Sys2Proof/Laws/Fields.lean ====
section
/-! SUPPORT. The laws of the register store: what a field reads after a write of the same field and of another one. -/

namespace Sys2Proof.Machine

/-! ### Stores -/

theorem storeGet_erase_self (l : List (Nat × Nat)) (k : Nat) : storeGet (storeErase l k) k = none := by
  induction l with
  | nil => rfl
  | cons e r ih =>
    obtain ⟨a, b⟩ := e
    unfold storeErase
    split
    · exact ih
    · simp_all [storeGet]

theorem storeGet_erase_ne (l : List (Nat × Nat)) {k j : Nat} (h : j ≠ k) : storeGet (storeErase l k) j = storeGet l j := by
  induction l with
  | nil => rfl
  | cons e r ih =>
    obtain ⟨a, b⟩ := e
    unfold storeErase
    split
    · subst a
      simp [storeGet, ih, Ne.symm h]
    · simp [storeGet, ih]

theorem storeGet_insert_self (l : List (Nat × Nat)) (k v : Nat) : storeGet (storeInsert l k v) k = some v := by
  induction l with
  | nil => simp [storeInsert, storeGet]
  | cons e r ih =>
    obtain ⟨a, b⟩ := e
    unfold storeInsert
    split
    · simp [storeGet]
    · split
      · simp [storeGet]
      · simp_all [storeGet]

theorem storeGet_insert_ne (l : List (Nat × Nat)) {k j : Nat} (v : Nat) (h : j ≠ k) :
    storeGet (storeInsert l k v) j = storeGet l j := by
  induction l with
  | nil => simp [storeInsert, storeGet, Ne.symm h]
  | cons e r ih =>
    obtain ⟨a, b⟩ := e
    unfold storeInsert
    split
    · simp [storeGet, Ne.symm h]
    · split
      · subst a
        simp [storeGet, Ne.symm h]
      · simp [storeGet, ih]

theorem storeGet_set_self (l : List (Nat × Nat)) (k d v : Nat) : (storeGet (storeSet l k d v) k).getD d = v := by
  unfold storeSet
  split
  · next h => simp [storeGet_erase_self, h]
  · simp [storeGet_insert_self]

theorem storeGet_set_ne (l : List (Nat × Nat)) {k j : Nat} (d v : Nat) (h : j ≠ k) :
    storeGet (storeSet l k d v) j = storeGet l j := by
  unfold storeSet
  split
  · exact storeGet_erase_ne l h
  · exact storeGet_insert_ne l v h

/-! ### Fields -/

/-- A field reads what was last written to it, cut to its width. -/
theorem rd_wr_self (s : State) (f : Fld) (v : Nat) : (s.wr f v).rd f = v % 2 ^ f.width := by
  simp [State.rd, State.wr, storeGet_set_self]

/-- A write of a field at another place leaves a field as it was. -/
theorem rd_wr_ne (s : State) {f g : Fld} (v : Nat) (h : f.key ≠ g.key) : (s.wr g v).rd f = s.rd f := by
  simp [State.rd, State.wr, storeGet_set_ne _ _ _ h]

theorem is_wr_self (s : State) (f : Fld) (v : Nat) : (s.wr f v).is f = (v % 2 ^ f.width == 1) := by
  simp [State.is, rd_wr_self]

theorem is_wr_ne (s : State) {f g : Fld} (v : Nat) (h : f.key ≠ g.key) : (s.wr g v).is f = s.is f := by
  simp [State.is, rd_wr_ne s v h]

theorem get_wr_ne (s : State) (g : Fld) (v : Nat) {k : Nat} (h : k ≠ g.key) :
    storeGet (s.wr g v).regs k = storeGet s.regs k := storeGet_set_ne _ _ _ h

@[simp] theorem wrAll_nil (s : State) : s.wrAll [] = s := rfl
@[simp] theorem wrAll_cons (s : State) (p : Fld × Nat) (l : List (Fld × Nat)) : s.wrAll (p :: l) = (s.wr p.1 p.2).wrAll l := rfl

end Sys2Proof.Machine
end

