-- ==== Sys2Proof/Laws/State.lean ====
section
/-! SUPPORT. What the named updates of the state leave as it is: one lemma for each field of the state and each update. -/

namespace Sys2Proof.Machine

/-! ### A field written -/

@[simp] theorem wr_pending (s : State) (f : Fld) (v : Nat) : (s.wr f v).pending = s.pending := rfl
@[simp] theorem wr_shadow (s : State) (f : Fld) (v : Nat) : (s.wr f v).shadow = s.shadow := rfl
@[simp] theorem wr_goWait (s : State) (f : Fld) (v : Nat) : (s.wr f v).goWait = s.goWait := rfl
@[simp] theorem wr_now (s : State) (f : Fld) (v : Nat) : (s.wr f v).now = s.now := rfl
@[simp] theorem wr_elapsed (s : State) (f : Fld) (v : Nat) : (s.wr f v).elapsed = s.elapsed := rfl
@[simp] theorem wr_fresh (s : State) (f : Fld) (v : Nat) : (s.wr f v).fresh = s.fresh := rfl
@[simp] theorem wr_sent (s : State) (f : Fld) (v : Nat) : (s.wr f v).sent = s.sent := rfl
@[simp] theorem wr_pow (s : State) (f : Fld) (v : Nat) : (s.wr f v).pow = s.pow := rfl
@[simp] theorem wr_openTags (s : State) (f : Fld) (v : Nat) : (s.wr f v).openTags = s.openTags := rfl
@[simp] theorem wr_quarantine (s : State) (f : Fld) (v : Nat) : (s.wr f v).quarantine = s.quarantine := rfl
@[simp] theorem wr_recd (s : State) (f : Fld) (v : Nat) : (s.wr f v).recd = s.recd := rfl
@[simp] theorem wr_recStore (s : State) (f : Fld) (v : Nat) : (s.wr f v).recStore = s.recStore := rfl
@[simp] theorem wr_trc (s : State) (f : Fld) (v : Nat) : (s.wr f v).trc = s.trc := rfl
@[simp] theorem wr_pci (s : State) (f : Fld) (v : Nat) : (s.wr f v).pci = s.pci := rfl
@[simp] theorem wr_loopResult (s : State) (f : Fld) (v : Nat) : (s.wr f v).loopResult = s.loopResult := rfl
@[simp] theorem wr_loopOut (s : State) (f : Fld) (v : Nat) : (s.wr f v).loopOut = s.loopOut := rfl
@[simp] theorem wr_cal (s : State) (f : Fld) (v : Nat) : (s.wr f v).cal = s.cal := rfl
@[simp] theorem wr_calKept (s : State) (f : Fld) (v : Nat) : (s.wr f v).calKept = s.calKept := rfl
@[simp] theorem wr_que (s : State) (f : Fld) (v : Nat) : (s.wr f v).que = s.que := rfl
@[simp] theorem wr_mem (s : State) (f : Fld) (v : Nat) : (s.wr f v).mem = s.mem := rfl
@[simp] theorem wr_cells (s : State) (f : Fld) (v : Nat) : (s.wr f v).cells = s.cells := rfl
@[simp] theorem wr_ecc (s : State) (f : Fld) (v : Nat) : (s.wr f v).ecc = s.ecc := rfl
@[simp] theorem wr_mir (s : State) (f : Fld) (v : Nat) : (s.wr f v).mir = s.mir := rfl
@[simp] theorem wr_erg (s : State) (f : Fld) (v : Nat) : (s.wr f v).erg = s.erg := rfl
@[simp] theorem wr_opt (s : State) (f : Fld) (v : Nat) : (s.wr f v).opt = s.opt := rfl
@[simp] theorem wr_drv (s : State) (f : Fld) (v : Nat) : (s.wr f v).drv = s.drv := rfl
@[simp] theorem wr_maps (s : State) (f : Fld) (v : Nat) : (s.wr f v).maps = s.maps := rfl
@[simp] theorem wr_nand (s : State) (f : Fld) (v : Nat) : (s.wr f v).nand = s.nand := rfl
@[simp] theorem wr_lib (s : State) (f : Fld) (v : Nat) : (s.wr f v).lib = s.lib := rfl
@[simp] theorem wr_ecd (s : State) (f : Fld) (v : Nat) : (s.wr f v).ecd = s.ecd := rfl
@[simp] theorem wr_avg (s : State) (f : Fld) (v : Nat) : (s.wr f v).avg = s.avg := rfl
@[simp] theorem wr_chn (s : State) (f : Fld) (v : Nat) : (s.wr f v).chn = s.chn := rfl
@[simp] theorem wr_ryl (s : State) (f : Fld) (v : Nat) : (s.wr f v).ryl = s.ryl := rfl
@[simp] theorem wr_aud (s : State) (f : Fld) (v : Nat) : (s.wr f v).aud = s.aud := rfl
@[simp] theorem wr_tap (s : State) (f : Fld) (v : Nat) : (s.wr f v).tap = s.tap := rfl

/-! ### A message sent -/

@[simp] theorem emit_pending (s : State) (m : OutMsg) : (s.emit m).pending = s.pending := rfl
@[simp] theorem emit_regs (s : State) (m : OutMsg) : (s.emit m).regs = s.regs := rfl
@[simp] theorem emit_shadow (s : State) (m : OutMsg) : (s.emit m).shadow = s.shadow := rfl
@[simp] theorem emit_goWait (s : State) (m : OutMsg) : (s.emit m).goWait = s.goWait := rfl
@[simp] theorem emit_now (s : State) (m : OutMsg) : (s.emit m).now = s.now := rfl
@[simp] theorem emit_elapsed (s : State) (m : OutMsg) : (s.emit m).elapsed = s.elapsed := rfl
@[simp] theorem emit_fresh (s : State) (m : OutMsg) : (s.emit m).fresh = s.fresh := rfl
@[simp] theorem emit_pow (s : State) (m : OutMsg) : (s.emit m).pow = s.pow := rfl
@[simp] theorem emit_openTags (s : State) (m : OutMsg) : (s.emit m).openTags = s.openTags := rfl
@[simp] theorem emit_quarantine (s : State) (m : OutMsg) : (s.emit m).quarantine = s.quarantine := rfl
@[simp] theorem emit_recd (s : State) (m : OutMsg) : (s.emit m).recd = s.recd := rfl
@[simp] theorem emit_recStore (s : State) (m : OutMsg) : (s.emit m).recStore = s.recStore := rfl
@[simp] theorem emit_trc (s : State) (m : OutMsg) : (s.emit m).trc = s.trc := rfl
@[simp] theorem emit_pci (s : State) (m : OutMsg) : (s.emit m).pci = s.pci := rfl
@[simp] theorem emit_loopResult (s : State) (m : OutMsg) : (s.emit m).loopResult = s.loopResult := rfl
@[simp] theorem emit_loopOut (s : State) (m : OutMsg) : (s.emit m).loopOut = s.loopOut := rfl
@[simp] theorem emit_cal (s : State) (m : OutMsg) : (s.emit m).cal = s.cal := rfl
@[simp] theorem emit_calKept (s : State) (m : OutMsg) : (s.emit m).calKept = s.calKept := rfl
@[simp] theorem emit_que (s : State) (m : OutMsg) : (s.emit m).que = s.que := rfl
@[simp] theorem emit_mem (s : State) (m : OutMsg) : (s.emit m).mem = s.mem := rfl
@[simp] theorem emit_cells (s : State) (m : OutMsg) : (s.emit m).cells = s.cells := rfl
@[simp] theorem emit_ecc (s : State) (m : OutMsg) : (s.emit m).ecc = s.ecc := rfl
@[simp] theorem emit_mir (s : State) (m : OutMsg) : (s.emit m).mir = s.mir := rfl
@[simp] theorem emit_erg (s : State) (m : OutMsg) : (s.emit m).erg = s.erg := rfl
@[simp] theorem emit_opt (s : State) (m : OutMsg) : (s.emit m).opt = s.opt := rfl
@[simp] theorem emit_drv (s : State) (m : OutMsg) : (s.emit m).drv = s.drv := rfl
@[simp] theorem emit_maps (s : State) (m : OutMsg) : (s.emit m).maps = s.maps := rfl
@[simp] theorem emit_nand (s : State) (m : OutMsg) : (s.emit m).nand = s.nand := rfl
@[simp] theorem emit_lib (s : State) (m : OutMsg) : (s.emit m).lib = s.lib := rfl
@[simp] theorem emit_ecd (s : State) (m : OutMsg) : (s.emit m).ecd = s.ecd := rfl
@[simp] theorem emit_avg (s : State) (m : OutMsg) : (s.emit m).avg = s.avg := rfl
@[simp] theorem emit_chn (s : State) (m : OutMsg) : (s.emit m).chn = s.chn := rfl
@[simp] theorem emit_ryl (s : State) (m : OutMsg) : (s.emit m).ryl = s.ryl := rfl
@[simp] theorem emit_aud (s : State) (m : OutMsg) : (s.emit m).aud = s.aud := rfl
@[simp] theorem emit_tap (s : State) (m : OutMsg) : (s.emit m).tap = s.tap := rfl

@[simp] theorem emit_sent (s : State) (m : OutMsg) : (s.emit m).sent = s.sent ++ [m] := rfl

/-! ### A shadow written -/

@[simp] theorem setShadow_pending (s : State) (f : Fld) (v : Nat) : (s.setShadow f v).pending = s.pending := rfl
@[simp] theorem setShadow_regs (s : State) (f : Fld) (v : Nat) : (s.setShadow f v).regs = s.regs := rfl
@[simp] theorem setShadow_goWait (s : State) (f : Fld) (v : Nat) : (s.setShadow f v).goWait = s.goWait := rfl
@[simp] theorem setShadow_now (s : State) (f : Fld) (v : Nat) : (s.setShadow f v).now = s.now := rfl
@[simp] theorem setShadow_elapsed (s : State) (f : Fld) (v : Nat) : (s.setShadow f v).elapsed = s.elapsed := rfl
@[simp] theorem setShadow_fresh (s : State) (f : Fld) (v : Nat) : (s.setShadow f v).fresh = s.fresh := rfl
@[simp] theorem setShadow_sent (s : State) (f : Fld) (v : Nat) : (s.setShadow f v).sent = s.sent := rfl
@[simp] theorem setShadow_pow (s : State) (f : Fld) (v : Nat) : (s.setShadow f v).pow = s.pow := rfl
@[simp] theorem setShadow_openTags (s : State) (f : Fld) (v : Nat) : (s.setShadow f v).openTags = s.openTags := rfl
@[simp] theorem setShadow_quarantine (s : State) (f : Fld) (v : Nat) : (s.setShadow f v).quarantine = s.quarantine := rfl
@[simp] theorem setShadow_recd (s : State) (f : Fld) (v : Nat) : (s.setShadow f v).recd = s.recd := rfl
@[simp] theorem setShadow_recStore (s : State) (f : Fld) (v : Nat) : (s.setShadow f v).recStore = s.recStore := rfl
@[simp] theorem setShadow_trc (s : State) (f : Fld) (v : Nat) : (s.setShadow f v).trc = s.trc := rfl
@[simp] theorem setShadow_pci (s : State) (f : Fld) (v : Nat) : (s.setShadow f v).pci = s.pci := rfl
@[simp] theorem setShadow_loopResult (s : State) (f : Fld) (v : Nat) : (s.setShadow f v).loopResult = s.loopResult := rfl
@[simp] theorem setShadow_loopOut (s : State) (f : Fld) (v : Nat) : (s.setShadow f v).loopOut = s.loopOut := rfl
@[simp] theorem setShadow_cal (s : State) (f : Fld) (v : Nat) : (s.setShadow f v).cal = s.cal := rfl
@[simp] theorem setShadow_calKept (s : State) (f : Fld) (v : Nat) : (s.setShadow f v).calKept = s.calKept := rfl
@[simp] theorem setShadow_que (s : State) (f : Fld) (v : Nat) : (s.setShadow f v).que = s.que := rfl
@[simp] theorem setShadow_mem (s : State) (f : Fld) (v : Nat) : (s.setShadow f v).mem = s.mem := rfl
@[simp] theorem setShadow_cells (s : State) (f : Fld) (v : Nat) : (s.setShadow f v).cells = s.cells := rfl
@[simp] theorem setShadow_ecc (s : State) (f : Fld) (v : Nat) : (s.setShadow f v).ecc = s.ecc := rfl
@[simp] theorem setShadow_mir (s : State) (f : Fld) (v : Nat) : (s.setShadow f v).mir = s.mir := rfl
@[simp] theorem setShadow_erg (s : State) (f : Fld) (v : Nat) : (s.setShadow f v).erg = s.erg := rfl
@[simp] theorem setShadow_opt (s : State) (f : Fld) (v : Nat) : (s.setShadow f v).opt = s.opt := rfl
@[simp] theorem setShadow_drv (s : State) (f : Fld) (v : Nat) : (s.setShadow f v).drv = s.drv := rfl
@[simp] theorem setShadow_maps (s : State) (f : Fld) (v : Nat) : (s.setShadow f v).maps = s.maps := rfl
@[simp] theorem setShadow_nand (s : State) (f : Fld) (v : Nat) : (s.setShadow f v).nand = s.nand := rfl
@[simp] theorem setShadow_lib (s : State) (f : Fld) (v : Nat) : (s.setShadow f v).lib = s.lib := rfl
@[simp] theorem setShadow_ecd (s : State) (f : Fld) (v : Nat) : (s.setShadow f v).ecd = s.ecd := rfl
@[simp] theorem setShadow_avg (s : State) (f : Fld) (v : Nat) : (s.setShadow f v).avg = s.avg := rfl
@[simp] theorem setShadow_chn (s : State) (f : Fld) (v : Nat) : (s.setShadow f v).chn = s.chn := rfl
@[simp] theorem setShadow_ryl (s : State) (f : Fld) (v : Nat) : (s.setShadow f v).ryl = s.ryl := rfl
@[simp] theorem setShadow_aud (s : State) (f : Fld) (v : Nat) : (s.setShadow f v).aud = s.aud := rfl
@[simp] theorem setShadow_tap (s : State) (f : Fld) (v : Nat) : (s.setShadow f v).tap = s.tap := rfl

/-! ### Several fields written -/

@[simp] theorem wrAll_pending (s : State) (l : List (Fld × Nat)) : (s.wrAll l).pending = s.pending := by
  induction l generalizing s with
  | nil => rfl
  | cons p l ih => simp [ih]
@[simp] theorem wrAll_shadow (s : State) (l : List (Fld × Nat)) : (s.wrAll l).shadow = s.shadow := by
  induction l generalizing s with
  | nil => rfl
  | cons p l ih => simp [ih]
@[simp] theorem wrAll_goWait (s : State) (l : List (Fld × Nat)) : (s.wrAll l).goWait = s.goWait := by
  induction l generalizing s with
  | nil => rfl
  | cons p l ih => simp [ih]
@[simp] theorem wrAll_now (s : State) (l : List (Fld × Nat)) : (s.wrAll l).now = s.now := by
  induction l generalizing s with
  | nil => rfl
  | cons p l ih => simp [ih]
@[simp] theorem wrAll_elapsed (s : State) (l : List (Fld × Nat)) : (s.wrAll l).elapsed = s.elapsed := by
  induction l generalizing s with
  | nil => rfl
  | cons p l ih => simp [ih]
@[simp] theorem wrAll_fresh (s : State) (l : List (Fld × Nat)) : (s.wrAll l).fresh = s.fresh := by
  induction l generalizing s with
  | nil => rfl
  | cons p l ih => simp [ih]
@[simp] theorem wrAll_sent (s : State) (l : List (Fld × Nat)) : (s.wrAll l).sent = s.sent := by
  induction l generalizing s with
  | nil => rfl
  | cons p l ih => simp [ih]
@[simp] theorem wrAll_pow (s : State) (l : List (Fld × Nat)) : (s.wrAll l).pow = s.pow := by
  induction l generalizing s with
  | nil => rfl
  | cons p l ih => simp [ih]
@[simp] theorem wrAll_openTags (s : State) (l : List (Fld × Nat)) : (s.wrAll l).openTags = s.openTags := by
  induction l generalizing s with
  | nil => rfl
  | cons p l ih => simp [ih]
@[simp] theorem wrAll_quarantine (s : State) (l : List (Fld × Nat)) : (s.wrAll l).quarantine = s.quarantine := by
  induction l generalizing s with
  | nil => rfl
  | cons p l ih => simp [ih]
@[simp] theorem wrAll_recd (s : State) (l : List (Fld × Nat)) : (s.wrAll l).recd = s.recd := by
  induction l generalizing s with
  | nil => rfl
  | cons p l ih => simp [ih]
@[simp] theorem wrAll_recStore (s : State) (l : List (Fld × Nat)) : (s.wrAll l).recStore = s.recStore := by
  induction l generalizing s with
  | nil => rfl
  | cons p l ih => simp [ih]
@[simp] theorem wrAll_trc (s : State) (l : List (Fld × Nat)) : (s.wrAll l).trc = s.trc := by
  induction l generalizing s with
  | nil => rfl
  | cons p l ih => simp [ih]
@[simp] theorem wrAll_pci (s : State) (l : List (Fld × Nat)) : (s.wrAll l).pci = s.pci := by
  induction l generalizing s with
  | nil => rfl
  | cons p l ih => simp [ih]
@[simp] theorem wrAll_loopResult (s : State) (l : List (Fld × Nat)) : (s.wrAll l).loopResult = s.loopResult := by
  induction l generalizing s with
  | nil => rfl
  | cons p l ih => simp [ih]
@[simp] theorem wrAll_loopOut (s : State) (l : List (Fld × Nat)) : (s.wrAll l).loopOut = s.loopOut := by
  induction l generalizing s with
  | nil => rfl
  | cons p l ih => simp [ih]
@[simp] theorem wrAll_cal (s : State) (l : List (Fld × Nat)) : (s.wrAll l).cal = s.cal := by
  induction l generalizing s with
  | nil => rfl
  | cons p l ih => simp [ih]
@[simp] theorem wrAll_calKept (s : State) (l : List (Fld × Nat)) : (s.wrAll l).calKept = s.calKept := by
  induction l generalizing s with
  | nil => rfl
  | cons p l ih => simp [ih]
@[simp] theorem wrAll_que (s : State) (l : List (Fld × Nat)) : (s.wrAll l).que = s.que := by
  induction l generalizing s with
  | nil => rfl
  | cons p l ih => simp [ih]
@[simp] theorem wrAll_mem (s : State) (l : List (Fld × Nat)) : (s.wrAll l).mem = s.mem := by
  induction l generalizing s with
  | nil => rfl
  | cons p l ih => simp [ih]
@[simp] theorem wrAll_cells (s : State) (l : List (Fld × Nat)) : (s.wrAll l).cells = s.cells := by
  induction l generalizing s with
  | nil => rfl
  | cons p l ih => simp [ih]
@[simp] theorem wrAll_ecc (s : State) (l : List (Fld × Nat)) : (s.wrAll l).ecc = s.ecc := by
  induction l generalizing s with
  | nil => rfl
  | cons p l ih => simp [ih]
@[simp] theorem wrAll_mir (s : State) (l : List (Fld × Nat)) : (s.wrAll l).mir = s.mir := by
  induction l generalizing s with
  | nil => rfl
  | cons p l ih => simp [ih]
@[simp] theorem wrAll_erg (s : State) (l : List (Fld × Nat)) : (s.wrAll l).erg = s.erg := by
  induction l generalizing s with
  | nil => rfl
  | cons p l ih => simp [ih]
@[simp] theorem wrAll_opt (s : State) (l : List (Fld × Nat)) : (s.wrAll l).opt = s.opt := by
  induction l generalizing s with
  | nil => rfl
  | cons p l ih => simp [ih]
@[simp] theorem wrAll_drv (s : State) (l : List (Fld × Nat)) : (s.wrAll l).drv = s.drv := by
  induction l generalizing s with
  | nil => rfl
  | cons p l ih => simp [ih]
@[simp] theorem wrAll_maps (s : State) (l : List (Fld × Nat)) : (s.wrAll l).maps = s.maps := by
  induction l generalizing s with
  | nil => rfl
  | cons p l ih => simp [ih]
@[simp] theorem wrAll_nand (s : State) (l : List (Fld × Nat)) : (s.wrAll l).nand = s.nand := by
  induction l generalizing s with
  | nil => rfl
  | cons p l ih => simp [ih]
@[simp] theorem wrAll_lib (s : State) (l : List (Fld × Nat)) : (s.wrAll l).lib = s.lib := by
  induction l generalizing s with
  | nil => rfl
  | cons p l ih => simp [ih]
@[simp] theorem wrAll_ecd (s : State) (l : List (Fld × Nat)) : (s.wrAll l).ecd = s.ecd := by
  induction l generalizing s with
  | nil => rfl
  | cons p l ih => simp [ih]
@[simp] theorem wrAll_avg (s : State) (l : List (Fld × Nat)) : (s.wrAll l).avg = s.avg := by
  induction l generalizing s with
  | nil => rfl
  | cons p l ih => simp [ih]
@[simp] theorem wrAll_chn (s : State) (l : List (Fld × Nat)) : (s.wrAll l).chn = s.chn := by
  induction l generalizing s with
  | nil => rfl
  | cons p l ih => simp [ih]
@[simp] theorem wrAll_ryl (s : State) (l : List (Fld × Nat)) : (s.wrAll l).ryl = s.ryl := by
  induction l generalizing s with
  | nil => rfl
  | cons p l ih => simp [ih]
@[simp] theorem wrAll_aud (s : State) (l : List (Fld × Nat)) : (s.wrAll l).aud = s.aud := by
  induction l generalizing s with
  | nil => rfl
  | cons p l ih => simp [ih]
@[simp] theorem wrAll_tap (s : State) (l : List (Fld × Nat)) : (s.wrAll l).tap = s.tap := by
  induction l generalizing s with
  | nil => rfl
  | cons p l ih => simp [ih]

/-! ### Reading fields of a state whose register store an update leaves -/

/-- A field's value depends on the register store alone. -/
theorem rd_regs {s t : State} (h : t.regs = s.regs) (f : Fld) : t.rd f = s.rd f := by simp [State.rd, h]

@[simp] theorem emit_rd (s : State) (m : OutMsg) (f : Fld) : (s.emit m).rd f = s.rd f := rfl
@[simp] theorem setShadow_rd (s : State) (g : Fld) (v : Nat) (f : Fld) : (s.setShadow g v).rd f = s.rd f := rfl

end Sys2Proof.Machine
end

