-- ==== Sys2Proof/Laws/Frames.lean ====
section
/-! SUPPORT. What setting a leaf, counting and recording an event can change, said once: the register fields of `logKey`,
the recorder's ring and the trace's trigger. -/

namespace Sys2Proof.Machine

/-! ### Bits -/

theorem bit_eq_testBit (v i : Nat) : bit v i = v.testBit i := by
  rw [Bool.eq_iff_iff]; simp [bit, Nat.testBit_eq_decide_div_mod_eq]

theorem bit_or (a b i : Nat) : bit (a ||| b) i = (bit a i || bit b i) := by
  simp [bit_eq_testBit]

theorem bit_two_pow_self (i : Nat) : bit (2 ^ i) i = true := by
  simp [bit_eq_testBit]

theorem bit_mod_two_pow {v i w : Nat} (h : i < w) : bit (v % 2 ^ w) i = bit v i := by
  simp [bit_eq_testBit, Nat.testBit_mod_two_pow, h]

/-! ### The keys that logging writes -/

theorem logKey_sat (p : Nat) : logKey (Hdr.SAT p).key = true := by
  have h1 : (Hdr.SAT p).key / 32 % 4096 = 12 := by simp [Hdr.SAT, Fld.key]; omega
  have h2 : (Hdr.SAT p).key % 32 = 16 := by simp [Hdr.SAT, Fld.key]
  simp [logKey, h1, h2]

theorem logKey_cause (p : Nat) : logKey (Hdr.CAUSE p).key = true := by
  have h1 : (Hdr.CAUSE p).key / 32 % 4096 = 16 := by simp [Hdr.CAUSE, Fld.key]
  simp [logKey, h1]

/-- What a run of leaf sets, counts and records leaves: every other key and every other part of the state; a CAUSE bit that
is set stays set. -/
structure LogFrame (s t : State) : Prop where
  keys : ∀ k, logKey k = false → storeGet t.regs k = storeGet s.regs k
  cause : ∀ p i, i < 32 → bit (s.rd (Hdr.CAUSE p)) i = true → bit (t.rd (Hdr.CAUSE p)) i = true
  rest : t = { s with
    regs := t.regs
    recd := { s.recd with ring := t.recd.ring, flushN := t.recd.flushN, flushFlags := t.recd.flushFlags,
                          lostSet := t.recd.lostSet, lostSlot := t.recd.lostSlot, lostRun := t.recd.lostRun }
    trc := { s.trc with trigHit := t.trc.trigHit } }

theorem LogFrame.refl (s : State) : LogFrame s s := ⟨fun _ _ => rfl, fun _ _ _ h => h, rfl⟩

theorem LogFrame.trans {s t u : State} (a : LogFrame s t) (b : LogFrame t u) : LogFrame s u := by
  refine ⟨fun k h => (b.keys k h).trans (a.keys k h), fun p i l h => b.cause p i l (a.cause p i l h), ?_⟩
  have hb := b.rest
  rw [a.rest] at hb
  exact hb

theorem LogFrame.rd {s t : State} (h : LogFrame s t) {f : Fld} (hf : logKey f.key = false) : t.rd f = s.rd f := by
  simp [State.rd, h.keys _ hf]

/-- CAUSE bits survive a write of another field, and a write that only adds bits. -/
theorem cause_wr_ne {s : State} {g : Fld} {v : Nat} (h : ∀ p, (Hdr.CAUSE p).key ≠ g.key) (p i : Nat)
    (hb : bit (s.rd (Hdr.CAUSE p)) i = true) : bit ((s.wr g v).rd (Hdr.CAUSE p)) i = true := by
  rwa [rd_wr_ne s v (h p)]

theorem logFrame_wr (s : State) (g : Fld) (v : Nat) (hg : logKey g.key = true) (hc : g.key / 32 % 4096 ≠ 16) :
    LogFrame s (s.wr g v) := by
  refine ⟨fun k h => ?_, fun p i _ hb => ?_, rfl⟩
  · exact get_wr_ne s g v (fun e => by simp [e, hg] at h)
  · refine cause_wr_ne (fun q e => hc ?_) p i hb
    rw [← e]; simp [Hdr.CAUSE, Fld.key]

theorem rd_lt_of_wr (s : State) (f : Fld) (v : Nat) : (s.wr f v).rd f < 2 ^ f.width := by
  rw [rd_wr_self]; exact Nat.mod_lt _ (Nat.two_pow_pos _)

theorem cause_key_inj {p q : Nat} (h : (Hdr.CAUSE p).key = (Hdr.CAUSE q).key) : p = q := by
  simp [Hdr.CAUSE, Fld.key] at h; omega

/-- Bits added to CAUSE leave the others set. -/
theorem logFrame_orCause (s : State) (p m : Nat) :
    LogFrame s (s.wr (Hdr.CAUSE p) (s.rd (Hdr.CAUSE p) ||| m)) := by
  refine ⟨fun k hk => get_wr_ne s _ _ (fun e => by simp [e, logKey_cause] at hk), fun q i h hb => ?_, rfl⟩
  by_cases e : q = p
  · subst e
    rw [rd_wr_self]
    have : (Hdr.CAUSE q).width = 32 := rfl
    rw [this, bit_mod_two_pow h, bit_or, hb]; rfl
  · rwa [rd_wr_ne s _ (fun k => e (cause_key_inj k))]

/-! ### Setting a leaf without its record -/

theorem noteFirst_frame (s : State) (l : Leaf) : LogFrame s (s.noteFirst l) := by
  unfold State.noteFirst
  split
  · exact .refl s
  · split
    · exact .refl s
    · simp only [wrAll_cons, wrAll_nil]
      exact (((((logFrame_wr _ _ _ (by decide) (by decide)).trans (logFrame_wr _ _ _ (by decide) (by decide))).trans
        (logFrame_wr _ _ _ (by decide) (by decide))).trans (logFrame_wr _ _ _ (by decide) (by decide))).trans
        (logFrame_wr _ _ _ (by decide) (by decide)))

theorem setCause_frame (s : State) (l : Leaf) : LogFrame s (s.setCause l) := by
  have h : LogFrame s (s.wr (Hdr.CAUSE l.page) (s.rd (Hdr.CAUSE l.page) ||| 2 ^ l.bit)) := logFrame_orCause s _ _
  simp only [State.setCause]
  split
  · exact h.trans (noteFirst_frame _ _)
  · exact h

theorem trig_frame (s : State) (b : Bool) : LogFrame s { s with trc := { s.trc with trigHit := b } } :=
  ⟨fun _ _ => rfl, fun _ _ _ h => h, rfl⟩

theorem setQuiet_frame (s : State) (l : Leaf) : LogFrame s (s.setQuiet l) := by
  simp only [State.setQuiet]
  split
  · exact .refl s
  · split
    · exact (setCause_frame s l).trans (trig_frame _ _)
    · exact setCause_frame s l

/-! ### Counting -/

/-- What a count can change: its field, and what the counter-saturated leaf can. -/
structure CountFrame (f : Fld) (s t : State) : Prop where
  keys : ∀ k, k ≠ f.key → logKey k = false → storeGet t.regs k = storeGet s.regs k
  cause : ∀ p i, i < 32 → (Hdr.CAUSE p).key ≠ f.key → bit (s.rd (Hdr.CAUSE p)) i = true → bit (t.rd (Hdr.CAUSE p)) i = true
  rest : t = { s with
    regs := t.regs
    recd := { s.recd with ring := t.recd.ring, flushN := t.recd.flushN, flushFlags := t.recd.flushFlags,
                          lostSet := t.recd.lostSet, lostSlot := t.recd.lostSlot, lostRun := t.recd.lostRun }
    trc := { s.trc with trigHit := t.trc.trigHit } }

theorem LogFrame.count {s t : State} (h : LogFrame s t) (f : Fld) : CountFrame f s t :=
  ⟨fun k _ => h.keys k, fun p i l _ => h.cause p i l, h.rest⟩

theorem CountFrame.trans {f : Fld} {s t u : State} (a : CountFrame f s t) (b : CountFrame f t u) : CountFrame f s u := by
  refine ⟨fun k n h => (b.keys k n h).trans (a.keys k n h), fun p i l n h => b.cause p i l n (a.cause p i l n h), ?_⟩
  have hb := b.rest
  rw [a.rest] at hb
  exact hb

theorem countFrame_wr (s : State) (f : Fld) (v : Nat) : CountFrame f s (s.wr f v) :=
  ⟨fun _ n _ => get_wr_ne s f v n, fun p i _ n h => by rwa [rd_wr_ne s v n], rfl⟩

theorem addWith_frame {set : State → Leaf → State} (hset : ∀ s l, LogFrame s (set s l)) (s : State) (f : Fld) (n : Nat) :
    CountFrame f s (State.addWith set s f n) := by
  unfold State.addWith
  split
  · exact (LogFrame.refl s).count f
  · split
    · exact ((countFrame_wr s f _).trans ((logFrame_wr _ _ _ (logKey_sat _) (by simp [Hdr.SAT, Fld.key]; omega)).count f)).trans
        ((hset _ _).count f)
    · exact countFrame_wr s f _

/-- A count of a field that logging owns. -/
theorem CountFrame.log {f : Fld} {s t : State} (h : CountFrame f s t) (hk : logKey f.key = true)
    (hc : f.key / 32 % 4096 ≠ 16) : LogFrame s t := by
  refine ⟨fun k l => h.keys k (fun e => by simp [e, hk] at l) l, fun p i l => h.cause p i l (fun e => hc ?_), h.rest⟩
  rw [← e]; simp [Hdr.CAUSE, Fld.key]

theorem addQuiet_frame (s : State) {f : Fld} (n : Nat) (hk : logKey f.key = true) (hc : f.key / 32 % 4096 ≠ 16) :
    LogFrame s (s.addQuiet f n) := (addWith_frame setQuiet_frame s f n).log hk hc

/-! ### Records -/

theorem recd_frame (s : State) (a : List RingRec) (b c : Nat) (d e : Bool) (f : Nat) :
    LogFrame s { s with recd := { s.recd with ring := a, flushN := b, flushFlags := c, lostSet := d, lostSlot := e, lostRun := f } } :=
  ⟨fun _ _ => rfl, fun _ _ _ h => h, rfl⟩

theorem noteWatch_frame (s : State) (code : Nat) : LogFrame s (s.noteWatch code) := by
  unfold State.noteWatch
  generalize s.watchHits code = l
  induction l generalizing s with
  | nil => exact .refl s
  | cons a l ih => exact (setQuiet_frame s _).trans (ih _)

theorem startFlush_frame (s : State) (flags : Nat) : LogFrame s (s.startFlush flags) := by
  simp only [State.startFlush]
  split
  · exact .refl s
  · exact (recd_frame s _ _ _ _ _ _).trans (logFrame_wr _ _ _ (by decide) (by decide))

theorem flushWhenFull_frame (s : State) : LogFrame s s.flushWhenFull := by
  unfold State.flushWhenFull
  split
  · exact startFlush_frame s 0
  · exact .refl s

theorem noteFill_frame (s : State) (n : Nat) : LogFrame s (s.noteFill n) := by
  simp only [State.noteFill]
  repeat' split
  all_goals first
    | exact (setQuiet_frame _ _).trans (setQuiet_frame _ _)
    | exact setQuiet_frame _ _
    | exact .refl _

theorem noteLost_frame (s : State) : LogFrame s s.noteLost := by
  unfold State.noteLost
  split
  · exact .refl s
  · exact (recd_frame s _ _ _ _ _ _).trans (setQuiet_frame _ _)

theorem pushRec_frame (s : State) (r : EvRec) : LogFrame s (s.pushRec r) := by
  simp only [State.pushRec]
  exact (((((recd_frame s _ _ _ _ _ _).trans (addQuiet_frame _ 1 (by decide) (by decide))).trans (setQuiet_frame _ _)).trans
    (noteFill_frame _ _)).trans (noteWatch_frame _ _)).trans (flushWhenFull_frame _)

theorem dropRec_frame (s : State) : LogFrame s s.dropRec := by
  have h : LogFrame s (s.addQuiet REC.LOST 1).noteLost := (addQuiet_frame s 1 (by decide) (by decide)).trans (noteLost_frame _)
  simp only [State.dropRec]
  generalize (s.addQuiet REC.LOST 1).noteLost = u at h ⊢
  repeat' split
  all_goals first
    | exact h.trans (recd_frame _ _ _ _ _ _ _)
    | exact (h.trans (recd_frame _ _ _ _ _ _ _)).trans (pushRec_frame _ _)

theorem addRepeat_frame (s : State) : LogFrame s s.addRepeat := by
  simp only [State.addRepeat]
  split
  · exact .refl s
  · split
    · exact (((recd_frame s _ _ _ _ _ _).trans (addQuiet_frame _ 1 (by decide) (by decide))).trans (setQuiet_frame _ _)).trans
        (noteWatch_frame _ _)
    · exact ((recd_frame s _ _ _ _ _ _).trans (addQuiet_frame _ 1 (by decide) (by decide))).trans (noteWatch_frame _ _)

theorem stage_frame (s : State) (code page slice sev : Nat) (data : List Byte) :
    LogFrame s (s.stage code page slice sev data) := by
  simp only [State.stage]
  repeat' split
  · exact .refl s
  · exact addQuiet_frame s 1 (by decide) (by decide)
  · exact addRepeat_frame s
  · exact dropRec_frame s
  · exact pushRec_frame s _
  · exact (((recd_frame s _ _ _ _ _ _).trans (addQuiet_frame _ 1 (by decide) (by decide))).trans (noteLost_frame _)).trans
      (pushRec_frame _ _)
  · exact pushRec_frame s _

/-- Setting a leaf changes only what logging can. -/
theorem setLeaf_frame (s : State) (l : Leaf) : LogFrame s (s.setLeaf l) := by
  simp only [State.setLeaf]
  repeat' split
  all_goals first
    | exact .refl s
    | exact (setQuiet_frame s l).trans (stage_frame _ _ _ _ _ _)
    | exact setQuiet_frame s l

theorem setLeaves_frame (s : State) (l : List Leaf) : LogFrame s (s.setLeaves l) := by
  unfold State.setLeaves
  generalize sortBy Leaf.code l = m
  induction m generalizing s with
  | nil => exact .refl s
  | cons a m ih => exact (setLeaf_frame s a).trans (ih _)

theorem leafIf_frame (s : State) (c : Bool) (l : Leaf) : LogFrame s (s.leafIf c l) := by
  unfold State.leafIf
  split
  · exact setLeaf_frame s l
  · exact .refl s

theorem event_frame (s : State) (en : Bool) (code page slice sev : Nat) (data : List Byte) :
    LogFrame s (s.event en code page slice sev data) := by
  unfold State.event
  split
  · exact stage_frame _ _ _ _ _ _
  · exact .refl s

/-- Counting changes the counter and what logging can. -/
theorem add_frame (s : State) (f : Fld) (n : Nat) : CountFrame f s (s.add f n) := addWith_frame setLeaf_frame s f n

/-! ### What these leave, as equations -/

theorem setLeaf_rd (s : State) (l : Leaf) {f : Fld} (h : logKey f.key = false) : (s.setLeaf l).rd f = s.rd f :=
  (setLeaf_frame s l).rd h

theorem setLeaf_is (s : State) (l : Leaf) {f : Fld} (h : logKey f.key = false) : (s.setLeaf l).is f = s.is f := by
  simp [State.is, setLeaf_rd s l h]

theorem CountFrame.rd {g : Fld} {s t : State} (h : CountFrame g s t) {f : Fld} (hn : f.key ≠ g.key) (hf : logKey f.key = false) :
    t.rd f = s.rd f := by simp [State.rd, h.keys _ hn hf]

theorem add_rd_ne (s : State) {g : Fld} (n : Nat) {f : Fld} (hn : f.key ≠ g.key) (hf : logKey f.key = false) :
    (s.add g n).rd f = s.rd f := (add_frame s g n).rd hn hf

/-- A counter outside the log counts and saturates (R55). -/
theorem add_rd_self (s : State) {f : Fld} (n : Nat) (hf : logKey f.key = false) (hs : s.rd f ≤ f.maxVal) :
    (s.add f n).rd f = min f.maxVal (s.rd f + n) := by
  have hm : f.maxVal < 2 ^ f.width := by have := Nat.two_pow_pos f.width; unfold Fld.maxVal; omega
  simp only [State.add, State.addWith]
  split
  · subst n; omega
  · split
    · rw [setLeaf_rd _ _ hf, rd_wr_ne _ _ (fun e => by have := logKey_sat f.page; rw [← e, hf] at this; cases this), rd_wr_self,
        Nat.mod_eq_of_lt hm]
      omega
    · rw [rd_wr_self, Nat.mod_eq_of_lt (by omega)]
      omega

end Sys2Proof.Machine
end

