-- ==== Sys2Proof/Laws/Settle.lean ====
section
/-! SUPPORT. What `State.settle`, which follows every command, can change, said once: the register fields of `settleKey`, and
parts of the optics, the spindle, the channel, the idle timer, the recorder's ring, the trace's queue and what was sent. -/

namespace Sys2Proof.Machine

/-- What settle leaves. -/
structure SettleFrame (s t : State) : Prop where
  keys : ∀ k, settleKey k = false → storeGet t.regs k = storeGet s.regs k
  cause : ∀ p i, i < 32 → bit (s.rd (Hdr.CAUSE p)) i = true → bit (t.rd (Hdr.CAUSE p)) i = true
  sent : ∀ m ∈ s.sent, m ∈ t.sent
  rest : t = { s with
    regs := t.regs, goWait := t.goWait, fresh := t.fresh, sent := t.sent, loopResult := t.loopResult, loopOut := t.loopOut
    pow := { s.pow with timer := t.pow.timer, timerStart := t.pow.timerStart }
    recd := { s.recd with ring := t.recd.ring, flushN := t.recd.flushN, flushFlags := t.recd.flushFlags,
                          lostSet := t.recd.lostSet, lostSlot := t.recd.lostSlot, lostRun := t.recd.lostRun,
                          noNandSet := t.recd.noNandSet }
    trc := { s.trc with trigHit := t.trc.trigHit, postLeft := t.trc.postLeft, queue := t.trc.queue }
    opt := { s.opt with foc := t.opt.foc, trk := t.opt.trk, jump := t.opt.jump, target := t.opt.target, integ := t.opt.integ,
                        okRun := t.opt.okRun, limRun := t.opt.limRun, overRun := t.opt.overRun, underRun := t.opt.underRun }
    drv := { s.drv with spinAt := t.drv.spinAt, spinUp := t.drv.spinUp, slowSet := t.drv.slowSet, integ := t.drv.integ,
                        target := t.drv.target }
    chn := { s.chn with errs := t.chn.errs, through := t.chn.through, snrSince := t.chn.snrSince, snrSet := t.chn.snrSet,
                        syncs := t.chn.syncs, period := t.chn.period, phase := t.chn.phase } }

theorem SettleFrame.refl (s : State) : SettleFrame s s := ⟨fun _ _ => rfl, fun _ _ _ h => h, fun _ h => h, rfl⟩

theorem SettleFrame.trans {s t u : State} (a : SettleFrame s t) (b : SettleFrame t u) : SettleFrame s u := by
  refine ⟨fun k h => (b.keys k h).trans (a.keys k h), fun p i l h => b.cause p i l (a.cause p i l h),
    fun m h => b.sent m (a.sent m h), ?_⟩
  have hb := b.rest
  rw [a.rest] at hb
  exact hb

theorem settleKey_log {k : Nat} (h : settleKey k = false) : logKey k = false := by
  simp only [settleKey, Bool.or_eq_false_iff] at h; exact h.1

theorem LogFrame.settle {s t : State} (h : LogFrame s t) : SettleFrame s t := by
  refine ⟨fun k hk => h.keys k (settleKey_log hk), h.cause, fun m x => ?_, ?_⟩
  · rw [h.rest]; exact x
  · have := h.rest
    rw [this]

theorem CountFrame.settle {s t : State} {f : Fld} (h : CountFrame f s t) (hk : settleKey f.key = true)
    (hc : f.key / 32 % 4096 ≠ 16) : SettleFrame s t := by
  refine ⟨fun k l => h.keys k (fun e => by simp [e, hk] at l) (settleKey_log l), fun p i l => h.cause p i l (fun e => hc ?_),
    fun m x => ?_, ?_⟩
  · rw [← e]; simp [Hdr.CAUSE, Fld.key]
  · rw [h.rest]; exact x
  · have := h.rest
    rw [this]

theorem settleFrame_wr (s : State) (g : Fld) (v : Nat) (hg : settleKey g.key = true) (hc : g.key / 32 % 4096 ≠ 16) :
    SettleFrame s (s.wr g v) := (countFrame_wr s g v).settle hg hc

theorem settleFrame_wrAll (s : State) (l : List (Fld × Nat)) (h : ∀ p ∈ l, settleKey p.1.key = true ∧ p.1.key / 32 % 4096 ≠ 16) :
    SettleFrame s (s.wrAll l) := by
  induction l generalizing s with
  | nil => exact .refl s
  | cons p l ih =>
    exact (settleFrame_wr s p.1 p.2 (h p (by simp)).1 (h p (by simp)).2).trans (ih _ fun q m => h q (by simp [m]))

/-! ### One more change on top of others -/

theorem SettleFrame.wr {s t : State} (a : SettleFrame s t) (g : Fld) (v : Nat) (hg : settleKey g.key = true)
    (hc : g.key / 32 % 4096 ≠ 16) : SettleFrame s (t.wr g v) := a.trans (settleFrame_wr t g v hg hc)

theorem SettleFrame.leaf {s t : State} (a : SettleFrame s t) (l : Leaf) : SettleFrame s (t.setLeaf l) :=
  a.trans (setLeaf_frame t l).settle

theorem SettleFrame.opt {s t : State} (a : SettleFrame s t) (foc trk : LoopSt) (jump) (target integ okRun limRun overRun underRun)
    (r : List Int) :
    SettleFrame s { t with loopResult := r, opt := { t.opt with foc := foc, trk := trk, jump := jump, target := target, integ := integ, okRun := okRun, limRun := limRun, overRun := overRun, underRun := underRun } } :=
  a.trans ⟨fun _ _ => rfl, fun _ _ _ h => h, fun _ h => h, rfl⟩

theorem SettleFrame.outs {s t : State} (a : SettleFrame s t) (r o : List Int) :
    SettleFrame s { t with loopResult := r, loopOut := o } := a.trans ⟨fun _ _ => rfl, fun _ _ _ h => h, fun _ h => h, rfl⟩

theorem SettleFrame.goWait {s t : State} (a : SettleFrame s t) (w : List Nat) : SettleFrame s { t with goWait := w } :=
  a.trans ⟨fun _ _ => rfl, fun _ _ _ h => h, fun _ h => h, rfl⟩

theorem SettleFrame.chn {s t : State} (a : SettleFrame s t) (errs : List Int) (through) (snrSince) (snrSet) (syncs) (period phase : Int) :
    SettleFrame s { t with chn := { t.chn with errs := errs, through := through, snrSince := snrSince, snrSet := snrSet, syncs := syncs, period := period, phase := phase } } := a.trans ⟨fun _ _ => rfl, fun _ _ _ h => h, fun _ h => h, rfl⟩

theorem SettleFrame.drv {s t : State} (a : SettleFrame s t) (spinAt) (spinUp slowSet) (integ) (target) :
    SettleFrame s { t with drv := { t.drv with spinAt := spinAt, spinUp := spinUp, slowSet := slowSet, integ := integ, target := target } } :=
  a.trans ⟨fun _ _ => rfl, fun _ _ _ h => h, fun _ h => h, rfl⟩

theorem SettleFrame.trc {s t : State} (a : SettleFrame s t) (h : Bool) (p : Option Nat) (q : List TrcRec) (n : Nat) :
    SettleFrame s { t with fresh := n, trc := { t.trc with trigHit := h, postLeft := p, queue := q } } :=
  a.trans ⟨fun _ _ => rfl, fun _ _ _ h => h, fun _ h => h, rfl⟩

theorem SettleFrame.noNand {s t : State} (a : SettleFrame s t) (b : Bool) :
    SettleFrame s { t with recd := { t.recd with noNandSet := b } } := a.trans ⟨fun _ _ => rfl, fun _ _ _ h => h, fun _ h => h, rfl⟩

theorem SettleFrame.timer {s t : State} (a : SettleFrame s t) (p : Option PState) (n : Nat) :
    SettleFrame s { t with pow := { t.pow with timer := p, timerStart := n } } := a.trans ⟨fun _ _ => rfl, fun _ _ _ h => h, fun _ h => h, rfl⟩

theorem SettleFrame.emit {s t : State} (a : SettleFrame s t) (m : OutMsg) : SettleFrame s (t.emit m) :=
  a.trans ⟨fun _ _ => rfl, fun _ _ _ h => h, fun x h => by simp [h], rfl⟩

/-! ### The laser and the loops -/

theorem setLoop_settle {s t : State} (a : SettleFrame s t) (l : Loop) (x : LoopSt) : SettleFrame s (t.setLoop l x) := by
  unfold State.setLoop
  split
  · exact a.opt x _ _ _ _ _ _ _ _ _
  · exact a.opt _ x _ _ _ _ _ _ _ _

theorem lf_key {l : Loop} {f g : Fld} {P : Fld → Prop} (hf : P f) (hg : P g) : P (lf l f g) := by
  unfold lf
  split <;> assumption

theorem SettleFrame.lf {s t : State} (a : SettleFrame s t) (l : Loop) (f g : Fld) (v : Nat)
    (hf : settleKey f.key = true ∧ f.key / 32 % 4096 ≠ 16) (hg : settleKey g.key = true ∧ g.key / 32 % 4096 ≠ 16) :
    SettleFrame s (t.wr (lf l f g) v) :=
  have h : settleKey (Machine.lf l f g).key = true ∧ (Machine.lf l f g).key / 32 % 4096 ≠ 16 :=
    lf_key (P := fun f => settleKey f.key = true ∧ f.key / 32 % 4096 ≠ 16) hf hg
  a.wr _ v h.1 h.2

theorem setLoopState_settle {s t : State} (a : SettleFrame s t) (l : Loop) (v : Nat) : SettleFrame s (t.setLoopState l v) :=
  a.lf l _ _ v (by decide) (by decide)

theorem laserOff_settle {s t : State} (a : SettleFrame s t) (c : Nat) : SettleFrame s (t.laserOff c) := by
  simp only [State.laserOff, wrAll_cons, wrAll_nil]
  have h := (((a.wr LPC.STATE 0 (by decide) (by decide)).wr LPC.LIT 0 (by decide) (by decide)).wr LPC.LAST_OFF c (by decide)
    (by decide)).wr LPC.DRIVE 0 (by decide) (by decide)
  generalize (((t.wr LPC.STATE 0).wr LPC.LIT 0).wr LPC.LAST_OFF c).wr LPC.DRIVE 0 = u at h ⊢
  exact h.opt _ _ _ _ _ _ _ _ _ _

theorem settleLaser_settle (s : State) : SettleFrame s s.settleLaser := by
  have r := SettleFrame.refl s
  have w : ∀ c, SettleFrame s ((s.wr LPC.STATE 4).wr LPC.LAST_OFF c) := fun c =>
    (r.wr LPC.STATE 4 (by decide) (by decide)).wr LPC.LAST_OFF c (by decide) (by decide)
  have on : SettleFrame s ((s.wr LPC.STATE 1).wr LPC.LIT (s.rd LPC.WAVE)) :=
    (r.wr LPC.STATE 1 (by decide) (by decide)).wr LPC.LIT _ (by decide) (by decide)
  simp only [State.settleLaser, wrAll_cons, wrAll_nil]
  generalize (s.wr LPC.STATE 1).wr LPC.LIT (s.rd LPC.WAVE) = u at on ⊢
  repeat' split
  all_goals first
    | exact r
    | exact on.opt _ _ _ _ _ _ _ _ _ _
    | exact laserOff_settle r 4
    | exact w _

theorem loopDrop_settle {s t : State} (a : SettleFrame s t) (l : Loop) : SettleFrame s (t.loopDrop l) := by
  simp only [State.loopDrop, wrAll_cons, wrAll_nil]
  have h := ((setLoop_settle a l { t.loop l with lossRun := 0, lockRun := 0, satRun := 0, goodRun := 0, sweeps := 0, ramp := 1125 * (t.loop l).u }).lf l
    FOC.HOLD_PRED TRK.HOLD_PRED 0 (by decide) (by decide)).lf l FOC.HOLD_DROP TRK.HOLD_DROP 0 (by decide) (by decide)
  split
  · exact h
  · exact h.wr _ _ (by decide) (by decide)

theorem goDone_settle {s t : State} (a : SettleFrame s t) (f : Fld) (h : settleKey f.key = true ∧ f.key / 32 % 4096 ≠ 16) :
    SettleFrame s (t.goDone f) := by
  have b := a.wr f 0 h.1 h.2
  unfold State.goDone
  exact b.goWait _

theorem jumpBroken_settle {s t : State} (a : SettleFrame s t) (l : Loop) : SettleFrame s (t.jumpBroken l) := by
  unfold State.jumpBroken
  split
  · exact (goDone_settle (a.opt _ _ none _ _ _ _ _ _ _) _ (by decide)).leaf _
  · exact a

theorem loopRelease_settle {s t : State} (a : SettleFrame s t) (l : Loop) : SettleFrame s (t.loopRelease l) :=
  jumpBroken_settle (setLoopState_settle (loopDrop_settle a l) l 1) l

theorem loopOpen_settle {s t : State} (a : SettleFrame s t) (l : Loop) : SettleFrame s (t.loopOpen l) := by
  have h := setLoopState_settle (loopDrop_settle a l) l 0
  simp only [State.loopOpen]
  generalize (t.loopDrop l).setLoopState l 0 = u at h ⊢
  have k := (setLoop_settle h l { u.loop l with u := 0, ramp := 0 }).lf l FOC.DRIVE TRK.DRIVE 0 (by decide) (by decide)
  generalize (u.setLoop l { u.loop l with u := 0, ramp := 0 }).wr (lf l FOC.DRIVE TRK.DRIVE) 0 = v at k ⊢
  exact jumpBroken_settle (k.outs _ _) l

theorem loopLoss_settle {s t : State} (a : SettleFrame s t) (l : Loop) (c : Nat) : SettleFrame s (t.loopLoss l c) := by
  have k : settleKey (lf l FOC.LOSSES TRK.LOSSES).key = true ∧ (lf l FOC.LOSSES TRK.LOSSES).key / 32 % 4096 ≠ 16 :=
    lf_key (P := fun f => settleKey f.key = true ∧ f.key / 32 % 4096 ≠ 16) (by decide) (by decide)
  have h := (a.lf l FOC.LAST_LOSS TRK.LAST_LOSS c (by decide) (by decide)).trans
    ((add_frame _ (lf l FOC.LOSSES TRK.LOSSES) 1).settle k.1 k.2)
  simp only [State.loopLoss]
  exact (setLoop_settle h l _).leaf _

theorem loopStart_settle {s t : State} (a : SettleFrame s t) (l : Loop) : SettleFrame s (t.loopStart l) :=
  setLoopState_settle (setLoop_settle a l _) l 3

theorem settleLoop_settle {s t : State} (a : SettleFrame s t) (l : Loop) : SettleFrame s (t.settleLoop l) := by
  simp only [State.settleLoop]
  repeat' split
  all_goals first
    | exact a
    | exact loopStart_settle a l
    | exact setLoopState_settle a l _
    | exact loopLoss_settle (loopOpen_settle a l) l _
    | exact loopOpen_settle a l
    | exact loopRelease_settle a l

theorem settleServo_settle (s : State) : SettleFrame s s.settleServo := by
  have h : ∀ t : State, SettleFrame t ((t.settleLaser.settleLoop .foc).settleLoop .trk) := fun t =>
    settleLoop_settle (settleLoop_settle (settleLaser_settle t) _) _
  exact (h s).trans (h _)

/-! ### The channel -/

theorem eqLoad_settle {s t : State} (a : SettleFrame s t) : SettleFrame s t.eqLoad := by
  have w : ∀ k, k < 7 → settleKey (CHN.EQ_NOW.at k).key = true ∧ (CHN.EQ_NOW.at k).key / 32 % 4096 ≠ 16 := by decide
  have h : ∀ (l : List Nat) (t : State), SettleFrame s t → (∀ k ∈ l, k < 7) →
      SettleFrame s (l.foldl (fun t k => t.wr (CHN.EQ_NOW.at k) (t.rd (CHN.EQ_INIT.at k))) t) := by
    intro l
    induction l with
    | nil => exact fun t a _ => a
    | cons x l ih =>
      exact fun t a m => ih _ (a.wr _ _ (w x (m x (by simp))).1 (w x (m x (by simp))).2) fun k hk => m k (by simp [hk])
  exact h _ t a (by decide)

theorem showRate_settle {s t : State} (a : SettleFrame s t) : SettleFrame s t.showRate := by
  simp only [State.showRate, wrAll_cons, wrAll_nil]
  split <;> exact (a.wr _ _ (by decide) (by decide)).wr _ _ (by decide) (by decide)

theorem demFollow_settle {s t : State} (a : SettleFrame s t) : SettleFrame s t.demFollow := by
  have h := (a.wr DEM.STATE 0 (by decide) (by decide)).wr DEM.INSERT_RUN 0 (by decide) (by decide)
  have k := a.wr DEM.STATE 3 (by decide) (by decide)
  simp only [State.demFollow, wrAll_cons, wrAll_nil]
  have c : ∀ w : Chan, ({ t with chn := w } : State).chn = w := fun _ => rfl
  split
  · split
    · have := h.chn t.chn.errs t.chn.through t.chn.snrSince t.chn.snrSet 0 t.chn.period t.chn.phase
      exact this
    · exact a
  · split
    · exact a
    · exact k

theorem chnTo_settle {s t : State} (a : SettleFrame s t) (st : Nat) : SettleFrame s (t.chnTo st) := by
  have h := (a.wr CHN.STATE st (by decide) (by decide)).wr CHN.RECAPTURE 0 (by decide) (by decide)
  simp only [State.chnTo, wrAll_cons, wrAll_nil]
  generalize (t.wr CHN.STATE st).wr CHN.RECAPTURE 0 = u at h ⊢
  exact demFollow_settle (h.chn [] _ none false _ _ _)

theorem chnAcquire_settle {s t : State} (a : SettleFrame s t) : SettleFrame s t.chnAcquire := by
  have h := eqLoad_settle (chnTo_settle a 1)
  simp only [State.chnAcquire]
  generalize (t.chnTo 1).eqLoad = u at h ⊢
  exact showRate_settle (h.chn _ _ _ _ _ _ 0)

theorem formatChange_settle {s t : State} (a : SettleFrame s t) : SettleFrame s t.formatChange := by
  simp only [State.formatChange]
  split
  · exact a
  · have h := eqLoad_settle (a.wr CHN.FMT t.formatNow (by decide) (by decide))
    generalize (t.wr CHN.FMT t.formatNow).eqLoad = u at h ⊢
    refine SettleFrame.wr ?_ _ _ (by decide) (by decide)
    have k : SettleFrame s (if (u.delivering || decide (u.rd CHN.STATE = 4)) = true then u.chnAcquire else u) := by
      split
      · exact chnAcquire_settle h
      · exact h
    generalize (if (u.delivering || decide (u.rd CHN.STATE = 4)) = true then u.chnAcquire else u) = v at k ⊢
    split
    · exact k
    · have w := k.wr DEM.STATE 0 (by decide) (by decide)
      exact w.chn v.chn.errs v.chn.through v.chn.snrSince v.chn.snrSet 0 v.chn.period v.chn.phase

theorem settleChannel_settle {s t : State} (a : SettleFrame s t) : SettleFrame s t.settleChannel := by
  unfold State.settleChannel
  dsimp only
  split
  · exact a
  · split
    · split
      · exact a
      · exact chnTo_settle a 0
    · split
      · exact chnAcquire_settle (formatChange_settle a)
      · exact a

/-! ### The spindle, the store and the timers -/

theorem zoneEval_settle {s t : State} (a : SettleFrame s t) (x l : Nat) : SettleFrame s (t.zoneEval x l) := by
  simp only [State.zoneEval, wrAll_cons, wrAll_nil]
  refine SettleFrame.trans ?_ (leafIf_frame _ _ _).settle
  generalize (if (decide (t.rd LDR.STATE = 5) && decide (t.drv.detect = 1)) = true then min (t.rd SPN.RPM_MAX) detectRpm
    else t.rpmFor t.isDvd (t.speedAt t.isDvd (t.zoneOf t.isDvd x l) (t.is SPN.QUIET))) = r
  have h := (a.wr SPN.ZONE (t.zoneOf t.isDvd x l) (by decide) (by decide)).wr SPN.TARGET
    (t.speedAt t.isDvd (t.zoneOf t.isDvd x l) (t.is SPN.QUIET)) (by decide) (by decide)
  generalize (t.wr SPN.ZONE (t.zoneOf t.isDvd x l)).wr SPN.TARGET
    (t.speedAt t.isDvd (t.zoneOf t.isDvd x l) (t.is SPN.QUIET)) = u at h ⊢
  split
  · exact (h.drv _ _ _ _ _).wr _ _ (by decide) (by decide)
  · exact h.drv _ _ _ _ _

theorem settleSpindle_settle {s t : State} (a : SettleFrame s t) : SettleFrame s t.settleSpindle := by
  have up := (a.wr SPN.STATE 1 (by decide) (by decide)).trans ((add_frame _ SPN.SPINUPS 1).settle (by decide) (by decide))
  have down : ∀ v, SettleFrame s ((t.wr SPN.STATE v).wr SPN.RATE_MODE 0) := fun v =>
    (a.wr SPN.STATE v (by decide) (by decide)).wr SPN.RATE_MODE 0 (by decide) (by decide)
  simp only [State.settleSpindle, wrAll_cons, wrAll_nil]
  generalize (t.wr SPN.STATE 1).add SPN.SPINUPS 1 = u at up ⊢
  split
  · split
    · exact zoneEval_settle (up.drv _ true false 0 _) _ _
    · exact a
  · split
    · exact a
    · split
      · exact a
      · exact (down _).outs _ _

theorem settleStore_settle {s t : State} (a : SettleFrame s t) : SettleFrame s t.settleStore := by
  simp only [State.settleStore]
  split
  · exact a
  · split
    · split
      · exact a.noNand false
      · exact a
    · split
      · exact a
      · exact (a.noNand true).leaf _

theorem settleTimer_settle {s t : State} (a : SettleFrame s t) : SettleFrame s t.settleTimer := by
  have h : ∀ w : Option PState, SettleFrame s (if w = t.pow.timer then t
      else { t with pow := { t.pow with timer := w, timerStart := t.elapsed } }) := by
    intro w
    split
    · exact a
    · exact a.timer w t.elapsed
  exact h _

theorem marker_settle {s t : State} (a : SettleFrame s t) (k : Nat) (b : Bool) (p : List Byte) : SettleFrame s (t.marker k b p) :=
  a.trc _ _ _ _

theorem settleTrigger_settle {s t : State} (a : SettleFrame s t) : SettleFrame s t.settleTrigger := by
  simp only [State.settleTrigger]
  split
  · exact (marker_settle ((a.trc false (some (t.rd TRC.POST)) _ _).wr TRC.TRIGGERED 1 (by decide) (by decide)) _ _ _).leaf _
  · exact a

theorem settleIntx_settle {s t : State} (a : SettleFrame s t) : SettleFrame s t.settleIntx := by
  simp only [State.settleIntx]
  repeat' split
  all_goals first
    | exact a
    | exact (a.emit _).wr _ _ (by decide) (by decide)
    | exact a.wr _ _ (by decide) (by decide)

/-- What settle leaves: every field outside `settleKey`, every CAUSE bit that is set, and the rest of the state. -/
theorem settle_frame (s : State) : SettleFrame s s.settle :=
  settleIntx_settle (settleTrigger_settle (settleTimer_settle (settleStore_settle (settleSpindle_settle (settleChannel_settle
    (settleServo_settle s))))))

/-! ### The output latches -/

theorem SettleFrame.loopCut {s t : State} (h : SettleFrame s t) (l : Loop) : t.loopCut l = s.loopCut l := by
  have g : ∀ p, settleKey (Hdr.GATED p).key = false → t.pageDown p = s.pageDown p := by
    intro p hp
    have : t.rd (Hdr.GATED p) = s.rd (Hdr.GATED p) := by simp [State.rd, h.keys _ hp]
    have e := h.rest
    rw [State.pageDown, State.is, this, e]
    rfl
  have r : t.rd TIME.REF_OK = s.rd TIME.REF_OK := by simp [State.rd, h.keys _ (show settleKey TIME.REF_OK.key = false by decide)]
  have e := h.rest
  rw [State.loopCut, State.is, r, g 4 (by decide), g 5 (by decide), e]
  rfl

theorem setLoop_loopOut (s : State) (l : Loop) (x : LoopSt) : (s.setLoop l x).loopOut = s.loopOut := by
  unfold State.setLoop
  split <;> rfl

@[simp] theorem setLeaf_loopOut (s : State) (l : Leaf) : (s.setLeaf l).loopOut = s.loopOut := by
  have := (setLeaf_frame s l).rest
  rw [this]

theorem settleLaser_loopOut (s : State) : s.settleLaser.loopOut = s.loopOut := by
  simp only [State.settleLaser]
  repeat' split
  all_goals simp [State.laserOff]

theorem loopRelease_loopOut (s : State) (l : Loop) : (s.loopRelease l).loopOut = s.loopOut := by
  have h : (s.loopDrop l).loopOut = s.loopOut := by
    simp only [State.loopDrop]
    split <;> simp [setLoop_loopOut]
  have j : ∀ u : State, (u.jumpBroken l).loopOut = u.loopOut := by
    intro u
    unfold State.jumpBroken
    split
    · rw [setLeaf_loopOut]; rfl
    · rfl
  rw [State.loopRelease, j, State.setLoopState, wr_loopOut, h]

/-- While nothing cuts a loop off at once, its output latch is not touched. -/
theorem settleLoop_loopOut (s : State) (l : Loop) (h : s.loopCut l = none) : (s.settleLoop l).loopOut = s.loopOut := by
  simp only [State.settleLoop, h]
  repeat' split
  all_goals simp [State.loopStart, State.setLoopState, setLoop_loopOut, loopRelease_loopOut]

/-- Settle leaves the output latches while neither loop is cut off at once (R147). -/
theorem settle_loopOut (s : State) (hf : s.loopCut .foc = none) (ht : s.loopCut .trk = none) : s.settle.loopOut = s.loopOut := by
  have once : ∀ t : State, SettleFrame s t → ((t.settleLaser.settleLoop .foc).settleLoop .trk).loopOut = t.loopOut := by
    intro t a
    have b := a.trans (settleLaser_settle t)
    have c := settleLoop_settle b .foc
    rw [settleLoop_loopOut _ _ (by rw [c.loopCut]; exact ht), settleLoop_loopOut _ _ (by rw [b.loopCut]; exact hf), settleLaser_loopOut]
  have servo : s.settleServo.loopOut = s.loopOut := by
    have a := settleLoop_settle (settleLoop_settle (settleLaser_settle s) .foc) .trk
    rw [State.settleServo, once _ a, once _ (.refl s)]
  have chn : ∀ t : State, (t.settleChannel).loopOut = t.loopOut := by
    intro t
    have q : ∀ u : State, u.eqLoad.loopOut = u.loopOut := by
      intro u
      simp only [State.eqLoad]
      generalize List.range 7 = l
      induction l generalizing u with
      | nil => rfl
      | cons x l ih => simp [ih]
    have d : ∀ u : State, u.demFollow.loopOut = u.loopOut := by
      intro u
      simp only [State.demFollow]
      repeat' split
      all_goals simp
    have tt : ∀ (u : State) n, (u.chnTo n).loopOut = u.loopOut := fun u n => by simp [State.chnTo, d]
    have sr : ∀ u : State, u.showRate.loopOut = u.loopOut := by
      intro u
      simp only [State.showRate]
      split <;> simp
    have acq : ∀ u : State, u.chnAcquire.loopOut = u.loopOut := fun u => by simp [State.chnAcquire, sr, q, tt]
    have fc : ∀ u : State, u.formatChange.loopOut = u.loopOut := by
      intro u
      simp only [State.formatChange]
      repeat' split
      all_goals simp [q, acq]
    simp only [State.settleChannel]
    repeat' split
    all_goals simp [tt, acq, fc]
  have lf : ∀ (u : State) c x, (u.leafIf c x).loopOut = u.loopOut := by
    intro u c x
    unfold State.leafIf
    split
    · exact setLeaf_loopOut u x
    · rfl
  have spn : ∀ t : State, t.settleSpindle.loopOut = t.loopOut := by
    intro t
    have ad : ∀ u : State, (u.add SPN.SPINUPS 1).loopOut = u.loopOut := by
      intro u
      rw [(add_frame u SPN.SPINUPS 1).rest]
    have z : ∀ (u : State) a b, (u.zoneEval a b).loopOut = u.loopOut := by
      intro u a b
      simp only [State.zoneEval, lf]
      repeat' split
      all_goals rfl
    simp only [State.settleSpindle]
    split
    · split
      · rw [z]
        show ((t.wr SPN.STATE 1).add SPN.SPINUPS 1).loopOut = _
        rw [ad, wr_loopOut]
      · rfl
    · split
      · rfl
      · split
        · rfl
        · simp
  have sto : ∀ t : State, t.settleStore.loopOut = t.loopOut := by
    intro t
    simp only [State.settleStore]
    repeat' split
    all_goals simp [setLeaf_loopOut]
  have tim : ∀ t : State, t.settleTimer.loopOut = t.loopOut := by
    intro t
    simp only [State.settleTimer]
    have h : ∀ w : Option PState, (if w = t.pow.timer then t
        else { t with pow := { t.pow with timer := w, timerStart := t.elapsed } }).loopOut = t.loopOut := by
      intro w
      split <;> rfl
    exact h _
  have trg : ∀ t : State, t.settleTrigger.loopOut = t.loopOut := by
    intro t
    simp only [State.settleTrigger]
    split
    · rw [setLeaf_loopOut]; rfl
    · rfl
  have itx : ∀ t : State, t.settleIntx.loopOut = t.loopOut := by
    intro t
    simp only [State.settleIntx]
    repeat' split
    all_goals simp
  rw [State.settle, itx, trg, tim, sto, spn, chn, servo]

/-! ### The same as equations -/

theorem settle_rd (s : State) {f : Fld} (h : settleKey f.key = false) : s.settle.rd f = s.rd f := by
  simp [State.rd, (settle_frame s).keys _ h]

theorem settle_is (s : State) {f : Fld} (h : settleKey f.key = false) : s.settle.is f = s.is f := by
  simp [State.is, settle_rd s h]

/-- What was sent stays in the record of what was sent. -/
theorem settle_sent {s : State} {m : OutMsg} (h : m ∈ s.sent) : m ∈ s.settle.sent := (settle_frame s).sent m h

theorem settle_cause (s : State) (p : Nat) {i : Nat} (hi : i < 32) (h : bit (s.rd (Hdr.CAUSE p)) i = true) :
    bit (s.settle.rd (Hdr.CAUSE p)) i = true := (settle_frame s).cause p i hi h

end Sys2Proof.Machine
end

