-- ==== Sys2Proof/Laws/Keeps.lean ====
section
/-! SUPPORT. How `Keeps` is shown of a meaning: one lemma for each shared operation, put on top of what came before it. -/

namespace Sys2Proof.Machine

theorem Keeps.refl (l : List Fld) (s : State) : Keeps l s s := ⟨fun _ _ _ => rfl, rfl, fun _ => rfl, rfl⟩

theorem Keeps.trans {l : List Fld} {s t u : State} (a : Keeps l s t) (b : Keeps l t u) : Keeps l s u :=
  ⟨fun f h m => (b.1 f h m).trans (a.1 f h m), b.2.1.trans a.2.1, fun x => (b.2.2.1 x).trans (a.2.2.1 x), b.2.2.2.trans a.2.2.2⟩

/-- More listed fields keep less. -/
theorem Keeps.mono {l m : List Fld} {s t : State} (a : Keeps l s t) (h : ∀ g ∈ l, ∃ g' ∈ m, g'.key = g.key) : Keeps m s t :=
  ⟨fun f hk n => a.1 f hk fun g hg => 
    Exists.elim (h g hg) fun g' x => fun eq => n g' x.1 (eq.trans x.2.symm), a.2.1, a.2.2.1, a.2.2.2⟩

/-- A change outside the registers, the shadows and the cache. -/
theorem Keeps.same {l : List Fld} {s t u : State} (a : Keeps l s t) (hr : u.regs = t.regs) (hs : u.shadow = t.shadow)
    (hc : u.cells = t.cells) (he : u.ecc = t.ecc) : Keeps l s u :=
  ⟨fun f h m => (rd_regs hr f).trans (a.1 f h m), hs.trans a.2.1, fun x => by rw [hc]; exact a.2.2.1 x, he.trans a.2.2.2⟩

/-- A listed field written. -/
theorem Keeps.wr {l : List Fld} {s t : State} (a : Keeps l s t) {g : Fld} (v : Nat) (h : (l.map Fld.key).contains g.key = true) :
    Keeps l s (t.wr g v) := by
  refine ⟨fun f hf m => (rd_wr_ne t v fun e => ?_).trans (a.1 f hf m), a.2.1, a.2.2.1, a.2.2.2⟩
  obtain ⟨x, hx, hk⟩ := List.mem_map.1 (List.contains_iff_mem.1 h)
  exact m x hx (e.trans hk.symm)

/-- A field written that follows every command. -/
theorem Keeps.wrSettle {l : List Fld} {s t : State} (a : Keeps l s t) {g : Fld} (v : Nat) (h : settleKey g.key = true) :
    Keeps l s (t.wr g v) :=
  ⟨fun f hf m => (rd_wr_ne t v fun e => by rw [e, h] at hf; cases hf).trans (a.1 f hf m), a.2.1, a.2.2.1, a.2.2.2⟩

theorem Keeps.frame {l : List Fld} {s t u : State} (a : Keeps l s t) (b : SettleFrame t u) : Keeps l s u := by
  refine ⟨fun f hf m => ?_, ?_, fun x => ?_, ?_⟩
  · rw [← a.1 f hf m]; simp [State.rd, b.keys _ hf]
  · rw [b.rest]; exact a.2.1
  · rw [b.rest]; exact a.2.2.1 x
  · rw [b.rest]; exact a.2.2.2

theorem Keeps.leaf {l : List Fld} {s t : State} (a : Keeps l s t) (x : Leaf) : Keeps l s (t.setLeaf x) :=
  a.frame (setLeaf_frame t x).settle

theorem Keeps.leaves {l : List Fld} {s t : State} (a : Keeps l s t) (x : List Leaf) : Keeps l s (t.setLeaves x) :=
  a.frame (setLeaves_frame t x).settle

theorem Keeps.leafIf {l : List Fld} {s t : State} (a : Keeps l s t) (c : Bool) (x : Leaf) : Keeps l s (t.leafIf c x) :=
  a.frame (leafIf_frame t c x).settle

theorem Keeps.event {l : List Fld} {s t : State} (a : Keeps l s t) (en : Bool) (code page slice sev : Nat) (data : List Byte) :
    Keeps l s (t.event en code page slice sev data) := a.frame (event_frame t en code page slice sev data).settle

theorem Keeps.add {l : List Fld} {s t : State} (a : Keeps l s t) {g : Fld} (n : Nat)
    (h : (l.map Fld.key).contains g.key = true) : Keeps l s (t.add g n) := by
  have b := add_frame t g n
  refine ⟨fun f hf m => (b.rd (fun e => ?_) (settleKey_log hf)).trans (a.1 f hf m), ?_, fun x => ?_, ?_⟩
  · obtain ⟨x, hx, hk⟩ := List.mem_map.1 (List.contains_iff_mem.1 h)
    exact m x hx (e.trans hk.symm)
  · rw [b.rest]; exact a.2.1
  · rw [b.rest]; exact a.2.2.1 x
  · rw [b.rest]; exact a.2.2.2

theorem Keeps.emit {l : List Fld} {s t : State} (a : Keeps l s t) (m : OutMsg) : Keeps l s (t.emit m) := a.same rfl rfl rfl rfl

theorem Keeps.settle {l : List Fld} {s t : State} (a : Keeps l s t) : Keeps l s t.settle := a.frame (settle_frame t)

end Sys2Proof.Machine
end

