-- ==== Sys2Proof/Laws/Leaves.lean ====
section
/-! SUPPORT. When a leaf is set after the shared operations: a set leaf stays set, and a hardware set sets it unless its
block is gated. -/

namespace Sys2Proof.Machine

theorem LeafSet.frame {s t : State} {l : Leaf} (h : LeafSet s l) (hl : l.bit < 32) (f : SettleFrame s t) : LeafSet t l :=
  f.cause _ _ hl h

theorem LeafSet.settle {s : State} {l : Leaf} (h : LeafSet s l) (hl : l.bit < 32) : LeafSet s.settle l :=
  h.frame hl (settle_frame s)

theorem LeafSet.setLeaf {s : State} {l : Leaf} (h : LeafSet s l) (hl : l.bit < 32) (x : Leaf) : LeafSet (s.setLeaf x) l :=
  h.frame hl (setLeaf_frame s x).settle

theorem LeafSet.leafIf {s : State} {l : Leaf} (h : LeafSet s l) (hl : l.bit < 32) (c : Bool) (x : Leaf) :
    LeafSet (s.leafIf c x) l := h.frame hl (leafIf_frame s c x).settle

theorem LeafSet.setLeaves {s : State} {l : Leaf} (h : LeafSet s l) (hl : l.bit < 32) (x : List Leaf) :
    LeafSet (s.setLeaves x) l := h.frame hl (setLeaves_frame s x).settle

theorem LeafSet.event {s : State} {l : Leaf} (h : LeafSet s l) (hl : l.bit < 32) (en : Bool) (code page slice sev : Nat)
    (data : List Byte) : LeafSet (s.event en code page slice sev data) l := h.frame hl (event_frame s en code page slice sev data).settle

/-- A leaf set depends on the registers alone. -/
theorem LeafSet.same {s t : State} {l : Leaf} (h : LeafSet s l) (hr : t.regs = s.regs) : LeafSet t l := by
  unfold LeafSet; rw [rd_regs hr]; exact h

theorem LeafSet.wr {s : State} {l : Leaf} (h : LeafSet s l) {g : Fld} (v : Nat) (hg : g.off ≠ 0x010 ∨ g.page ≠ l.page)
    (ho : g.off < 4096) (hb : g.lsb < 32) : LeafSet (s.wr g v) l := by
  unfold LeafSet
  rw [rd_wr_ne]
  · exact h
  · simp only [Hdr.CAUSE, Fld.key]
    rcases hg with hg | hg <;> omega

theorem setCause_set (s : State) (l : Leaf) (hl : l.bit < 32) : LeafSet (s.setCause l) l := by
  have h : LeafSet (s.wr (Hdr.CAUSE l.page) (s.rd (Hdr.CAUSE l.page) ||| 2 ^ l.bit)) l := by
    unfold LeafSet
    rw [rd_wr_self, show (Hdr.CAUSE l.page).width = 32 from rfl, bit_mod_two_pow hl, bit_or, bit_two_pow_self, Bool.or_true]
  simp only [State.setCause]
  split
  · exact h.frame hl (noteFirst_frame _ _).settle
  · exact h

/-- A hardware set of a leaf sets it, when the leaf's page is not gated (R64, R76). -/
theorem setLeaf_set (s : State) (l : Leaf) (hl : l.bit < 32) (hg : s.is (Hdr.GATED l.page) = false) : LeafSet (s.setLeaf l) l := by
  have q : LeafSet (s.setQuiet l) l := by
    simp only [State.setQuiet, hg, Bool.false_eq_true, if_false]
    split
    · exact (setCause_set s l hl).same rfl
    · exact setCause_set s l hl
  simp only [State.setLeaf, hg, Bool.false_eq_true, if_false]
  split
  · exact q
  · split
    · exact q.frame hl (stage_frame _ _ _ _ _ _).settle
    · exact q

theorem leafIf_set (s : State) (l : Leaf) {c : Bool} (hc : c = true) (hl : l.bit < 32) (hg : s.is (Hdr.GATED l.page) = false) :
    LeafSet (s.leafIf c l) l := by
  subst hc; exact setLeaf_set s l hl hg

theorem logKey_gated (p : Nat) : logKey (Hdr.GATED p).key = false := by
  have h1 : (Hdr.GATED p).key / 32 % 4096 = 12 := by simp [Hdr.GATED, Fld.key]; omega
  have h2 : (Hdr.GATED p).key % 32 = 1 := by simp [Hdr.GATED, Fld.key]
  have h3 : ∀ k ∈ [ATN.FL_VALID.key, ATN.FL_GROUP.key, ATN.FL_GBIT.key, ATN.FL_PAGE.key, ATN.FL_PBIT.key, REC.LOST.key,
      REC.NEXT_RSN.key, REC.REPEATS.key, REC.FLUSHING.key], k / 32 % 4096 ≠ 12 := by decide
  simp only [logKey, h1, h2, Bool.or_eq_false_iff]
  refine ⟨⟨by decide, by decide⟩, ?_⟩
  simp only [Bool.eq_false_iff, ne_eq, List.contains_iff_mem]
  exact fun m => h3 _ m h1

theorem settleKey_gated (p : Nat) : settleKey (Hdr.GATED p).key = false := by
  have h1 : (Hdr.GATED p).key / 32 % 4096 = 12 := by simp [Hdr.GATED, Fld.key]; omega
  have h3 : ∀ k ∈ settleFields.map Fld.key, k / 32 % 4096 ≠ 12 := by decide
  simp only [settleKey, logKey_gated, Bool.false_or, Bool.eq_false_iff, ne_eq, List.contains_iff_mem]
  exact fun m => h3 _ m h1

theorem setLeaf_gated (s : State) (l : Leaf) (p : Nat) : (s.setLeaf l).is (Hdr.GATED p) = s.is (Hdr.GATED p) := by
  simp [State.is, setLeaf_rd s l (logKey_gated p)]

theorem mem_insertBy {α : Type} (key : α → Nat) (x a : α) (l : List α) : x ∈ insertBy key a l ↔ x = a ∨ x ∈ l := by
  induction l with
  | nil => simp [insertBy]
  | cons b l ih =>
    unfold insertBy
    split
    · simp
    · simp only [List.mem_cons, ih]
      exact ⟨fun h => h.elim (fun e => .inr (.inl e)) (fun h => h.elim .inl (fun h => .inr (.inr h))),
        fun h => h.elim (fun e => .inr (.inl e)) (fun h => h.elim .inl (fun h => .inr (.inr h)))⟩

theorem mem_sortBy {α : Type} (key : α → Nat) (x : α) (l : List α) : x ∈ sortBy key l ↔ x ∈ l := by
  have h : ∀ (l m : List α), x ∈ l.foldl (fun a x => insertBy key x a) m ↔ x ∈ m ∨ x ∈ l := by
    intro l
    induction l with
    | nil => simp
    | cons a l ih =>
      intro m
      rw [List.foldl_cons, ih, mem_insertBy, List.mem_cons]
      exact ⟨fun h => h.elim (fun h => h.elim (fun e => .inr (.inl e)) .inl) (fun h => .inr (.inr h)),
        fun h => h.elim (fun h => .inl (.inr h)) (fun h => h.elim (fun e => .inl (.inl e)) .inr)⟩
  simpa [sortBy] using h l []

/-- Of leaves set at one instant each is set, when its page is not gated. -/
theorem setLeaves_set (s : State) {l : Leaf} {x : List Leaf} (hx : l ∈ x) (hl : l.bit < 32) (hg : s.is (Hdr.GATED l.page) = false) :
    LeafSet (s.setLeaves x) l := by
  unfold State.setLeaves
  replace hx := (mem_sortBy Leaf.code l x).2 hx
  generalize sortBy Leaf.code x = m at hx
  induction m generalizing s with
  | nil => cases hx
  | cons a m ih =>
    simp only [List.foldl_cons]
    rcases List.mem_cons.1 hx with h | h
    · subst h
      have k : ∀ (m : List Leaf) (t : State), LeafSet t l → LeafSet (m.foldl State.setLeaf t) l := by
        intro m
        induction m with
        | nil => exact fun t h => h
        | cons b m ih => exact fun t h => ih _ (h.setLeaf hl b)
      exact k m _ (setLeaf_set s l hl hg)
    · exact ih (s.setLeaf a) (by rw [setLeaf_gated]; exact hg) h

end Sys2Proof.Machine
end

