-- ==== Sys2Proof/Laws/Kept.lean ====
section
/-! SUPPORT. What settling, leaf sets, counts and events leave of the state's parts, one lemma for each part. -/

namespace Sys2Proof.Machine

/-! ### Settling -/

@[simp] theorem settle_pending (s : State) : (s.settle).pending = s.pending := by rw [(settle_frame s).rest]
@[simp] theorem settle_shadow (s : State) : (s.settle).shadow = s.shadow := by rw [(settle_frame s).rest]
@[simp] theorem settle_now (s : State) : (s.settle).now = s.now := by rw [(settle_frame s).rest]
@[simp] theorem settle_elapsed (s : State) : (s.settle).elapsed = s.elapsed := by rw [(settle_frame s).rest]
@[simp] theorem settle_openTags (s : State) : (s.settle).openTags = s.openTags := by rw [(settle_frame s).rest]
@[simp] theorem settle_quarantine (s : State) : (s.settle).quarantine = s.quarantine := by rw [(settle_frame s).rest]
@[simp] theorem settle_recStore (s : State) : (s.settle).recStore = s.recStore := by rw [(settle_frame s).rest]
@[simp] theorem settle_pci (s : State) : (s.settle).pci = s.pci := by rw [(settle_frame s).rest]
@[simp] theorem settle_cal (s : State) : (s.settle).cal = s.cal := by rw [(settle_frame s).rest]
@[simp] theorem settle_calKept (s : State) : (s.settle).calKept = s.calKept := by rw [(settle_frame s).rest]
@[simp] theorem settle_que (s : State) : (s.settle).que = s.que := by rw [(settle_frame s).rest]
@[simp] theorem settle_mem (s : State) : (s.settle).mem = s.mem := by rw [(settle_frame s).rest]
@[simp] theorem settle_cells (s : State) : (s.settle).cells = s.cells := by rw [(settle_frame s).rest]
@[simp] theorem settle_ecc (s : State) : (s.settle).ecc = s.ecc := by rw [(settle_frame s).rest]
@[simp] theorem settle_mir (s : State) : (s.settle).mir = s.mir := by rw [(settle_frame s).rest]
@[simp] theorem settle_erg (s : State) : (s.settle).erg = s.erg := by rw [(settle_frame s).rest]
@[simp] theorem settle_maps (s : State) : (s.settle).maps = s.maps := by rw [(settle_frame s).rest]
@[simp] theorem settle_nand (s : State) : (s.settle).nand = s.nand := by rw [(settle_frame s).rest]
@[simp] theorem settle_lib (s : State) : (s.settle).lib = s.lib := by rw [(settle_frame s).rest]
@[simp] theorem settle_ecd (s : State) : (s.settle).ecd = s.ecd := by rw [(settle_frame s).rest]
@[simp] theorem settle_avg (s : State) : (s.settle).avg = s.avg := by rw [(settle_frame s).rest]
@[simp] theorem settle_ryl (s : State) : (s.settle).ryl = s.ryl := by rw [(settle_frame s).rest]
@[simp] theorem settle_aud (s : State) : (s.settle).aud = s.aud := by rw [(settle_frame s).rest]
@[simp] theorem settle_tap (s : State) : (s.settle).tap = s.tap := by rw [(settle_frame s).rest]
@[simp] theorem settle_pow_phase (s : State) : (s.settle).pow.phase = s.pow.phase := by rw [(settle_frame s).rest]
@[simp] theorem settle_pow_kind (s : State) : (s.settle).pow.kind = s.pow.kind := by rw [(settle_frame s).rest]
@[simp] theorem settle_pow_pwrEn (s : State) : (s.settle).pow.pwrEn = s.pow.pwrEn := by rw [(settle_frame s).rest]
@[simp] theorem settle_pow_low (s : State) : (s.settle).pow.low = s.pow.low := by rw [(settle_frame s).rest]
@[simp] theorem settle_pow_pfail (s : State) : (s.settle).pow.pfail = s.pow.pfail := by rw [(settle_frame s).rest]
@[simp] theorem settle_pow_pfHeld (s : State) : (s.settle).pow.pfHeld = s.pow.pfHeld := by rw [(settle_frame s).rest]
@[simp] theorem settle_pow_pfFlush (s : State) : (s.settle).pow.pfFlush = s.pow.pfFlush := by rw [(settle_frame s).rest]
@[simp] theorem settle_pow_flushShort (s : State) : (s.settle).pow.flushShort = s.pow.flushShort := by rw [(settle_frame s).rest]
@[simp] theorem settle_pow_perst (s : State) : (s.settle).pow.perst = s.pow.perst := by rw [(settle_frame s).rest]
@[simp] theorem settle_pow_refclk (s : State) : (s.settle).pow.refclk = s.pow.refclk := by rw [(settle_frame s).rest]
@[simp] theorem settle_pow_refWasLost (s : State) : (s.settle).pow.refWasLost = s.pow.refWasLost := by rw [(settle_frame s).rest]
@[simp] theorem settle_pow_window (s : State) : (s.settle).pow.window = s.pow.window := by rw [(settle_frame s).rest]
@[simp] theorem settle_pow_filled (s : State) : (s.settle).pow.filled = s.pow.filled := by rw [(settle_frame s).rest]
@[simp] theorem settle_pow_entry (s : State) : (s.settle).pow.entry = s.pow.entry := by rw [(settle_frame s).rest]
@[simp] theorem settle_pow_exit (s : State) : (s.settle).pow.exit = s.pow.exit := by rw [(settle_frame s).rest]
@[simp] theorem settle_pow_exitFrom (s : State) : (s.settle).pow.exitFrom = s.pow.exitFrom := by rw [(settle_frame s).rest]
@[simp] theorem settle_pow_exitStart (s : State) : (s.settle).pow.exitStart = s.pow.exitStart := by rw [(settle_frame s).rest]
@[simp] theorem settle_pow_sleepStart (s : State) : (s.settle).pow.sleepStart = s.pow.sleepStart := by rw [(settle_frame s).rest]
@[simp] theorem settle_pow_wakePend (s : State) : (s.settle).pow.wakePend = s.pow.wakePend := by rw [(settle_frame s).rest]
@[simp] theorem settle_pow_discharged (s : State) : (s.settle).pow.discharged = s.pow.discharged := by rw [(settle_frame s).rest]
@[simp] theorem settle_pow_chipKey (s : State) : (s.settle).pow.chipKey = s.pow.chipKey := by rw [(settle_frame s).rest]
@[simp] theorem settle_pow_resetting (s : State) : (s.settle).pow.resetting = s.pow.resetting := by rw [(settle_frame s).rest]
@[simp] theorem settle_pow_gating (s : State) : (s.settle).pow.gating = s.pow.gating := by rw [(settle_frame s).rest]
@[simp] theorem settle_pow_ungating (s : State) : (s.settle).pow.ungating = s.pow.ungating := by rw [(settle_frame s).rest]
@[simp] theorem settle_pow_resetAfterGate (s : State) : (s.settle).pow.resetAfterGate = s.pow.resetAfterGate := by rw [(settle_frame s).rest]
@[simp] theorem settle_pow_gateAfterReset (s : State) : (s.settle).pow.gateAfterReset = s.pow.gateAfterReset := by rw [(settle_frame s).rest]
@[simp] theorem settle_pow_rylEpochWait (s : State) : (s.settle).pow.rylEpochWait = s.pow.rylEpochWait := by rw [(settle_frame s).rest]
@[simp] theorem settle_pow_funcReset (s : State) : (s.settle).pow.funcReset = s.pow.funcReset := by rw [(settle_frame s).rest]
@[simp] theorem settle_pow_testen (s : State) : (s.settle).pow.testen = s.pow.testen := by rw [(settle_frame s).rest]
@[simp] theorem settle_recd_eraseTag (s : State) : (s.settle).recd.eraseTag = s.recd.eraseTag := by rw [(settle_frame s).rest]
@[simp] theorem settle_recd_erasedBelow (s : State) : (s.settle).recd.erasedBelow = s.recd.erasedBelow := by rw [(settle_frame s).rest]
@[simp] theorem settle_recd_pageSeq (s : State) : (s.settle).recd.pageSeq = s.recd.pageSeq := by rw [(settle_frame s).rest]
@[simp] theorem settle_recd_active (s : State) : (s.settle).recd.active = s.recd.active := by rw [(settle_frame s).rest]
@[simp] theorem settle_recd_lastPageSec (s : State) : (s.settle).recd.lastPageSec = s.recd.lastPageSec := by rw [(settle_frame s).rest]
@[simp] theorem settle_recd_restored (s : State) : (s.settle).recd.restored = s.recd.restored := by rw [(settle_frame s).rest]
@[simp] theorem settle_recd_flushGo (s : State) : (s.settle).recd.flushGo = s.recd.flushGo := by rw [(settle_frame s).rest]
@[simp] theorem settle_recd_again (s : State) : (s.settle).recd.again = s.recd.again := by rw [(settle_frame s).rest]
@[simp] theorem settle_trc_dropNext (s : State) : (s.settle).trc.dropNext = s.trc.dropNext := by rw [(settle_frame s).rest]
@[simp] theorem settle_trc_divCount (s : State) : (s.settle).trc.divCount = s.trc.divCount := by rw [(settle_frame s).rest]
@[simp] theorem settle_trc_droppedRun (s : State) : (s.settle).trc.droppedRun = s.trc.droppedRun := by rw [(settle_frame s).rest]
@[simp] theorem settle_trc_written (s : State) : (s.settle).trc.written = s.trc.written := by rw [(settle_frame s).rest]
@[simp] theorem settle_trc_lostSet (s : State) : (s.settle).trc.lostSet = s.trc.lostSet := by rw [(settle_frame s).rest]
@[simp] theorem settle_trc_stallSet (s : State) : (s.settle).trc.stallSet = s.trc.stallSet := by rw [(settle_frame s).rest]
@[simp] theorem settle_trc_startTag (s : State) : (s.settle).trc.startTag = s.trc.startTag := by rw [(settle_frame s).rest]
@[simp] theorem settle_trc_stopSeq (s : State) : (s.settle).trc.stopSeq = s.trc.stopSeq := by rw [(settle_frame s).rest]
@[simp] theorem settle_trc_resumed (s : State) : (s.settle).trc.resumed = s.trc.resumed := by rw [(settle_frame s).rest]
@[simp] theorem settle_opt_jumpRun (s : State) : (s.settle).opt.jumpRun = s.opt.jumpRun := by rw [(settle_frame s).rest]
@[simp] theorem settle_opt_jumpCross (s : State) : (s.settle).opt.jumpCross = s.opt.jumpCross := by rw [(settle_frame s).rest]
@[simp] theorem settle_opt_sums (s : State) : (s.settle).opt.sums = s.opt.sums := by rw [(settle_frame s).rest]
@[simp] theorem settle_opt_jumpWait (s : State) : (s.settle).opt.jumpWait = s.opt.jumpWait := by rw [(settle_frame s).rest]
@[simp] theorem settle_opt_jumpBySeek (s : State) : (s.settle).opt.jumpBySeek = s.opt.jumpBySeek := by rw [(settle_frame s).rest]
@[simp] theorem settle_opt_laserLatched (s : State) : (s.settle).opt.laserLatched = s.opt.laserLatched := by rw [(settle_frame s).rest]
@[simp] theorem settle_opt_cap780 (s : State) : (s.settle).opt.cap780 = s.opt.cap780 := by rw [(settle_frame s).rest]
@[simp] theorem settle_opt_cap650 (s : State) : (s.settle).opt.cap650 = s.opt.cap650 := by rw [(settle_frame s).rest]
@[simp] theorem settle_opt_deg780 (s : State) : (s.settle).opt.deg780 = s.opt.deg780 := by rw [(settle_frame s).rest]
@[simp] theorem settle_opt_deg650 (s : State) : (s.settle).opt.deg650 = s.opt.deg650 := by rw [(settle_frame s).rest]
@[simp] theorem settle_opt_drv780 (s : State) : (s.settle).opt.drv780 = s.opt.drv780 := by rw [(settle_frame s).rest]
@[simp] theorem settle_opt_drv650 (s : State) : (s.settle).opt.drv650 = s.opt.drv650 := by rw [(settle_frame s).rest]
@[simp] theorem settle_opt_lit780 (s : State) : (s.settle).opt.lit780 = s.opt.lit780 := by rw [(settle_frame s).rest]
@[simp] theorem settle_opt_lit650 (s : State) : (s.settle).opt.lit650 = s.opt.lit650 := by rw [(settle_frame s).rest]
@[simp] theorem settle_opt_switched (s : State) : (s.settle).opt.switched = s.opt.switched := by rw [(settle_frame s).rest]
@[simp] theorem settle_drv_demand (s : State) : (s.settle).drv.demand = s.drv.demand := by rw [(settle_frame s).rest]
@[simp] theorem settle_drv_parked (s : State) : (s.settle).drv.parked = s.drv.parked := by rw [(settle_frame s).rest]
@[simp] theorem settle_drv_latched (s : State) : (s.settle).drv.latched = s.drv.latched := by rw [(settle_frame s).rest]
@[simp] theorem settle_drv_toggled (s : State) : (s.settle).drv.toggled = s.drv.toggled := by rw [(settle_frame s).rest]
@[simp] theorem settle_drv_flt (s : State) : (s.settle).drv.flt = s.drv.flt := by rw [(settle_frame s).rest]
@[simp] theorem settle_drv_comm (s : State) : (s.settle).drv.comm = s.drv.comm := by rw [(settle_frame s).rest]
@[simp] theorem settle_drv_angleOfs (s : State) : (s.settle).drv.angleOfs = s.drv.angleOfs := by rw [(settle_frame s).rest]
@[simp] theorem settle_drv_alignDue (s : State) : (s.settle).drv.alignDue = s.drv.alignDue := by rw [(settle_frame s).rest]
@[simp] theorem settle_drv_unbal (s : State) : (s.settle).drv.unbal = s.drv.unbal := by rw [(settle_frame s).rest]
@[simp] theorem settle_drv_ripples (s : State) : (s.settle).drv.ripples = s.drv.ripples := by rw [(settle_frame s).rest]
@[simp] theorem settle_drv_ref (s : State) : (s.settle).drv.ref = s.drv.ref := by rw [(settle_frame s).rest]
@[simp] theorem settle_drv_lockRun (s : State) : (s.settle).drv.lockRun = s.drv.lockRun := by rw [(settle_frame s).rest]
@[simp] theorem settle_drv_slowRun (s : State) : (s.settle).drv.slowRun = s.drv.slowRun := by rw [(settle_frame s).rest]
@[simp] theorem settle_drv_rateRun (s : State) : (s.settle).drv.rateRun = s.drv.rateRun := by rw [(settle_frame s).rest]
@[simp] theorem settle_drv_overspeed (s : State) : (s.settle).drv.overspeed = s.drv.overspeed := by rw [(settle_frame s).rest]
@[simp] theorem settle_drv_creepRun (s : State) : (s.settle).drv.creepRun = s.drv.creepRun := by rw [(settle_frame s).rest]
@[simp] theorem settle_drv_pwmRun (s : State) : (s.settle).drv.pwmRun = s.drv.pwmRun := by rw [(settle_frame s).rest]
@[simp] theorem settle_drv_otp (s : State) : (s.settle).drv.otp = s.drv.otp := by rw [(settle_frame s).rest]
@[simp] theorem settle_drv_seeks (s : State) : (s.settle).drv.seeks = s.drv.seeks := by rw [(settle_frame s).rest]
@[simp] theorem settle_drv_seek (s : State) : (s.settle).drv.seek = s.drv.seek := by rw [(settle_frame s).rest]
@[simp] theorem settle_drv_seekFrom (s : State) : (s.settle).drv.seekFrom = s.drv.seekFrom := by rw [(settle_frame s).rest]
@[simp] theorem settle_drv_seekTracks (s : State) : (s.settle).drv.seekTracks = s.drv.seekTracks := by rw [(settle_frame s).rest]
@[simp] theorem settle_drv_seekAbort (s : State) : (s.settle).drv.seekAbort = s.drv.seekAbort := by rw [(settle_frame s).rest]
@[simp] theorem settle_drv_learned (s : State) : (s.settle).drv.learned = s.drv.learned := by rw [(settle_frame s).rest]
@[simp] theorem settle_drv_slip (s : State) : (s.settle).drv.slip = s.drv.slip := by rw [(settle_frame s).rest]
@[simp] theorem settle_drv_fixing (s : State) : (s.settle).drv.fixing = s.drv.fixing := by rw [(settle_frame s).rest]
@[simp] theorem settle_drv_limA (s : State) : (s.settle).drv.limA = s.drv.limA := by rw [(settle_frame s).rest]
@[simp] theorem settle_drv_limB (s : State) : (s.settle).drv.limB = s.drv.limB := by rw [(settle_frame s).rest]
@[simp] theorem settle_drv_slot (s : State) : (s.settle).drv.slot = s.drv.slot := by rw [(settle_frame s).rest]
@[simp] theorem settle_drv_button (s : State) : (s.settle).drv.button = s.drv.button := by rw [(settle_frame s).rest]
@[simp] theorem settle_drv_outward (s : State) : (s.settle).drv.outward = s.drv.outward := by rw [(settle_frame s).rest]
@[simp] theorem settle_drv_moveHeld (s : State) : (s.settle).drv.moveHeld = s.drv.moveHeld := by rw [(settle_frame s).rest]
@[simp] theorem settle_drv_ejecting (s : State) : (s.settle).drv.ejecting = s.drv.ejecting := by rw [(settle_frame s).rest]
@[simp] theorem settle_drv_detect (s : State) : (s.settle).drv.detect = s.drv.detect := by rw [(settle_frame s).rest]
@[simp] theorem settle_drv_discId (s : State) : (s.settle).drv.discId = s.drv.discId := by rw [(settle_frame s).rest]
@[simp] theorem settle_drv_lastId (s : State) : (s.settle).drv.lastId = s.drv.lastId := by rw [(settle_frame s).rest]
@[simp] theorem settle_drv_toc (s : State) : (s.settle).drv.toc = s.drv.toc := by rw [(settle_frame s).rest]
@[simp] theorem settle_drv_layers (s : State) : (s.settle).drv.layers = s.drv.layers := by rw [(settle_frame s).rest]
@[simp] theorem settle_chn_rateRef (s : State) : (s.settle).chn.rateRef = s.chn.rateRef := by rw [(settle_frame s).rest]
@[simp] theorem settle_chn_dropTheta (s : State) : (s.settle).chn.dropTheta = s.chn.dropTheta := by rw [(settle_frame s).rest]
@[simp] theorem settle_chn_dropAddr (s : State) : (s.settle).chn.dropAddr = s.chn.dropAddr := by rw [(settle_frame s).rest]
@[simp] theorem settle_chn_dropLayer (s : State) : (s.settle).chn.dropLayer = s.chn.dropLayer := by rw [(settle_frame s).rest]
@[simp] theorem settle_chn_driftArmed (s : State) : (s.settle).chn.driftArmed = s.chn.driftArmed := by rw [(settle_frame s).rest]
@[simp] theorem settle_chn_q (s : State) : (s.settle).chn.q = s.chn.q := by rw [(settle_frame s).rest]
@[simp] theorem settle_chn_missed (s : State) : (s.settle).chn.missed = s.chn.missed := by rw [(settle_frame s).rest]
@[simp] theorem settle_chn_entries (s : State) : (s.settle).chn.entries = s.chn.entries := by rw [(settle_frame s).rest]

/-! ### A leaf set -/

@[simp] theorem setLeaf_pending (s : State) (l : Leaf) : (s.setLeaf l).pending = s.pending := by rw [(setLeaf_frame s l).rest]
@[simp] theorem setLeaf_shadow (s : State) (l : Leaf) : (s.setLeaf l).shadow = s.shadow := by rw [(setLeaf_frame s l).rest]
@[simp] theorem setLeaf_goWait (s : State) (l : Leaf) : (s.setLeaf l).goWait = s.goWait := by rw [(setLeaf_frame s l).rest]
@[simp] theorem setLeaf_now (s : State) (l : Leaf) : (s.setLeaf l).now = s.now := by rw [(setLeaf_frame s l).rest]
@[simp] theorem setLeaf_elapsed (s : State) (l : Leaf) : (s.setLeaf l).elapsed = s.elapsed := by rw [(setLeaf_frame s l).rest]
@[simp] theorem setLeaf_fresh (s : State) (l : Leaf) : (s.setLeaf l).fresh = s.fresh := by rw [(setLeaf_frame s l).rest]
@[simp] theorem setLeaf_sent (s : State) (l : Leaf) : (s.setLeaf l).sent = s.sent := by rw [(setLeaf_frame s l).rest]
@[simp] theorem setLeaf_pow (s : State) (l : Leaf) : (s.setLeaf l).pow = s.pow := by rw [(setLeaf_frame s l).rest]
@[simp] theorem setLeaf_openTags (s : State) (l : Leaf) : (s.setLeaf l).openTags = s.openTags := by rw [(setLeaf_frame s l).rest]
@[simp] theorem setLeaf_quarantine (s : State) (l : Leaf) : (s.setLeaf l).quarantine = s.quarantine := by rw [(setLeaf_frame s l).rest]
@[simp] theorem setLeaf_recStore (s : State) (l : Leaf) : (s.setLeaf l).recStore = s.recStore := by rw [(setLeaf_frame s l).rest]
@[simp] theorem setLeaf_pci (s : State) (l : Leaf) : (s.setLeaf l).pci = s.pci := by rw [(setLeaf_frame s l).rest]
@[simp] theorem setLeaf_loopResult (s : State) (l : Leaf) : (s.setLeaf l).loopResult = s.loopResult := by rw [(setLeaf_frame s l).rest]
@[simp] theorem setLeaf_cal (s : State) (l : Leaf) : (s.setLeaf l).cal = s.cal := by rw [(setLeaf_frame s l).rest]
@[simp] theorem setLeaf_calKept (s : State) (l : Leaf) : (s.setLeaf l).calKept = s.calKept := by rw [(setLeaf_frame s l).rest]
@[simp] theorem setLeaf_que (s : State) (l : Leaf) : (s.setLeaf l).que = s.que := by rw [(setLeaf_frame s l).rest]
@[simp] theorem setLeaf_mem (s : State) (l : Leaf) : (s.setLeaf l).mem = s.mem := by rw [(setLeaf_frame s l).rest]
@[simp] theorem setLeaf_cells (s : State) (l : Leaf) : (s.setLeaf l).cells = s.cells := by rw [(setLeaf_frame s l).rest]
@[simp] theorem setLeaf_ecc (s : State) (l : Leaf) : (s.setLeaf l).ecc = s.ecc := by rw [(setLeaf_frame s l).rest]
@[simp] theorem setLeaf_mir (s : State) (l : Leaf) : (s.setLeaf l).mir = s.mir := by rw [(setLeaf_frame s l).rest]
@[simp] theorem setLeaf_erg (s : State) (l : Leaf) : (s.setLeaf l).erg = s.erg := by rw [(setLeaf_frame s l).rest]
@[simp] theorem setLeaf_opt (s : State) (l : Leaf) : (s.setLeaf l).opt = s.opt := by rw [(setLeaf_frame s l).rest]
@[simp] theorem setLeaf_drv (s : State) (l : Leaf) : (s.setLeaf l).drv = s.drv := by rw [(setLeaf_frame s l).rest]
@[simp] theorem setLeaf_maps (s : State) (l : Leaf) : (s.setLeaf l).maps = s.maps := by rw [(setLeaf_frame s l).rest]
@[simp] theorem setLeaf_nand (s : State) (l : Leaf) : (s.setLeaf l).nand = s.nand := by rw [(setLeaf_frame s l).rest]
@[simp] theorem setLeaf_lib (s : State) (l : Leaf) : (s.setLeaf l).lib = s.lib := by rw [(setLeaf_frame s l).rest]
@[simp] theorem setLeaf_ecd (s : State) (l : Leaf) : (s.setLeaf l).ecd = s.ecd := by rw [(setLeaf_frame s l).rest]
@[simp] theorem setLeaf_avg (s : State) (l : Leaf) : (s.setLeaf l).avg = s.avg := by rw [(setLeaf_frame s l).rest]
@[simp] theorem setLeaf_chn (s : State) (l : Leaf) : (s.setLeaf l).chn = s.chn := by rw [(setLeaf_frame s l).rest]
@[simp] theorem setLeaf_ryl (s : State) (l : Leaf) : (s.setLeaf l).ryl = s.ryl := by rw [(setLeaf_frame s l).rest]
@[simp] theorem setLeaf_aud (s : State) (l : Leaf) : (s.setLeaf l).aud = s.aud := by rw [(setLeaf_frame s l).rest]
@[simp] theorem setLeaf_tap (s : State) (l : Leaf) : (s.setLeaf l).tap = s.tap := by rw [(setLeaf_frame s l).rest]
@[simp] theorem setLeaf_recd_eraseTag (s : State) (l : Leaf) : (s.setLeaf l).recd.eraseTag = s.recd.eraseTag := by rw [(setLeaf_frame s l).rest]
@[simp] theorem setLeaf_recd_noNandSet (s : State) (l : Leaf) : (s.setLeaf l).recd.noNandSet = s.recd.noNandSet := by rw [(setLeaf_frame s l).rest]
@[simp] theorem setLeaf_recd_erasedBelow (s : State) (l : Leaf) : (s.setLeaf l).recd.erasedBelow = s.recd.erasedBelow := by rw [(setLeaf_frame s l).rest]
@[simp] theorem setLeaf_recd_pageSeq (s : State) (l : Leaf) : (s.setLeaf l).recd.pageSeq = s.recd.pageSeq := by rw [(setLeaf_frame s l).rest]
@[simp] theorem setLeaf_recd_active (s : State) (l : Leaf) : (s.setLeaf l).recd.active = s.recd.active := by rw [(setLeaf_frame s l).rest]
@[simp] theorem setLeaf_recd_lastPageSec (s : State) (l : Leaf) : (s.setLeaf l).recd.lastPageSec = s.recd.lastPageSec := by rw [(setLeaf_frame s l).rest]
@[simp] theorem setLeaf_recd_restored (s : State) (l : Leaf) : (s.setLeaf l).recd.restored = s.recd.restored := by rw [(setLeaf_frame s l).rest]
@[simp] theorem setLeaf_recd_flushGo (s : State) (l : Leaf) : (s.setLeaf l).recd.flushGo = s.recd.flushGo := by rw [(setLeaf_frame s l).rest]
@[simp] theorem setLeaf_recd_again (s : State) (l : Leaf) : (s.setLeaf l).recd.again = s.recd.again := by rw [(setLeaf_frame s l).rest]
@[simp] theorem setLeaf_trc_queue (s : State) (l : Leaf) : (s.setLeaf l).trc.queue = s.trc.queue := by rw [(setLeaf_frame s l).rest]
@[simp] theorem setLeaf_trc_dropNext (s : State) (l : Leaf) : (s.setLeaf l).trc.dropNext = s.trc.dropNext := by rw [(setLeaf_frame s l).rest]
@[simp] theorem setLeaf_trc_divCount (s : State) (l : Leaf) : (s.setLeaf l).trc.divCount = s.trc.divCount := by rw [(setLeaf_frame s l).rest]
@[simp] theorem setLeaf_trc_droppedRun (s : State) (l : Leaf) : (s.setLeaf l).trc.droppedRun = s.trc.droppedRun := by rw [(setLeaf_frame s l).rest]
@[simp] theorem setLeaf_trc_written (s : State) (l : Leaf) : (s.setLeaf l).trc.written = s.trc.written := by rw [(setLeaf_frame s l).rest]
@[simp] theorem setLeaf_trc_postLeft (s : State) (l : Leaf) : (s.setLeaf l).trc.postLeft = s.trc.postLeft := by rw [(setLeaf_frame s l).rest]
@[simp] theorem setLeaf_trc_lostSet (s : State) (l : Leaf) : (s.setLeaf l).trc.lostSet = s.trc.lostSet := by rw [(setLeaf_frame s l).rest]
@[simp] theorem setLeaf_trc_stallSet (s : State) (l : Leaf) : (s.setLeaf l).trc.stallSet = s.trc.stallSet := by rw [(setLeaf_frame s l).rest]
@[simp] theorem setLeaf_trc_startTag (s : State) (l : Leaf) : (s.setLeaf l).trc.startTag = s.trc.startTag := by rw [(setLeaf_frame s l).rest]
@[simp] theorem setLeaf_trc_stopSeq (s : State) (l : Leaf) : (s.setLeaf l).trc.stopSeq = s.trc.stopSeq := by rw [(setLeaf_frame s l).rest]
@[simp] theorem setLeaf_trc_resumed (s : State) (l : Leaf) : (s.setLeaf l).trc.resumed = s.trc.resumed := by rw [(setLeaf_frame s l).rest]

/-! ### Leaves set -/

@[simp] theorem setLeaves_pending (s : State) (l : List Leaf) : (s.setLeaves l).pending = s.pending := by rw [(setLeaves_frame s l).rest]
@[simp] theorem setLeaves_shadow (s : State) (l : List Leaf) : (s.setLeaves l).shadow = s.shadow := by rw [(setLeaves_frame s l).rest]
@[simp] theorem setLeaves_goWait (s : State) (l : List Leaf) : (s.setLeaves l).goWait = s.goWait := by rw [(setLeaves_frame s l).rest]
@[simp] theorem setLeaves_now (s : State) (l : List Leaf) : (s.setLeaves l).now = s.now := by rw [(setLeaves_frame s l).rest]
@[simp] theorem setLeaves_elapsed (s : State) (l : List Leaf) : (s.setLeaves l).elapsed = s.elapsed := by rw [(setLeaves_frame s l).rest]
@[simp] theorem setLeaves_fresh (s : State) (l : List Leaf) : (s.setLeaves l).fresh = s.fresh := by rw [(setLeaves_frame s l).rest]
@[simp] theorem setLeaves_sent (s : State) (l : List Leaf) : (s.setLeaves l).sent = s.sent := by rw [(setLeaves_frame s l).rest]
@[simp] theorem setLeaves_pow (s : State) (l : List Leaf) : (s.setLeaves l).pow = s.pow := by rw [(setLeaves_frame s l).rest]
@[simp] theorem setLeaves_openTags (s : State) (l : List Leaf) : (s.setLeaves l).openTags = s.openTags := by rw [(setLeaves_frame s l).rest]
@[simp] theorem setLeaves_quarantine (s : State) (l : List Leaf) : (s.setLeaves l).quarantine = s.quarantine := by rw [(setLeaves_frame s l).rest]
@[simp] theorem setLeaves_recStore (s : State) (l : List Leaf) : (s.setLeaves l).recStore = s.recStore := by rw [(setLeaves_frame s l).rest]
@[simp] theorem setLeaves_pci (s : State) (l : List Leaf) : (s.setLeaves l).pci = s.pci := by rw [(setLeaves_frame s l).rest]
@[simp] theorem setLeaves_loopResult (s : State) (l : List Leaf) : (s.setLeaves l).loopResult = s.loopResult := by rw [(setLeaves_frame s l).rest]
@[simp] theorem setLeaves_loopOut (s : State) (l : List Leaf) : (s.setLeaves l).loopOut = s.loopOut := by rw [(setLeaves_frame s l).rest]
@[simp] theorem setLeaves_cal (s : State) (l : List Leaf) : (s.setLeaves l).cal = s.cal := by rw [(setLeaves_frame s l).rest]
@[simp] theorem setLeaves_calKept (s : State) (l : List Leaf) : (s.setLeaves l).calKept = s.calKept := by rw [(setLeaves_frame s l).rest]
@[simp] theorem setLeaves_que (s : State) (l : List Leaf) : (s.setLeaves l).que = s.que := by rw [(setLeaves_frame s l).rest]
@[simp] theorem setLeaves_mem (s : State) (l : List Leaf) : (s.setLeaves l).mem = s.mem := by rw [(setLeaves_frame s l).rest]
@[simp] theorem setLeaves_cells (s : State) (l : List Leaf) : (s.setLeaves l).cells = s.cells := by rw [(setLeaves_frame s l).rest]
@[simp] theorem setLeaves_ecc (s : State) (l : List Leaf) : (s.setLeaves l).ecc = s.ecc := by rw [(setLeaves_frame s l).rest]
@[simp] theorem setLeaves_mir (s : State) (l : List Leaf) : (s.setLeaves l).mir = s.mir := by rw [(setLeaves_frame s l).rest]
@[simp] theorem setLeaves_erg (s : State) (l : List Leaf) : (s.setLeaves l).erg = s.erg := by rw [(setLeaves_frame s l).rest]
@[simp] theorem setLeaves_opt (s : State) (l : List Leaf) : (s.setLeaves l).opt = s.opt := by rw [(setLeaves_frame s l).rest]
@[simp] theorem setLeaves_drv (s : State) (l : List Leaf) : (s.setLeaves l).drv = s.drv := by rw [(setLeaves_frame s l).rest]
@[simp] theorem setLeaves_maps (s : State) (l : List Leaf) : (s.setLeaves l).maps = s.maps := by rw [(setLeaves_frame s l).rest]
@[simp] theorem setLeaves_nand (s : State) (l : List Leaf) : (s.setLeaves l).nand = s.nand := by rw [(setLeaves_frame s l).rest]
@[simp] theorem setLeaves_lib (s : State) (l : List Leaf) : (s.setLeaves l).lib = s.lib := by rw [(setLeaves_frame s l).rest]
@[simp] theorem setLeaves_ecd (s : State) (l : List Leaf) : (s.setLeaves l).ecd = s.ecd := by rw [(setLeaves_frame s l).rest]
@[simp] theorem setLeaves_avg (s : State) (l : List Leaf) : (s.setLeaves l).avg = s.avg := by rw [(setLeaves_frame s l).rest]
@[simp] theorem setLeaves_chn (s : State) (l : List Leaf) : (s.setLeaves l).chn = s.chn := by rw [(setLeaves_frame s l).rest]
@[simp] theorem setLeaves_ryl (s : State) (l : List Leaf) : (s.setLeaves l).ryl = s.ryl := by rw [(setLeaves_frame s l).rest]
@[simp] theorem setLeaves_aud (s : State) (l : List Leaf) : (s.setLeaves l).aud = s.aud := by rw [(setLeaves_frame s l).rest]
@[simp] theorem setLeaves_tap (s : State) (l : List Leaf) : (s.setLeaves l).tap = s.tap := by rw [(setLeaves_frame s l).rest]
@[simp] theorem setLeaves_recd_eraseTag (s : State) (l : List Leaf) : (s.setLeaves l).recd.eraseTag = s.recd.eraseTag := by rw [(setLeaves_frame s l).rest]
@[simp] theorem setLeaves_recd_noNandSet (s : State) (l : List Leaf) : (s.setLeaves l).recd.noNandSet = s.recd.noNandSet := by rw [(setLeaves_frame s l).rest]
@[simp] theorem setLeaves_recd_erasedBelow (s : State) (l : List Leaf) : (s.setLeaves l).recd.erasedBelow = s.recd.erasedBelow := by rw [(setLeaves_frame s l).rest]
@[simp] theorem setLeaves_recd_pageSeq (s : State) (l : List Leaf) : (s.setLeaves l).recd.pageSeq = s.recd.pageSeq := by rw [(setLeaves_frame s l).rest]
@[simp] theorem setLeaves_recd_active (s : State) (l : List Leaf) : (s.setLeaves l).recd.active = s.recd.active := by rw [(setLeaves_frame s l).rest]
@[simp] theorem setLeaves_recd_lastPageSec (s : State) (l : List Leaf) : (s.setLeaves l).recd.lastPageSec = s.recd.lastPageSec := by rw [(setLeaves_frame s l).rest]
@[simp] theorem setLeaves_recd_restored (s : State) (l : List Leaf) : (s.setLeaves l).recd.restored = s.recd.restored := by rw [(setLeaves_frame s l).rest]
@[simp] theorem setLeaves_recd_flushGo (s : State) (l : List Leaf) : (s.setLeaves l).recd.flushGo = s.recd.flushGo := by rw [(setLeaves_frame s l).rest]
@[simp] theorem setLeaves_recd_again (s : State) (l : List Leaf) : (s.setLeaves l).recd.again = s.recd.again := by rw [(setLeaves_frame s l).rest]
@[simp] theorem setLeaves_trc_queue (s : State) (l : List Leaf) : (s.setLeaves l).trc.queue = s.trc.queue := by rw [(setLeaves_frame s l).rest]
@[simp] theorem setLeaves_trc_dropNext (s : State) (l : List Leaf) : (s.setLeaves l).trc.dropNext = s.trc.dropNext := by rw [(setLeaves_frame s l).rest]
@[simp] theorem setLeaves_trc_divCount (s : State) (l : List Leaf) : (s.setLeaves l).trc.divCount = s.trc.divCount := by rw [(setLeaves_frame s l).rest]
@[simp] theorem setLeaves_trc_droppedRun (s : State) (l : List Leaf) : (s.setLeaves l).trc.droppedRun = s.trc.droppedRun := by rw [(setLeaves_frame s l).rest]
@[simp] theorem setLeaves_trc_written (s : State) (l : List Leaf) : (s.setLeaves l).trc.written = s.trc.written := by rw [(setLeaves_frame s l).rest]
@[simp] theorem setLeaves_trc_postLeft (s : State) (l : List Leaf) : (s.setLeaves l).trc.postLeft = s.trc.postLeft := by rw [(setLeaves_frame s l).rest]
@[simp] theorem setLeaves_trc_lostSet (s : State) (l : List Leaf) : (s.setLeaves l).trc.lostSet = s.trc.lostSet := by rw [(setLeaves_frame s l).rest]
@[simp] theorem setLeaves_trc_stallSet (s : State) (l : List Leaf) : (s.setLeaves l).trc.stallSet = s.trc.stallSet := by rw [(setLeaves_frame s l).rest]
@[simp] theorem setLeaves_trc_startTag (s : State) (l : List Leaf) : (s.setLeaves l).trc.startTag = s.trc.startTag := by rw [(setLeaves_frame s l).rest]
@[simp] theorem setLeaves_trc_stopSeq (s : State) (l : List Leaf) : (s.setLeaves l).trc.stopSeq = s.trc.stopSeq := by rw [(setLeaves_frame s l).rest]
@[simp] theorem setLeaves_trc_resumed (s : State) (l : List Leaf) : (s.setLeaves l).trc.resumed = s.trc.resumed := by rw [(setLeaves_frame s l).rest]

/-! ### A leaf set on a condition -/

@[simp] theorem leafIf_pending (s : State) (c : Bool) (l : Leaf) : (s.leafIf c l).pending = s.pending := by rw [(leafIf_frame s c l).rest]
@[simp] theorem leafIf_shadow (s : State) (c : Bool) (l : Leaf) : (s.leafIf c l).shadow = s.shadow := by rw [(leafIf_frame s c l).rest]
@[simp] theorem leafIf_goWait (s : State) (c : Bool) (l : Leaf) : (s.leafIf c l).goWait = s.goWait := by rw [(leafIf_frame s c l).rest]
@[simp] theorem leafIf_now (s : State) (c : Bool) (l : Leaf) : (s.leafIf c l).now = s.now := by rw [(leafIf_frame s c l).rest]
@[simp] theorem leafIf_elapsed (s : State) (c : Bool) (l : Leaf) : (s.leafIf c l).elapsed = s.elapsed := by rw [(leafIf_frame s c l).rest]
@[simp] theorem leafIf_fresh (s : State) (c : Bool) (l : Leaf) : (s.leafIf c l).fresh = s.fresh := by rw [(leafIf_frame s c l).rest]
@[simp] theorem leafIf_sent (s : State) (c : Bool) (l : Leaf) : (s.leafIf c l).sent = s.sent := by rw [(leafIf_frame s c l).rest]
@[simp] theorem leafIf_pow (s : State) (c : Bool) (l : Leaf) : (s.leafIf c l).pow = s.pow := by rw [(leafIf_frame s c l).rest]
@[simp] theorem leafIf_openTags (s : State) (c : Bool) (l : Leaf) : (s.leafIf c l).openTags = s.openTags := by rw [(leafIf_frame s c l).rest]
@[simp] theorem leafIf_quarantine (s : State) (c : Bool) (l : Leaf) : (s.leafIf c l).quarantine = s.quarantine := by rw [(leafIf_frame s c l).rest]
@[simp] theorem leafIf_recStore (s : State) (c : Bool) (l : Leaf) : (s.leafIf c l).recStore = s.recStore := by rw [(leafIf_frame s c l).rest]
@[simp] theorem leafIf_pci (s : State) (c : Bool) (l : Leaf) : (s.leafIf c l).pci = s.pci := by rw [(leafIf_frame s c l).rest]
@[simp] theorem leafIf_loopResult (s : State) (c : Bool) (l : Leaf) : (s.leafIf c l).loopResult = s.loopResult := by rw [(leafIf_frame s c l).rest]
@[simp] theorem leafIf_loopOut (s : State) (c : Bool) (l : Leaf) : (s.leafIf c l).loopOut = s.loopOut := by rw [(leafIf_frame s c l).rest]
@[simp] theorem leafIf_cal (s : State) (c : Bool) (l : Leaf) : (s.leafIf c l).cal = s.cal := by rw [(leafIf_frame s c l).rest]
@[simp] theorem leafIf_calKept (s : State) (c : Bool) (l : Leaf) : (s.leafIf c l).calKept = s.calKept := by rw [(leafIf_frame s c l).rest]
@[simp] theorem leafIf_que (s : State) (c : Bool) (l : Leaf) : (s.leafIf c l).que = s.que := by rw [(leafIf_frame s c l).rest]
@[simp] theorem leafIf_mem (s : State) (c : Bool) (l : Leaf) : (s.leafIf c l).mem = s.mem := by rw [(leafIf_frame s c l).rest]
@[simp] theorem leafIf_cells (s : State) (c : Bool) (l : Leaf) : (s.leafIf c l).cells = s.cells := by rw [(leafIf_frame s c l).rest]
@[simp] theorem leafIf_ecc (s : State) (c : Bool) (l : Leaf) : (s.leafIf c l).ecc = s.ecc := by rw [(leafIf_frame s c l).rest]
@[simp] theorem leafIf_mir (s : State) (c : Bool) (l : Leaf) : (s.leafIf c l).mir = s.mir := by rw [(leafIf_frame s c l).rest]
@[simp] theorem leafIf_erg (s : State) (c : Bool) (l : Leaf) : (s.leafIf c l).erg = s.erg := by rw [(leafIf_frame s c l).rest]
@[simp] theorem leafIf_opt (s : State) (c : Bool) (l : Leaf) : (s.leafIf c l).opt = s.opt := by rw [(leafIf_frame s c l).rest]
@[simp] theorem leafIf_drv (s : State) (c : Bool) (l : Leaf) : (s.leafIf c l).drv = s.drv := by rw [(leafIf_frame s c l).rest]
@[simp] theorem leafIf_maps (s : State) (c : Bool) (l : Leaf) : (s.leafIf c l).maps = s.maps := by rw [(leafIf_frame s c l).rest]
@[simp] theorem leafIf_nand (s : State) (c : Bool) (l : Leaf) : (s.leafIf c l).nand = s.nand := by rw [(leafIf_frame s c l).rest]
@[simp] theorem leafIf_lib (s : State) (c : Bool) (l : Leaf) : (s.leafIf c l).lib = s.lib := by rw [(leafIf_frame s c l).rest]
@[simp] theorem leafIf_ecd (s : State) (c : Bool) (l : Leaf) : (s.leafIf c l).ecd = s.ecd := by rw [(leafIf_frame s c l).rest]
@[simp] theorem leafIf_avg (s : State) (c : Bool) (l : Leaf) : (s.leafIf c l).avg = s.avg := by rw [(leafIf_frame s c l).rest]
@[simp] theorem leafIf_chn (s : State) (c : Bool) (l : Leaf) : (s.leafIf c l).chn = s.chn := by rw [(leafIf_frame s c l).rest]
@[simp] theorem leafIf_ryl (s : State) (c : Bool) (l : Leaf) : (s.leafIf c l).ryl = s.ryl := by rw [(leafIf_frame s c l).rest]
@[simp] theorem leafIf_aud (s : State) (c : Bool) (l : Leaf) : (s.leafIf c l).aud = s.aud := by rw [(leafIf_frame s c l).rest]
@[simp] theorem leafIf_tap (s : State) (c : Bool) (l : Leaf) : (s.leafIf c l).tap = s.tap := by rw [(leafIf_frame s c l).rest]
@[simp] theorem leafIf_recd_eraseTag (s : State) (c : Bool) (l : Leaf) : (s.leafIf c l).recd.eraseTag = s.recd.eraseTag := by rw [(leafIf_frame s c l).rest]
@[simp] theorem leafIf_recd_noNandSet (s : State) (c : Bool) (l : Leaf) : (s.leafIf c l).recd.noNandSet = s.recd.noNandSet := by rw [(leafIf_frame s c l).rest]
@[simp] theorem leafIf_recd_erasedBelow (s : State) (c : Bool) (l : Leaf) : (s.leafIf c l).recd.erasedBelow = s.recd.erasedBelow := by rw [(leafIf_frame s c l).rest]
@[simp] theorem leafIf_recd_pageSeq (s : State) (c : Bool) (l : Leaf) : (s.leafIf c l).recd.pageSeq = s.recd.pageSeq := by rw [(leafIf_frame s c l).rest]
@[simp] theorem leafIf_recd_active (s : State) (c : Bool) (l : Leaf) : (s.leafIf c l).recd.active = s.recd.active := by rw [(leafIf_frame s c l).rest]
@[simp] theorem leafIf_recd_lastPageSec (s : State) (c : Bool) (l : Leaf) : (s.leafIf c l).recd.lastPageSec = s.recd.lastPageSec := by rw [(leafIf_frame s c l).rest]
@[simp] theorem leafIf_recd_restored (s : State) (c : Bool) (l : Leaf) : (s.leafIf c l).recd.restored = s.recd.restored := by rw [(leafIf_frame s c l).rest]
@[simp] theorem leafIf_recd_flushGo (s : State) (c : Bool) (l : Leaf) : (s.leafIf c l).recd.flushGo = s.recd.flushGo := by rw [(leafIf_frame s c l).rest]
@[simp] theorem leafIf_recd_again (s : State) (c : Bool) (l : Leaf) : (s.leafIf c l).recd.again = s.recd.again := by rw [(leafIf_frame s c l).rest]
@[simp] theorem leafIf_trc_queue (s : State) (c : Bool) (l : Leaf) : (s.leafIf c l).trc.queue = s.trc.queue := by rw [(leafIf_frame s c l).rest]
@[simp] theorem leafIf_trc_dropNext (s : State) (c : Bool) (l : Leaf) : (s.leafIf c l).trc.dropNext = s.trc.dropNext := by rw [(leafIf_frame s c l).rest]
@[simp] theorem leafIf_trc_divCount (s : State) (c : Bool) (l : Leaf) : (s.leafIf c l).trc.divCount = s.trc.divCount := by rw [(leafIf_frame s c l).rest]
@[simp] theorem leafIf_trc_droppedRun (s : State) (c : Bool) (l : Leaf) : (s.leafIf c l).trc.droppedRun = s.trc.droppedRun := by rw [(leafIf_frame s c l).rest]
@[simp] theorem leafIf_trc_written (s : State) (c : Bool) (l : Leaf) : (s.leafIf c l).trc.written = s.trc.written := by rw [(leafIf_frame s c l).rest]
@[simp] theorem leafIf_trc_postLeft (s : State) (c : Bool) (l : Leaf) : (s.leafIf c l).trc.postLeft = s.trc.postLeft := by rw [(leafIf_frame s c l).rest]
@[simp] theorem leafIf_trc_lostSet (s : State) (c : Bool) (l : Leaf) : (s.leafIf c l).trc.lostSet = s.trc.lostSet := by rw [(leafIf_frame s c l).rest]
@[simp] theorem leafIf_trc_stallSet (s : State) (c : Bool) (l : Leaf) : (s.leafIf c l).trc.stallSet = s.trc.stallSet := by rw [(leafIf_frame s c l).rest]
@[simp] theorem leafIf_trc_startTag (s : State) (c : Bool) (l : Leaf) : (s.leafIf c l).trc.startTag = s.trc.startTag := by rw [(leafIf_frame s c l).rest]
@[simp] theorem leafIf_trc_stopSeq (s : State) (c : Bool) (l : Leaf) : (s.leafIf c l).trc.stopSeq = s.trc.stopSeq := by rw [(leafIf_frame s c l).rest]
@[simp] theorem leafIf_trc_resumed (s : State) (c : Bool) (l : Leaf) : (s.leafIf c l).trc.resumed = s.trc.resumed := by rw [(leafIf_frame s c l).rest]

/-! ### An event recorded -/

@[simp] theorem event_pending (s : State) (en : Bool) (code page slice sev : Nat) (data : List Byte) : (s.event en code page slice sev data).pending = s.pending := by rw [(event_frame s en code page slice sev data).rest]
@[simp] theorem event_shadow (s : State) (en : Bool) (code page slice sev : Nat) (data : List Byte) : (s.event en code page slice sev data).shadow = s.shadow := by rw [(event_frame s en code page slice sev data).rest]
@[simp] theorem event_goWait (s : State) (en : Bool) (code page slice sev : Nat) (data : List Byte) : (s.event en code page slice sev data).goWait = s.goWait := by rw [(event_frame s en code page slice sev data).rest]
@[simp] theorem event_now (s : State) (en : Bool) (code page slice sev : Nat) (data : List Byte) : (s.event en code page slice sev data).now = s.now := by rw [(event_frame s en code page slice sev data).rest]
@[simp] theorem event_elapsed (s : State) (en : Bool) (code page slice sev : Nat) (data : List Byte) : (s.event en code page slice sev data).elapsed = s.elapsed := by rw [(event_frame s en code page slice sev data).rest]
@[simp] theorem event_fresh (s : State) (en : Bool) (code page slice sev : Nat) (data : List Byte) : (s.event en code page slice sev data).fresh = s.fresh := by rw [(event_frame s en code page slice sev data).rest]
@[simp] theorem event_sent (s : State) (en : Bool) (code page slice sev : Nat) (data : List Byte) : (s.event en code page slice sev data).sent = s.sent := by rw [(event_frame s en code page slice sev data).rest]
@[simp] theorem event_pow (s : State) (en : Bool) (code page slice sev : Nat) (data : List Byte) : (s.event en code page slice sev data).pow = s.pow := by rw [(event_frame s en code page slice sev data).rest]
@[simp] theorem event_openTags (s : State) (en : Bool) (code page slice sev : Nat) (data : List Byte) : (s.event en code page slice sev data).openTags = s.openTags := by rw [(event_frame s en code page slice sev data).rest]
@[simp] theorem event_quarantine (s : State) (en : Bool) (code page slice sev : Nat) (data : List Byte) : (s.event en code page slice sev data).quarantine = s.quarantine := by rw [(event_frame s en code page slice sev data).rest]
@[simp] theorem event_recStore (s : State) (en : Bool) (code page slice sev : Nat) (data : List Byte) : (s.event en code page slice sev data).recStore = s.recStore := by rw [(event_frame s en code page slice sev data).rest]
@[simp] theorem event_pci (s : State) (en : Bool) (code page slice sev : Nat) (data : List Byte) : (s.event en code page slice sev data).pci = s.pci := by rw [(event_frame s en code page slice sev data).rest]
@[simp] theorem event_loopResult (s : State) (en : Bool) (code page slice sev : Nat) (data : List Byte) : (s.event en code page slice sev data).loopResult = s.loopResult := by rw [(event_frame s en code page slice sev data).rest]
@[simp] theorem event_loopOut (s : State) (en : Bool) (code page slice sev : Nat) (data : List Byte) : (s.event en code page slice sev data).loopOut = s.loopOut := by rw [(event_frame s en code page slice sev data).rest]
@[simp] theorem event_cal (s : State) (en : Bool) (code page slice sev : Nat) (data : List Byte) : (s.event en code page slice sev data).cal = s.cal := by rw [(event_frame s en code page slice sev data).rest]
@[simp] theorem event_calKept (s : State) (en : Bool) (code page slice sev : Nat) (data : List Byte) : (s.event en code page slice sev data).calKept = s.calKept := by rw [(event_frame s en code page slice sev data).rest]
@[simp] theorem event_que (s : State) (en : Bool) (code page slice sev : Nat) (data : List Byte) : (s.event en code page slice sev data).que = s.que := by rw [(event_frame s en code page slice sev data).rest]
@[simp] theorem event_mem (s : State) (en : Bool) (code page slice sev : Nat) (data : List Byte) : (s.event en code page slice sev data).mem = s.mem := by rw [(event_frame s en code page slice sev data).rest]
@[simp] theorem event_cells (s : State) (en : Bool) (code page slice sev : Nat) (data : List Byte) : (s.event en code page slice sev data).cells = s.cells := by rw [(event_frame s en code page slice sev data).rest]
@[simp] theorem event_ecc (s : State) (en : Bool) (code page slice sev : Nat) (data : List Byte) : (s.event en code page slice sev data).ecc = s.ecc := by rw [(event_frame s en code page slice sev data).rest]
@[simp] theorem event_mir (s : State) (en : Bool) (code page slice sev : Nat) (data : List Byte) : (s.event en code page slice sev data).mir = s.mir := by rw [(event_frame s en code page slice sev data).rest]
@[simp] theorem event_erg (s : State) (en : Bool) (code page slice sev : Nat) (data : List Byte) : (s.event en code page slice sev data).erg = s.erg := by rw [(event_frame s en code page slice sev data).rest]
@[simp] theorem event_opt (s : State) (en : Bool) (code page slice sev : Nat) (data : List Byte) : (s.event en code page slice sev data).opt = s.opt := by rw [(event_frame s en code page slice sev data).rest]
@[simp] theorem event_drv (s : State) (en : Bool) (code page slice sev : Nat) (data : List Byte) : (s.event en code page slice sev data).drv = s.drv := by rw [(event_frame s en code page slice sev data).rest]
@[simp] theorem event_maps (s : State) (en : Bool) (code page slice sev : Nat) (data : List Byte) : (s.event en code page slice sev data).maps = s.maps := by rw [(event_frame s en code page slice sev data).rest]
@[simp] theorem event_nand (s : State) (en : Bool) (code page slice sev : Nat) (data : List Byte) : (s.event en code page slice sev data).nand = s.nand := by rw [(event_frame s en code page slice sev data).rest]
@[simp] theorem event_lib (s : State) (en : Bool) (code page slice sev : Nat) (data : List Byte) : (s.event en code page slice sev data).lib = s.lib := by rw [(event_frame s en code page slice sev data).rest]
@[simp] theorem event_ecd (s : State) (en : Bool) (code page slice sev : Nat) (data : List Byte) : (s.event en code page slice sev data).ecd = s.ecd := by rw [(event_frame s en code page slice sev data).rest]
@[simp] theorem event_avg (s : State) (en : Bool) (code page slice sev : Nat) (data : List Byte) : (s.event en code page slice sev data).avg = s.avg := by rw [(event_frame s en code page slice sev data).rest]
@[simp] theorem event_chn (s : State) (en : Bool) (code page slice sev : Nat) (data : List Byte) : (s.event en code page slice sev data).chn = s.chn := by rw [(event_frame s en code page slice sev data).rest]
@[simp] theorem event_ryl (s : State) (en : Bool) (code page slice sev : Nat) (data : List Byte) : (s.event en code page slice sev data).ryl = s.ryl := by rw [(event_frame s en code page slice sev data).rest]
@[simp] theorem event_aud (s : State) (en : Bool) (code page slice sev : Nat) (data : List Byte) : (s.event en code page slice sev data).aud = s.aud := by rw [(event_frame s en code page slice sev data).rest]
@[simp] theorem event_tap (s : State) (en : Bool) (code page slice sev : Nat) (data : List Byte) : (s.event en code page slice sev data).tap = s.tap := by rw [(event_frame s en code page slice sev data).rest]
@[simp] theorem event_recd_eraseTag (s : State) (en : Bool) (code page slice sev : Nat) (data : List Byte) : (s.event en code page slice sev data).recd.eraseTag = s.recd.eraseTag := by rw [(event_frame s en code page slice sev data).rest]
@[simp] theorem event_recd_noNandSet (s : State) (en : Bool) (code page slice sev : Nat) (data : List Byte) : (s.event en code page slice sev data).recd.noNandSet = s.recd.noNandSet := by rw [(event_frame s en code page slice sev data).rest]
@[simp] theorem event_recd_erasedBelow (s : State) (en : Bool) (code page slice sev : Nat) (data : List Byte) : (s.event en code page slice sev data).recd.erasedBelow = s.recd.erasedBelow := by rw [(event_frame s en code page slice sev data).rest]
@[simp] theorem event_recd_pageSeq (s : State) (en : Bool) (code page slice sev : Nat) (data : List Byte) : (s.event en code page slice sev data).recd.pageSeq = s.recd.pageSeq := by rw [(event_frame s en code page slice sev data).rest]
@[simp] theorem event_recd_active (s : State) (en : Bool) (code page slice sev : Nat) (data : List Byte) : (s.event en code page slice sev data).recd.active = s.recd.active := by rw [(event_frame s en code page slice sev data).rest]
@[simp] theorem event_recd_lastPageSec (s : State) (en : Bool) (code page slice sev : Nat) (data : List Byte) : (s.event en code page slice sev data).recd.lastPageSec = s.recd.lastPageSec := by rw [(event_frame s en code page slice sev data).rest]
@[simp] theorem event_recd_restored (s : State) (en : Bool) (code page slice sev : Nat) (data : List Byte) : (s.event en code page slice sev data).recd.restored = s.recd.restored := by rw [(event_frame s en code page slice sev data).rest]
@[simp] theorem event_recd_flushGo (s : State) (en : Bool) (code page slice sev : Nat) (data : List Byte) : (s.event en code page slice sev data).recd.flushGo = s.recd.flushGo := by rw [(event_frame s en code page slice sev data).rest]
@[simp] theorem event_recd_again (s : State) (en : Bool) (code page slice sev : Nat) (data : List Byte) : (s.event en code page slice sev data).recd.again = s.recd.again := by rw [(event_frame s en code page slice sev data).rest]
@[simp] theorem event_trc_queue (s : State) (en : Bool) (code page slice sev : Nat) (data : List Byte) : (s.event en code page slice sev data).trc.queue = s.trc.queue := by rw [(event_frame s en code page slice sev data).rest]
@[simp] theorem event_trc_dropNext (s : State) (en : Bool) (code page slice sev : Nat) (data : List Byte) : (s.event en code page slice sev data).trc.dropNext = s.trc.dropNext := by rw [(event_frame s en code page slice sev data).rest]
@[simp] theorem event_trc_divCount (s : State) (en : Bool) (code page slice sev : Nat) (data : List Byte) : (s.event en code page slice sev data).trc.divCount = s.trc.divCount := by rw [(event_frame s en code page slice sev data).rest]
@[simp] theorem event_trc_droppedRun (s : State) (en : Bool) (code page slice sev : Nat) (data : List Byte) : (s.event en code page slice sev data).trc.droppedRun = s.trc.droppedRun := by rw [(event_frame s en code page slice sev data).rest]
@[simp] theorem event_trc_written (s : State) (en : Bool) (code page slice sev : Nat) (data : List Byte) : (s.event en code page slice sev data).trc.written = s.trc.written := by rw [(event_frame s en code page slice sev data).rest]
@[simp] theorem event_trc_postLeft (s : State) (en : Bool) (code page slice sev : Nat) (data : List Byte) : (s.event en code page slice sev data).trc.postLeft = s.trc.postLeft := by rw [(event_frame s en code page slice sev data).rest]
@[simp] theorem event_trc_lostSet (s : State) (en : Bool) (code page slice sev : Nat) (data : List Byte) : (s.event en code page slice sev data).trc.lostSet = s.trc.lostSet := by rw [(event_frame s en code page slice sev data).rest]
@[simp] theorem event_trc_stallSet (s : State) (en : Bool) (code page slice sev : Nat) (data : List Byte) : (s.event en code page slice sev data).trc.stallSet = s.trc.stallSet := by rw [(event_frame s en code page slice sev data).rest]
@[simp] theorem event_trc_startTag (s : State) (en : Bool) (code page slice sev : Nat) (data : List Byte) : (s.event en code page slice sev data).trc.startTag = s.trc.startTag := by rw [(event_frame s en code page slice sev data).rest]
@[simp] theorem event_trc_stopSeq (s : State) (en : Bool) (code page slice sev : Nat) (data : List Byte) : (s.event en code page slice sev data).trc.stopSeq = s.trc.stopSeq := by rw [(event_frame s en code page slice sev data).rest]
@[simp] theorem event_trc_resumed (s : State) (en : Bool) (code page slice sev : Nat) (data : List Byte) : (s.event en code page slice sev data).trc.resumed = s.trc.resumed := by rw [(event_frame s en code page slice sev data).rest]

/-! ### A counter raised -/

@[simp] theorem add_pending (s : State) (f : Fld) (n : Nat) : (s.add f n).pending = s.pending := by rw [(add_frame s f n).rest]
@[simp] theorem add_shadow (s : State) (f : Fld) (n : Nat) : (s.add f n).shadow = s.shadow := by rw [(add_frame s f n).rest]
@[simp] theorem add_goWait (s : State) (f : Fld) (n : Nat) : (s.add f n).goWait = s.goWait := by rw [(add_frame s f n).rest]
@[simp] theorem add_now (s : State) (f : Fld) (n : Nat) : (s.add f n).now = s.now := by rw [(add_frame s f n).rest]
@[simp] theorem add_elapsed (s : State) (f : Fld) (n : Nat) : (s.add f n).elapsed = s.elapsed := by rw [(add_frame s f n).rest]
@[simp] theorem add_fresh (s : State) (f : Fld) (n : Nat) : (s.add f n).fresh = s.fresh := by rw [(add_frame s f n).rest]
@[simp] theorem add_sent (s : State) (f : Fld) (n : Nat) : (s.add f n).sent = s.sent := by rw [(add_frame s f n).rest]
@[simp] theorem add_pow (s : State) (f : Fld) (n : Nat) : (s.add f n).pow = s.pow := by rw [(add_frame s f n).rest]
@[simp] theorem add_openTags (s : State) (f : Fld) (n : Nat) : (s.add f n).openTags = s.openTags := by rw [(add_frame s f n).rest]
@[simp] theorem add_quarantine (s : State) (f : Fld) (n : Nat) : (s.add f n).quarantine = s.quarantine := by rw [(add_frame s f n).rest]
@[simp] theorem add_recStore (s : State) (f : Fld) (n : Nat) : (s.add f n).recStore = s.recStore := by rw [(add_frame s f n).rest]
@[simp] theorem add_pci (s : State) (f : Fld) (n : Nat) : (s.add f n).pci = s.pci := by rw [(add_frame s f n).rest]
@[simp] theorem add_loopResult (s : State) (f : Fld) (n : Nat) : (s.add f n).loopResult = s.loopResult := by rw [(add_frame s f n).rest]
@[simp] theorem add_loopOut (s : State) (f : Fld) (n : Nat) : (s.add f n).loopOut = s.loopOut := by rw [(add_frame s f n).rest]
@[simp] theorem add_cal (s : State) (f : Fld) (n : Nat) : (s.add f n).cal = s.cal := by rw [(add_frame s f n).rest]
@[simp] theorem add_calKept (s : State) (f : Fld) (n : Nat) : (s.add f n).calKept = s.calKept := by rw [(add_frame s f n).rest]
@[simp] theorem add_que (s : State) (f : Fld) (n : Nat) : (s.add f n).que = s.que := by rw [(add_frame s f n).rest]
@[simp] theorem add_mem (s : State) (f : Fld) (n : Nat) : (s.add f n).mem = s.mem := by rw [(add_frame s f n).rest]
@[simp] theorem add_cells (s : State) (f : Fld) (n : Nat) : (s.add f n).cells = s.cells := by rw [(add_frame s f n).rest]
@[simp] theorem add_ecc (s : State) (f : Fld) (n : Nat) : (s.add f n).ecc = s.ecc := by rw [(add_frame s f n).rest]
@[simp] theorem add_mir (s : State) (f : Fld) (n : Nat) : (s.add f n).mir = s.mir := by rw [(add_frame s f n).rest]
@[simp] theorem add_erg (s : State) (f : Fld) (n : Nat) : (s.add f n).erg = s.erg := by rw [(add_frame s f n).rest]
@[simp] theorem add_opt (s : State) (f : Fld) (n : Nat) : (s.add f n).opt = s.opt := by rw [(add_frame s f n).rest]
@[simp] theorem add_drv (s : State) (f : Fld) (n : Nat) : (s.add f n).drv = s.drv := by rw [(add_frame s f n).rest]
@[simp] theorem add_maps (s : State) (f : Fld) (n : Nat) : (s.add f n).maps = s.maps := by rw [(add_frame s f n).rest]
@[simp] theorem add_nand (s : State) (f : Fld) (n : Nat) : (s.add f n).nand = s.nand := by rw [(add_frame s f n).rest]
@[simp] theorem add_lib (s : State) (f : Fld) (n : Nat) : (s.add f n).lib = s.lib := by rw [(add_frame s f n).rest]
@[simp] theorem add_ecd (s : State) (f : Fld) (n : Nat) : (s.add f n).ecd = s.ecd := by rw [(add_frame s f n).rest]
@[simp] theorem add_avg (s : State) (f : Fld) (n : Nat) : (s.add f n).avg = s.avg := by rw [(add_frame s f n).rest]
@[simp] theorem add_chn (s : State) (f : Fld) (n : Nat) : (s.add f n).chn = s.chn := by rw [(add_frame s f n).rest]
@[simp] theorem add_ryl (s : State) (f : Fld) (n : Nat) : (s.add f n).ryl = s.ryl := by rw [(add_frame s f n).rest]
@[simp] theorem add_aud (s : State) (f : Fld) (n : Nat) : (s.add f n).aud = s.aud := by rw [(add_frame s f n).rest]
@[simp] theorem add_tap (s : State) (f : Fld) (n : Nat) : (s.add f n).tap = s.tap := by rw [(add_frame s f n).rest]
@[simp] theorem add_recd_eraseTag (s : State) (f : Fld) (n : Nat) : (s.add f n).recd.eraseTag = s.recd.eraseTag := by rw [(add_frame s f n).rest]
@[simp] theorem add_recd_noNandSet (s : State) (f : Fld) (n : Nat) : (s.add f n).recd.noNandSet = s.recd.noNandSet := by rw [(add_frame s f n).rest]
@[simp] theorem add_recd_erasedBelow (s : State) (f : Fld) (n : Nat) : (s.add f n).recd.erasedBelow = s.recd.erasedBelow := by rw [(add_frame s f n).rest]
@[simp] theorem add_recd_pageSeq (s : State) (f : Fld) (n : Nat) : (s.add f n).recd.pageSeq = s.recd.pageSeq := by rw [(add_frame s f n).rest]
@[simp] theorem add_recd_active (s : State) (f : Fld) (n : Nat) : (s.add f n).recd.active = s.recd.active := by rw [(add_frame s f n).rest]
@[simp] theorem add_recd_lastPageSec (s : State) (f : Fld) (n : Nat) : (s.add f n).recd.lastPageSec = s.recd.lastPageSec := by rw [(add_frame s f n).rest]
@[simp] theorem add_recd_restored (s : State) (f : Fld) (n : Nat) : (s.add f n).recd.restored = s.recd.restored := by rw [(add_frame s f n).rest]
@[simp] theorem add_recd_flushGo (s : State) (f : Fld) (n : Nat) : (s.add f n).recd.flushGo = s.recd.flushGo := by rw [(add_frame s f n).rest]
@[simp] theorem add_recd_again (s : State) (f : Fld) (n : Nat) : (s.add f n).recd.again = s.recd.again := by rw [(add_frame s f n).rest]
@[simp] theorem add_trc_queue (s : State) (f : Fld) (n : Nat) : (s.add f n).trc.queue = s.trc.queue := by rw [(add_frame s f n).rest]
@[simp] theorem add_trc_dropNext (s : State) (f : Fld) (n : Nat) : (s.add f n).trc.dropNext = s.trc.dropNext := by rw [(add_frame s f n).rest]
@[simp] theorem add_trc_divCount (s : State) (f : Fld) (n : Nat) : (s.add f n).trc.divCount = s.trc.divCount := by rw [(add_frame s f n).rest]
@[simp] theorem add_trc_droppedRun (s : State) (f : Fld) (n : Nat) : (s.add f n).trc.droppedRun = s.trc.droppedRun := by rw [(add_frame s f n).rest]
@[simp] theorem add_trc_written (s : State) (f : Fld) (n : Nat) : (s.add f n).trc.written = s.trc.written := by rw [(add_frame s f n).rest]
@[simp] theorem add_trc_postLeft (s : State) (f : Fld) (n : Nat) : (s.add f n).trc.postLeft = s.trc.postLeft := by rw [(add_frame s f n).rest]
@[simp] theorem add_trc_lostSet (s : State) (f : Fld) (n : Nat) : (s.add f n).trc.lostSet = s.trc.lostSet := by rw [(add_frame s f n).rest]
@[simp] theorem add_trc_stallSet (s : State) (f : Fld) (n : Nat) : (s.add f n).trc.stallSet = s.trc.stallSet := by rw [(add_frame s f n).rest]
@[simp] theorem add_trc_startTag (s : State) (f : Fld) (n : Nat) : (s.add f n).trc.startTag = s.trc.startTag := by rw [(add_frame s f n).rest]
@[simp] theorem add_trc_stopSeq (s : State) (f : Fld) (n : Nat) : (s.add f n).trc.stopSeq = s.trc.stopSeq := by rw [(add_frame s f n).rest]
@[simp] theorem add_trc_resumed (s : State) (f : Fld) (n : Nat) : (s.add f n).trc.resumed = s.trc.resumed := by rw [(add_frame s f n).rest]

/-! ### Fields after these -/

theorem setLeaves_rd (s : State) (l : List Leaf) {f : Fld} (h : logKey f.key = false) : (s.setLeaves l).rd f = s.rd f :=
  (setLeaves_frame s l).rd h

theorem leafIf_rd (s : State) (c : Bool) (l : Leaf) {f : Fld} (h : logKey f.key = false) : (s.leafIf c l).rd f = s.rd f :=
  (leafIf_frame s c l).rd h

theorem event_rd (s : State) (en : Bool) (code page slice sev : Nat) (data : List Byte) {f : Fld} (h : logKey f.key = false) :
    (s.event en code page slice sev data).rd f = s.rd f := (event_frame s en code page slice sev data).rd h

end Sys2Proof.Machine
end

