-- ==== Sys2Proof/Laws/Memory.lean ====
section
/-! SUPPORT. The laws of the sector cache's array: what a byte reads as after a write of it and of another, and that every
operation on the array keeps its canonical form. -/

namespace Sys2Proof.Machine

/-! ### Reading after writing -/

theorem cellGet_erase (l : List Host.Cell) (a x : Nat) : cellGet (cellErase l a) x = if x = a then 0 else cellGet l x := by
  induction l with
  | nil => simp [cellErase, cellGet]
  | cons p r ih =>
    obtain ⟨k, v⟩ := p
    unfold cellErase
    by_cases hk : k = a
    · rw [if_pos hk, ih]
      by_cases hx : x = a
      · simp [hx]
      · simp [cellGet, hx, show ¬k = x from fun e => hx (e ▸ hk)]
    · rw [if_neg hk]
      by_cases hx : k = x
      · subst hx
        simp [cellGet, hk]
      · simp only [cellGet, if_neg hx, ih]

theorem cellGet_insert (l : List Host.Cell) (a : Nat) (b : Byte) (x : Nat) :
    cellGet (cellInsert l a b) x = if x = a then b else cellGet l x := by
  induction l with
  | nil =>
    by_cases hx : x = a
    · simp [cellInsert, cellGet, hx]
    · simp [cellInsert, cellGet, hx, show ¬a = x from fun e => hx e.symm]
  | cons p r ih =>
    obtain ⟨k, v⟩ := p
    unfold cellInsert
    by_cases hx : x = a
    · subst hx
      split
      · simp [cellGet]
      · split
        · simp [cellGet]
        · rename_i hk
          simp [cellGet, hk, ih]
    · have hx' : ¬a = x := fun e => hx e.symm
      split
      · simp [cellGet, hx']
      · split
        · rename_i hk
          simp [cellGet, hx', show ¬k = x from fun e => hx (e ▸ hk)]
        · simp [cellGet, hx, ih]

/-- A byte reads as it was written, and every other byte as before. -/
theorem cellGet_set (l : List Host.Cell) (a : Nat) (b : Byte) (x : Nat) : cellGet (cellSet l a b) x = if x = a then b else cellGet l x := by
  unfold cellSet
  split
  · rename_i hb
    rw [cellGet_erase, hb]
  · exact cellGet_insert l a b x

/-- The bytes of a run read as they were written, and every other byte as before. -/
theorem cellGet_cellsSet (d : List Byte) (l : List Host.Cell) (a x : Nat) :
    cellGet (cellsSet l a d) x = if a ≤ x ∧ x < a + d.length then (d[x - a]?).getD 0 else cellGet l x := by
  induction d generalizing l a with
  | nil =>
    rw [if_neg (by simp only [List.length_nil]; omega)]
    rfl
  | cons b r ih =>
    unfold cellsSet
    rw [ih, cellGet_set]
    simp only [List.length_cons]
    by_cases h1 : x = a
    · subst h1
      rw [if_neg (by omega), if_pos rfl, if_pos (by omega), Nat.sub_self]
      rfl
    · by_cases h2 : a + 1 ≤ x ∧ x < a + 1 + r.length
      · rw [if_pos h2, if_pos (by omega), show x - a = (x - (a + 1)) + 1 by omega, List.getElem?_cons_succ]
      · rw [if_neg h2, if_neg h1, if_neg (by omega)]

/-! ### The canonical form -/

/-- The canonical form said of all entries at once. -/
theorem cellsWf_iff (l : List Host.Cell) :
    cellsWf l = true ↔ l.Pairwise (fun p q => p.1 < q.1) ∧ ∀ p ∈ l, p.1 < cacheBytes ∧ p.2 ≠ 0 := by
  induction l with
  | nil => simp [cellsWf]
  | cons p r ih =>
    obtain ⟨a, b⟩ := p
    cases r with
    | nil => simp [cellsWf]
    | cons q r =>
      obtain ⟨c, d⟩ := q
      simp only [cellsWf, Bool.and_eq_true, decide_eq_true_eq, bne_iff_ne, ne_eq, ih]
      constructor
      · rintro ⟨⟨hac, hb⟩, hp, hall⟩
        refine ⟨List.pairwise_cons.2 ⟨?_, hp⟩, ?_⟩
        · intro q hq
          rcases List.mem_cons.1 hq with rfl | hq
          · exact hac
          · exact Nat.lt_trans hac ((List.pairwise_cons.1 hp).1 q hq)
        · intro q hq
          rcases List.mem_cons.1 hq with rfl | hq
          · exact ⟨Nat.lt_trans hac (hall (c, d) (List.mem_cons_self ..)).1, hb⟩
          · exact hall q hq
      · rintro ⟨hp, hall⟩
        obtain ⟨h1, h2⟩ := List.pairwise_cons.1 hp
        exact ⟨⟨h1 (c, d) (List.mem_cons_self ..), (hall (a, b) (List.mem_cons_self ..)).2⟩, h2,
          fun q hq => hall q (List.mem_cons_of_mem _ hq)⟩

theorem mem_cellErase {l : List Host.Cell} {a : Nat} {p : Host.Cell} (h : p ∈ cellErase l a) : p ∈ l := by
  induction l with
  | nil => exact h
  | cons q r ih =>
    obtain ⟨k, v⟩ := q
    unfold cellErase at h
    split at h
    · exact List.mem_cons_of_mem _ (ih h)
    · rcases List.mem_cons.1 h with rfl | h
      · exact List.mem_cons_self ..
      · exact List.mem_cons_of_mem _ (ih h)

theorem mem_cellInsert {l : List Host.Cell} {a : Nat} {b : Byte} {p : Host.Cell} (h : p ∈ cellInsert l a b) : p = (a, b) ∨ p ∈ l := by
  induction l with
  | nil => exact Or.inl (List.mem_singleton.1 h)
  | cons q r ih =>
    obtain ⟨k, v⟩ := q
    unfold cellInsert at h
    split at h
    · exact List.mem_cons.1 h
    · split at h
      · exact (List.mem_cons.1 h).imp id (List.mem_cons_of_mem _)
      · rcases List.mem_cons.1 h with rfl | h
        · exact Or.inr (List.mem_cons_self ..)
        · exact (ih h).imp id (List.mem_cons_of_mem _)

theorem cellErase_wf {l : List Host.Cell} (a : Nat) (h : cellsWf l = true) : cellsWf (cellErase l a) = true := by
  rw [cellsWf_iff] at h ⊢
  refine ⟨?_, fun p hp => h.2 p (mem_cellErase hp)⟩
  have hp := h.1
  clear h
  induction l with
  | nil => exact hp
  | cons q r ih =>
    obtain ⟨k, v⟩ := q
    obtain ⟨h1, h2⟩ := List.pairwise_cons.1 hp
    unfold cellErase
    split
    · exact ih h2
    · exact List.pairwise_cons.2 ⟨fun p hp => h1 p (mem_cellErase hp), ih h2⟩

theorem cellInsert_wf {l : List Host.Cell} {a : Nat} {b : Byte} (h : cellsWf l = true) (ha : a < cacheBytes) (hb : b ≠ 0) :
    cellsWf (cellInsert l a b) = true := by
  rw [cellsWf_iff] at h ⊢
  refine ⟨?_, fun p hp => (mem_cellInsert hp).elim (fun e => e ▸ ⟨ha, hb⟩) (h.2 p)⟩
  have hp := h.1
  clear h
  induction l with
  | nil => exact List.pairwise_singleton _ _
  | cons q r ih =>
    obtain ⟨k, v⟩ := q
    obtain ⟨h1, h2⟩ := List.pairwise_cons.1 hp
    unfold cellInsert
    split
    · rename_i hlt
      refine List.pairwise_cons.2 ⟨fun p hp => ?_, hp⟩
      rcases List.mem_cons.1 hp with rfl | hp
      · exact hlt
      · exact Nat.lt_trans hlt (h1 p hp)
    · split
      · rename_i hk
        exact List.pairwise_cons.2 ⟨fun p hp => hk ▸ h1 p hp, h2⟩
      · rename_i hn hk
        refine List.pairwise_cons.2 ⟨fun p hp => ?_, ih h2⟩
        rcases mem_cellInsert hp with rfl | hp
        · show k < a
          omega
        · exact h1 p hp

/-- Writing a byte of the array keeps the canonical form. -/
theorem cellSet_wf {l : List Host.Cell} {a : Nat} (b : Byte) (h : cellsWf l = true) (ha : a < cacheBytes) : cellsWf (cellSet l a b) = true := by
  unfold cellSet
  split
  · exact cellErase_wf a h
  · rename_i hb
    exact cellInsert_wf h ha hb

/-- Writing a run of bytes of the array keeps the canonical form. -/
theorem cellsSet_wf (d : List Byte) {l : List Host.Cell} {a : Nat} (h : cellsWf l = true) (ha : a + d.length ≤ cacheBytes) :
    cellsWf (cellsSet l a d) = true := by
  induction d generalizing l a with
  | nil => exact h
  | cons b r ih =>
    simp only [List.length_cons] at ha
    exact ih (cellSet_wf b h (by omega)) (by omega)

/-! ### Every operation on the array keeps it -/

theorem wf_of_cells {s t : State} (h : Memory.wf s = true) (e : t.cells = s.cells) : Memory.wf t = true := by
  unfold Memory.wf at h ⊢
  rw [e]
  exact h

theorem putWord_wf {s : State} (w : Nat) (bytes : List Byte) (mask : Nat) (h : Memory.wf s = true) : Memory.wf (s.putWord w bytes mask) = true := by
  unfold State.putWord Memory.wf
  show cellsWf (if 8 * w + 8 ≤ cacheBytes then _ else _) = true
  split
  · exact cellsSet_wf _ h (by simpa [padTo, slice] using ‹8 * w + 8 ≤ cacheBytes›)
  · exact h

theorem flipStored_wf {s : State} (w n : Nat) (h : Memory.wf s = true) : Memory.wf (s.flipStored w n) = true := by
  unfold State.flipStored
  split
  · rename_i hc
    simp only [Bool.and_eq_true, decide_eq_true_eq] at hc
    unfold Memory.wf
    show cellsWf (if n < 64 then _ else _) = true
    split
    · exact cellSet_wf _ h (by omega)
    · exact h
  · exact h

theorem mirDone_cells (s : State) (p kind n : Nat) : (s.mirDone p kind n).cells = s.cells := by
  unfold State.mirDone
  simp only [setLeaves_cells]
  split <;> simp

theorem mirEvent_cells (s : State) (p kind : Nat) (fits : Nat → Bool) : (s.mirEvent p kind fits).1.cells = s.cells := by
  unfold State.mirEvent
  simp only
  split
  · rfl
  · split
    · rfl
    · exact mirDone_cells s p kind _

theorem mirStored_wf {s : State} (w : Nat) (h : Memory.wf s = true) : Memory.wf (s.mirStored w) = true := by
  unfold State.mirStored
  have e := mirEvent_cells s 0x0E 4 (fun n => bit (s.rd (MIR.SEL.at n)) 0 || s.rd (MIR.ARG.at n) % 2 ^ 20 == w)
  split
  · rename_i t n he
    rw [he] at e
    exact flipStored_wf _ _ (flipStored_wf _ _ (wf_of_cells h e))
  · rename_i t he
    rw [he] at e
    exact wf_of_cells h e

theorem fullWrite_wf {s : State} (w : Nat) (bytes : List Byte) (h : Memory.wf s = true) : Memory.wf (s.fullWrite w bytes) = true := by
  have a := mirStored_wf w (putWord_wf w bytes 0 h)
  unfold State.fullWrite
  simp only
  split
  · exact wf_of_cells a (by simp)
  · exact a

theorem ceEvent_cells (s : State) (w synd n : Nat) : (s.ceEvent w synd n).cells = s.cells := by
  unfold State.ceEvent
  simp only [leafIf_cells]
  split <;> simp

theorem ueEvent_cells (s : State) (w synd req : Nat) : (s.ueEvent w synd req).cells = s.cells := by
  unfold State.ueEvent
  simp only [setLeaves_cells]
  split <;> split <;> simp

theorem refuseMerge_cells (s : State) (w synd req : Nat) : (s.refuseMerge w synd req).cells = s.cells := by
  unfold State.refuseMerge
  simp [ueEvent_cells]

theorem narrowWrite_wf {s : State} (req w : Nat) (new : List (Nat × Byte)) (h : Memory.wf s = true) :
    Memory.wf (s.narrowWrite req w new).1 = true := by
  unfold State.narrowWrite
  have a : Memory.wf (s.add MEM.MERGES 1) = true := wf_of_cells h (add_cells ..)
  generalize s.add MEM.MERGES 1 = t at a
  simp only
  split
  · exact mirStored_wf w (putWord_wf w _ 0 a)
  · rename_i n _
    have b : Memory.wf (((t.ceEvent w (t.synd w) n).add MEM.CE_MERGES 1).setLeaf Lf.MEM.CE_MERGE) = true :=
      wf_of_cells a (by rw [setLeaf_cells, add_cells, ceEvent_cells])
    exact mirStored_wf w (putWord_wf w _ 0 b)
  · exact wf_of_cells a (refuseMerge_cells ..)

/-- A write of one word keeps the canonical form, whatever becomes of it. -/
theorem writeWord_wf {s : State} (req w : Nat) (new : List (Nat × Byte)) (h : Memory.wf s = true) :
    Memory.wf (s.writeWord req w new).1 = true := by
  unfold State.writeWord
  split
  · exact h
  · split
    · exact wf_of_cells h (by simp [refuseMerge_cells])
    · split
      · exact fullWrite_wf w _ h
      · exact narrowWrite_wf req w new h

theorem foldWords_wf (f : State × Bool → Nat → State × Bool) (hf : ∀ a w, Memory.wf a.1 = true → Memory.wf (f a w).1 = true)
    (l : List Nat) (a : State × Bool) (h : Memory.wf a.1 = true) : Memory.wf (l.foldl f a).1 = true := by
  induction l generalizing a with
  | nil => exact h
  | cons w r ih => exact ih _ (hf a w h)

/-- A write of bytes keeps the canonical form. -/
theorem cacheWriteEn_wf {s : State} (req off : Nat) (data : List Byte) (en : List Bool) (h : Memory.wf s = true) :
    Memory.wf (s.cacheWriteEn req off data en).1 = true := by
  unfold State.cacheWriteEn
  refine foldWords_wf _ ?_ _ _ h
  intro a w ha
  exact writeWord_wf req _ _ ha

theorem cacheWrite_wf {s : State} (req off : Nat) (data : List Byte) (h : Memory.wf s = true) :
    Memory.wf (s.cacheWrite req off data).1 = true := cacheWriteEn_wf req off data [] h

theorem cacheStore_wf {s : State} (off : Nat) (data : List Byte) (h : Memory.wf s = true) : Memory.wf (s.cacheStore off data) = true :=
  cacheWrite_wf 2 off data h

/-- A window write keeps the canonical form. -/
theorem windowWrite_wf {s : State} (req off : Nat) (data : List Byte) (en : List Bool) (h : Memory.wf s = true) :
    Memory.wf (s.windowWrite req off data en).1 = true := by
  unfold State.windowWrite
  refine foldWords_wf _ ?_ _ _ h
  intro a w ha
  exact writeWord_wf req _ _ ha

theorem foldState_wf {α : Type} (f : State → α → State) (hf : ∀ s x, Memory.wf s = true → Memory.wf (f s x) = true) (l : List α)
    (s : State) (h : Memory.wf s = true) : Memory.wf (l.foldl f s) = true := by
  induction l generalizing s with
  | nil => exact h
  | cons x r ih => exact ih _ (hf s x h)

/-- Poisoned data stored keeps the canonical form. -/
theorem cachePoison_wf {s : State} (off : Nat) (data : List Byte) (h : Memory.wf s = true) : Memory.wf (s.cachePoison off data) = true := by
  unfold State.cachePoison
  refine foldState_wf _ ?_ _ _ h
  intro t w ht
  exact putWord_wf _ _ _ ht

theorem recache_wf {s : State} (ns block : Nat) (data : List Byte) (h : Memory.wf s = true) : Memory.wf (s.recache ns block data) = true := by
  unfold State.recache
  split
  · exact cacheWrite_wf 3 _ data h
  · exact h

/-- Upsets of stored bits keep the canonical form. -/
theorem upset_wf {s : State} (l : List (Nat × Nat)) (h : Memory.wf s = true) : Memory.wf (s.upset l) = true := by
  unfold State.upset
  refine foldState_wf _ ?_ _ _ h
  intro t u ht
  exact flipStored_wf _ _ ht

/-- The zero-fill leaves the canonical form. -/
theorem memFilled_wf (s : State) (upsets : List (Nat × Nat)) : Memory.wf (s.memFilled upsets) = true := by
  have a : Memory.wf (({ s with cells := [], ecc := [] } : State).upset upsets) = true := upset_wf upsets rfl
  unfold State.memFilled
  simp only
  generalize ({ s with cells := [], ecc := [] } : State).upset upsets = t at a
  have b : ∀ l : List Nat, Memory.wf (l.foldl (fun (t : State) w => t.ueEvent w (t.synd w) 6) t) = true := by
    intro l
    refine foldState_wf _ ?_ l t a
    intro u w hu
    exact wf_of_cells hu (ueEvent_cells ..)
  exact wf_of_cells (b _) (by rw [setLeaf_cells, leafIf_cells, wr_cells])

/-- A read of a word changes no byte. -/
theorem readWord_cells (s : State) (req w : Nat) : (s.readWord req w).1.cells = s.cells := by
  unfold State.readWord
  split
  · simp [ueEvent_cells]
  · split
    · rfl
    · simp [ceEvent_cells]
    · simp [State.dropSectorAt, ueEvent_cells]

/-- A read of bytes changes no byte. -/
theorem cacheRead_cells (s : State) (req off n : Nat) : (s.cacheRead req off n).1.cells = s.cells := by
  unfold State.cacheRead
  simp only
  generalize wordsOf off n = l
  generalize (some [] : Option (List Byte)) = b
  induction l generalizing s b with
  | nil => rfl
  | cons w r ih =>
    simp only [List.foldl_cons]
    rw [ih]
    exact readWord_cells s req w

/-- A page's return to the pool keeps the canonical form. -/
theorem freePage_wf {s : State} (p : Nat) (h : Memory.wf s = true) : Memory.wf (s.freePage p) = true := by
  unfold State.freePage
  refine wf_of_cells (s := (((s.mem.ueTab.filter fun e => e.word / 512 == p && !e.cleared).map TabEnt.word).foldl
    (fun t w => t.fullWrite w [0, 0, 0, 0, 0, 0, 0, 0]) s)) (foldState_wf _ ?_ _ s h) rfl
  intro t w ht
  exact fullWrite_wf w _ ht

/-- The scrubber's work on a word keeps the canonical form. -/
theorem scrubOne_wf {s : State} (w : Nat) (par : Bool) (h : Memory.wf s = true) : Memory.wf (s.scrubOne w par) = true := by
  unfold State.scrubOne
  split
  · exact wf_of_cells h (by rw [ueEvent_cells, setLeaf_cells])
  · split
    · exact h
    · exact wf_of_cells (putWord_wf w _ 0 (wf_of_cells h (ceEvent_cells ..))) (by rw [setLeaf_cells, add_cells])
    · exact wf_of_cells h (by simp [State.dropSectorAt, ueEvent_cells])

/-- Memory at reset has the canonical form. -/
theorem reset_wf : Memory.wf State.reset = true := rfl

end Sys2Proof.Machine
end

