-- ==== Sys2Proof/Laws/Reads.lean ====
section
/-! SUPPORT. Reading a field through a tower of updates: `State.rd` as a reading of the register store alone, so that updates
of other parts fall away, and what each shared operation does to it. -/

namespace Sys2Proof.Machine

/-- What a register store gives a field. -/
def regGet (regs : List (Nat × Nat)) (f : Fld) : Nat := (storeGet regs f.key).getD f.reset

theorem rd_eq (s : State) (f : Fld) : s.rd f = regGet s.regs f := rfl
theorem is_eq (s : State) (f : Fld) : s.is f = (regGet s.regs f == 1) := rfl

theorem regGet_wr_self (s : State) (f : Fld) (v : Nat) : regGet (s.wr f v).regs f = v % 2 ^ f.width := rd_wr_self s f v
theorem regGet_wr_ne (s : State) {f g : Fld} (v : Nat) (h : f.key ≠ g.key) : regGet (s.wr g v).regs f = regGet s.regs f :=
  rd_wr_ne s v h
@[simp] theorem regGet_emit (s : State) (m : OutMsg) (f : Fld) : regGet (s.emit m).regs f = regGet s.regs f := rfl
@[simp] theorem regGet_setShadow (s : State) (g : Fld) (v : Nat) (f : Fld) : regGet (s.setShadow g v).regs f = regGet s.regs f := rfl
theorem regGet_setLeaf (s : State) (l : Leaf) {f : Fld} (h : logKey f.key = false) :
    regGet (s.setLeaf l).regs f = regGet s.regs f := setLeaf_rd s l h
theorem regGet_setLeaves (s : State) (l : List Leaf) {f : Fld} (h : logKey f.key = false) :
    regGet (s.setLeaves l).regs f = regGet s.regs f := setLeaves_rd s l h
theorem regGet_leafIf (s : State) (c : Bool) (l : Leaf) {f : Fld} (h : logKey f.key = false) :
    regGet (s.leafIf c l).regs f = regGet s.regs f := leafIf_rd s c l h
theorem regGet_event (s : State) (en : Bool) (code page slice sev : Nat) (data : List Byte) {f : Fld} (h : logKey f.key = false) :
    regGet (s.event en code page slice sev data).regs f = regGet s.regs f := event_rd s en code page slice sev data h
theorem regGet_add_ne (s : State) {g : Fld} (n : Nat) {f : Fld} (hn : f.key ≠ g.key) (hf : logKey f.key = false) :
    regGet (s.add g n).regs f = regGet s.regs f := add_rd_ne s n hn hf
theorem regGet_settle (s : State) {f : Fld} (h : settleKey f.key = false) : regGet s.settle.regs f = regGet s.regs f :=
  settle_rd s h

/-- A counter outside the log that does not pass its limit counts up. -/
theorem regGet_add_self (s : State) {f : Fld} (n : Nat) (hf : logKey f.key = false) (hs : regGet s.regs f + n ≤ f.maxVal) :
    regGet (s.add f n).regs f = regGet s.regs f + n := by
  have h := add_rd_self s n hf (by rw [rd_eq]; omega)
  rw [rd_eq, rd_eq] at h
  rw [h]; omega

end Sys2Proof.Machine
end

