-- ==== Sys2Proof/WellFormed.lean ====
section
/-! DEFINITION. Which commands are well formed. -/

namespace Sys2Proof

/-- A calibration step's measurements: one value for every element, or none in a step that does not measure it. -/
def CalMeas.wellFormed (m : CalMeas) : Bool :=
  (m.tiaTrim.length == 12 || m.tiaTrim == []) && m.tiaGain.length == m.tiaTrim.length &&
  (m.focSeg.length == 67 || m.focSeg == []) && m.trkSeg.length == m.focSeg.length &&
  (m.tdc.length == 96 || m.tdc == []) && m.tdcSel.all (· < 96) && m.gain780 < 2 ^ 16 && m.gain650 < 2 ^ 16

/-- A phase error of a crossing lies within half a bit period. -/
def errOk (e : Int) : Bool := -2048 ≤ e && e ≤ 2048

/-- A block of channel bits: seven taps, and values within their fields. -/
def BitBlock.wellFormed (b : BitBlock) : Bool :=
  b.errs.length ≤ 1024 && b.errs.all errOk && -1024 ≤ b.bottom && b.bottom ≤ b.top && b.top < 2048 &&
  b.taps.length == 7 && b.taps.all (fun t => -1 ≤ t && t ≤ 1) && b.snr < 2 ^ 16 && -32768 ≤ b.asym && b.asym < 32768 &&
  b.clips.all (· ≤ 65536)

/-- A part's figures fit their register fields. -/
def NandPart.wellFormed (p : NandPart) : Bool :=
  1 ≤ p.dies && p.dies ≤ 8 && p.blocks < 2 ^ 16 && p.pages < 2 ^ 16 && p.spare < 2 ^ 16 && p.trUs < 2 ^ 16 &&
  p.tprogUs < 2 ^ 16 && p.tbersMs < 2 ^ 16 && p.sdrMax ≤ 5 && p.ddrMax.all (· ≤ 5)

/-- A chip enable's finding is well formed. -/
def NandFind.wellFormed : NandFind → Bool
  | .part p => p.wellFormed
  | _ => true

/-- A sector's two codewords, each correcting at most 72 bits. -/
def SectorRead.wellFormed (r : SectorRead) : Bool :=
  let ok := fun (l : List (Option Nat)) => l.length == 2 && l.all fun o => o.all (· ≤ 72)
  r.ns < 16 && ok r.first && (r.again == [] || ok r.again) && (r.last == [] || ok r.last)

/-- A raw operation's result fits a page of 16 codewords. -/
def RawResult.wellFormed (r : RawResult) : Bool :=
  r.data.length ≤ 18528 && r.bits.length ≤ 16 && r.bits.all (fun o => o.all (· ≤ 72)) && r.zeros.length ≤ 16 && r.ptr ≤ 1024

/-- A caravan's header fields fit. -/
def Caravan.wellFormed (c : Caravan) : Bool :=
  c.hops < 256 && c.dst < 2 ^ 16 && c.src < 2 ^ 16 && c.tag < 2 ^ 16 && c.epoch < 256 && c.lseq < 256 && c.param < 2 ^ 24

/-- A decode names a unit of its format: one sector of CD, or up to 16 of DVD. -/
def Decode.wellFormed (d : Decode) : Bool :=
  d.addr < 2 ^ 24 && d.layer < 2 && d.sectors.length ≤ 16 && d.frames.all (fun f => f.1 < 4096 && f.2 < 4096) &&
  d.failed.all (fun f => f.1 < 4096 && f.2 < 4096) &&
  d.sectors.all fun x => x.index < 16 && x.kind ≤ 4 && x.data.length == (if x.kind == 4 then 2064 else 2352) &&
    x.sub.length ≤ 96 && x.c2.length ≤ 294

/-- A pass holds 6-bit samples. -/
def Pass.wellFormed (p : Pass) : Bool :=
  p.frames.all (fun f => f.samples.all (· < 64) && f.corr < 2 ^ 16) && p.addr.all (· < 2 ^ 24)

/-- The header of a TLP: three or four dwords. -/
def hdrOk (l : List Nat) : Bool := 3 ≤ l.length && l.length ≤ 4 && l.all (· < 2 ^ 32)

/-- A configuration request names an aligned dword of the 4 KiB configuration space. -/
def CfgReq.wellFormed : CfgReq → Bool
  | .read off => off < 4096 && off % 4 == 0
  | .write off be v => off < 4096 && off % 4 == 0 && be < 16 && v < 2 ^ 32

/-- A poisoned TLP fits its BAR. -/
def PoisonTlp.wellFormed : PoisonTlp → Bool
  | .bar4 off data en => off + data.length ≤ 0x800000 && data.length ≤ 4096 && en.length ≤ data.length
  | .bar02 hdr => hdrOk hdr
  | .completion p => p.all (· < 256)

/-- A cut serial transaction names a serial address. -/
def SerialCut.wellFormed : SerialCut → Bool
  | .opcode => true
  | .read a n => a < 2 ^ 32 && n < 2 ^ 16
  | .write a data => a < 2 ^ 32 && data.length < 2 ^ 16

/-- Whether a command's operands lie in the ranges that the spec gives them: what can arrive at all. -/
def Instr.wellFormed : Instr → Bool
  | .stageWindowEnd c0 c1 c2 laps mclk => c0 < 2 ^ 22 && c1 < 2 ^ 22 && c2 < 2 ^ 22 && laps < 2 ^ 32 && mclk < 2 ^ 16
  | .refclkStop => true
  | .dllLockAcquired => true
  | .dllUnlock => true
  | .servoUpdate _ _ => true
  | .waterClr => true
  | .waterClrDone => true
  | .nowLoRead _ => true
  | .opSecondsTick => true
  | .bar0Write port page off be value rid pasid => page < 96 && (port != .serial || page ≤ 32) && off < 4096 && off % 4 == 0 && be < 16 && value < 2 ^ 32 && rid < 2 ^ 16 && pasid.all (· < 2 ^ 20)
  | .chipResetKey _ value => value < 2 ^ 32
  | .quiesceWrite page _ => page < 32
  | .blockDrained page => page < 32
  | .forcedBlockReset page => page < 32
  | .forcedResetEnd page => page < 32
  | .blockGate page => page < 32
  | .blockGated page => page < 32
  | .blockUngate page => page < 32
  | .ungateDone page => page < 32
  | .gateFaultTimeout page => page < 32
  | .shdHoldWrite page _ => page < 32
  | .internalReplyArrival page tag reqEpoch repEpoch => page < 32 && tag < 2048 && reqEpoch < 256 && repEpoch < 256
  | .quarantineExpiry tag => tag < 65536
  | .atnForceWrite page value => page < 32 && value < 2 ^ 32
  | .grpPendClear group value => group < 24 && value < 2 ^ 32
  | .routedClear slice group value => slice < 64 && group < 24 && value < 2 ^ 32
  | .atnSliceWrite _ page be value => page < 32 && be < 16 && value < 2 ^ 32
  | .pinCtlWrite _ be value => be < 16 && value < 2 ^ 32
  | .summaryRead _ => true
  | .powerOnReset => true
  | .stbyPowerLoss => true
  | .railLow rail => rail < 6
  | .railGood rail => rail < 6
  | .brownout => true
  | .coreResetRelease _ => true
  | .sramZeroFillDone upsets => upsets.all fun u => u.1 < 786432 && u.2 < 72
  | .engineRelease ce0 ce1 => ce0.wellFormed && ce1.wellFormed
  | .perstAssert => true
  | .perstDeassert => true
  | .functionLevelReset => true
  | .hotReset => true
  | .functionResetDone => true
  | .idleTimerExpiry target => 1 <= target && target < 4
  | .dozeEntryDone => true
  | .napEntryDone => true
  | .standbyEntryCommit => true
  | .dischargeWaitEnd => true
  | .powerCmdGo => true
  | .idleTimerWrite _ off be value => 0x088 <= off && off <= 0x094 && off % 4 == 0 && be < 16 && value < 2 ^ 32
  | .hwakeEvent => true
  | .wakePinEvent n => n < 4
  | .loaderWakeEvent => true
  | .rylWakeActivity rport => rport < 3
  | .dozeExitDone => true
  | .napExitDone => true
  | .standbyExitDone ce0 ce1 => ce0.wellFormed && ce1.wellFormed
  | .powerFail => true
  | .powerFailFlushDone => true
  | .powerRestored => true
  | .calRunGo => true
  | .calRunStart => true
  | .calRunStepEnd m => m.wellFormed
  | .calRunAbort => true
  | .calRestoreGo => true
  | .calRestoreStart => true
  | .calRestoreEnd residuals spanNow stageNow => residuals.length == 8 && spanNow < 2 ^ 16 && 0 < stageNow && stageNow < 2 ^ 16
  | .focCloseWrite _ be value => be < 16 && value < 2 ^ 32
  | .trkCloseWrite _ be value => be < 16 && value < 2 ^ 32
  | .lpcWaveWrite _ be value => be < 16 && value < 2 ^ 32
  | .focusTrackingSample w dpd num den _ _ => w.length == 8 && w.all (· < 4096) && num < den && -32768 <= dpd && dpd < 32768
  | .acqSweepExhausted => true
  | .focusLoss => true
  | .trkPullinTimeout => true
  | .trackingLock => true
  | .trackingLoss => true
  | .duneHoldExit loop => loop == .foc || loop == .trk
  | .duneHoldMax loop => loop == .foc || loop == .trk
  | .ffLearnWrap => true
  | .layerJumpGo => true
  | .layerJumpKickEnd => true
  | .layerJumpBrakeEnd => true
  | .layerJumpTimeout => true
  | .layerJumpSettled => true
  | .loopReleaseDone loop => loop == .foc || loop == .trk
  | .lpcSample mon => mon < 4096
  | .laserMonFail => true
  | .laserLocked => true
  | .laserRampDone => true
  | .lpcOverUnder => true
  | .dacFault loop => loop == .foc || loop == .trk
  | .driveSatRun loop => loop == .foc || loop == .trk
  | .ffClear loop => loop == .foc || loop == .trk
  | .crossClear => true
  | .refCapture => true
  | .spindleSample rpm now => rpm < 2 ^ 16 && now < 256
  | .commutationEvent hall _ ripple dead => hall < 8 && ripple < 2 ^ 16 && dead < 8
  | .spindleAlignDone => true
  | .spindleLock => true
  | .spnCtlWrite _ be value => be < 16 && value < 2 ^ 32
  | .speedCapWrite _ be value => be < 16 && value < 2 ^ 32
  | .zoneTableWrite _ _ k be value => k < 16 && be < 16 && value < 2 ^ 32
  | .spindleStopped => true
  | .spindleFaultPin => true
  | .spindleStallTimeout => true
  | .seekGo => true
  | .seekStart => true
  | .seekCoarseDone position => position < 2 ^ 16
  | .seekTimeout => true
  | .seekAbort => true
  | .sledSample position _ => position < 2 ^ 16
  | .homeGo => true
  | .homeReached => true
  | .sledFaultPin => true
  | .sledStallTimeout => true
  | .loaderOpen => true
  | .loaderClose => true
  | .loaderDetect => true
  | .limitAChange _ => true
  | .limitBChange _ => true
  | .slotChange _ => true
  | .ejectButton => true
  | .ejectMotionStart => true
  | .loadTimeout => true
  | .bothLimitsFault => true
  | .loaderFaultPin => true
  | .loaderThermalTimeout => true
  | .detectStepDone r => r.disc == 15 || (1 <= r.disc && r.disc <= 9)
  | .chnBitBlockBoundary b => b.wellFormed
  | .timingLock errs => errs.length <= 1024 && errs.all errOk
  | .timingLost errs => errs.length <= 1024 && errs.all errOk
  | .dropoutDeclared theta => theta < 4096
  | .dropoutEnd theta => theta < 4096
  | .freewheelTimeout => true
  | .blankTimeout => true
  | .blankEnd => true
  | .rfOkChange _ theta => theta < 4096
  | .overrate => true
  | .eqLoad => true
  | .syncFound ofs id frame => -128 <= ofs && ofs < 128 && id < 8 && frame < 26
  | .syncInsert => true
  | .codewordDecode data margin _ _ _ => data < 256 && margin < 65536
  | .subcodeBlock q _ => q.length == 12
  | .dvdIdField id => id.all (· < 2 ^ 32)
  | .subqRead _ => true
  | .unitDecodeDone d => d.wellFormed
  | .rereadAttemptDone d => d.wellFormed
  | .avgAccumulatorGrant => true
  | .avgAllocTimeout => true
  | .avgPassEnd p => p.wellFormed
  | .avgAbort => true
  | .borrowTimeout addr layer => addr < 2 ^ 24 && layer < 2
  | .ergClear => true
  | .ergSave => true
  | .ergScan => true
  | .ergScanDone => true
  | .segDataRead _ => true
  | .bar4Read off len hdr _ => off % 4 == 0 && len % 4 == 0 && 4 <= len && len <= 4096 && off + len <= 0x800000 && hdrOk hdr
  | .bar4Write off data en hdr _ => off + data.length <= 0x800000 && data.length <= 4096 && en.length <= data.length && hdrOk hdr
  | .poisonedTlp p => p.wellFormed
  | .scrubWord upsets _ => upsets.all fun u => u.1 < 786432 && u.2 < 72
  | .scrubLate => true
  | .tblClearCe => true
  | .tblClearUe => true
  | .tblDataRead _ k => k < 2
  | .hostPagesWrite _ be value => be < 16 && value < 2 ^ 32
  | .hostPagesTakeEffect => true
  | .pageAllocGrant => true
  | .pageFree page => page < 1536
  | .configRequest r ident => r.wellFormed && ident < 2 ^ 16
  | .unsupportedRequest _ hdr => hdrOk hdr
  | .pcieMessage _ hdr => hdrOk hdr
  | .dmaReadCompletion ptag status data _ => ptag < 256 && (status == 0 || status == 1 || status == 4) && data.length <= 4096
  | .completionTimeout ptag => ptag.all (· < 256)
  | .pcieLinkUp _ => true
  | .pcieLinkDown => true
  | .pcieRetrain => true
  | .pcieRetrainDone _ _ => true
  | .serialRead _ addr n waits => addr < 2 ^ 32 && n < 2 ^ 16 && waits.length <= n
  | .serialQread _ addr n waits => addr < 2 ^ 32 && n < 2 ^ 16 && waits.length <= n
  | .serialWrite _ addr data => addr < 2 ^ 32 && data.length < 2 ^ 16
  | .serialQwrite _ addr data => addr < 2 ^ 32 && data.length < 2 ^ 16
  | .serialStatus _ => true
  | .serialBadOpcode _ op => op < 256
  | .serialCsAbort _ _ cut => cut.wellFormed
  | .serialWaitLimit _ _ addr => addr < 2 ^ 32
  | .serialBufferedApply => true
  | .qpCreate => true
  | .qpDelete => true
  | .qpDeleteDone slice qp => slice < 64 && qp < 8
  | .qpAbort => true
  | .qpAbortDone slice qp => slice < 64 && qp < 8
  | .sqDoorbell port slice qp tail rid pasid => slice < 64 && qp < 8 && tail < 1024 && rid < 2 ^ 16 && (port != .serial || slice == 0) && pasid.all (· < 2 ^ 20)
  | .cqHeadDoorbell port slice qp head rid pasid => slice < 64 && qp < 8 && head < 1024 && rid < 2 ^ 16 && (port != .serial || slice == 0) && pasid.all (· < 2 ^ 20)
  | .entryFetch entry _ => entry.length == 64
  | .commandDispatch tag => tag < 512
  | .completionWrite tag _ => tag < 512
  | .overloadTimer slice => slice < 64
  | .hazardWaitLong tag => tag < 512
  | .fenceWaitLong tag => tag < 512
  | .readahead sectors => sectors <= 256
  | .latClr => true
  | .testUnitReady tag => tag < 512
  | .requestSense tag => tag < 512
  | .inquiry tag => tag < 512
  | .startStopUnit tag => tag < 512
  | .preventAllowMediumRemoval tag => tag < 512
  | .read10 tag => tag < 512
  | .read12 tag => tag < 512
  | .readCd tag => tag < 512
  | .readCdMsf tag => tag < 512
  | .readTocPmaAtip tag => tag < 512
  | .readDiscInformation tag => tag < 512
  | .readTrackInformation tag => tag < 512
  | .getConfiguration tag => tag < 512
  | .getEventStatusNotification tag => tag < 512
  | .mechanismStatus tag => tag < 512
  | .setCdSpeed tag => tag < 512
  | .modeSense10 tag => tag < 512
  | .modeSelect10 tag => tag < 512
  | .nop tag => tag < 512
  | .identify tag => tag < 512
  | .abortAll tag => tag < 512
  | .read tag => tag < 512
  | .write tag => tag < 512
  | .trim tag => tag < 512
  | .verify tag => tag < 512
  | .libFormat tag bad => tag < 512 && bad.all (fun b => b.1 < 8 && b.2 < 2 ^ 16)
  | .libMount tag => tag < 512
  | .libUnmount tag => tag < 512
  | .rip tag => tag < 512
  | .shadowLookup tag => tag < 512
  | .shadowPurge tag => tag < 512
  | .rylRoster tag => tag < 512
  | .servoTestAcquire tag => tag < 512
  | .servoTestSeek tag => tag < 512
  | .servoTestRunout tag => tag < 512
  | .servoTestSweep tag => tag < 512
  | .calRun tag => tag < 512
  | .calRestore tag => tag < 512
  | .calSave tag => tag < 512
  | .recDump tag => tag < 512
  | .recErase tag => tag < 512
  | .traceCtlStart tag => tag < 512
  | .traceCtlStop tag => tag < 512
  | .traceCtlFilter tag => tag < 512
  | .audioPlay tag => tag < 512
  | .audioStop tag => tag < 512
  | .cmdStallTimeout tag => tag < 512
  | .slcTableCommit => true
  | .sliceReset => true
  | .sliceResetDone slice => slice < 64
  | .sliceAbort => true
  | .wadiRefill => true
  | .engineUnitBoundary engine => engine < 4
  | .unitWaitLong engine tag => engine < 4 && tag < 512
  | .shareWindowEnd => true
  | .nandProgramDone die block page _ _ _ => die < 8 && block < 2 ^ 16 && page < 1024
  | .nandEraseDone die block _ _ => die < 8 && block < 2 ^ 16
  | .nandReadDone tag die sectors => tag < 512 && die < 8 && sectors.length <= 8 && sectors.all (·.wellFormed)
  | .nandBusyLong die _ => die < 8
  | .mountDone _ _ => true
  | .rawRead => true
  | .rawReadRaw => true
  | .rawProgram => true
  | .rawErase => true
  | .rawOpDone r => r.wellFormed
  | .garbageCollection die block => die < 8 && block < 2 ^ 16
  | .shadowStoreWrite => true
  | .rylLinkUp rport => rport < 3
  | .rylLinkDown rport => rport < 3
  | .helloReceived rport c => rport < 3 && c.wellFormed && c.body.kind == 0
  | .electReceived rport c => rport < 3 && c.wellFormed && c.body.kind == 1
  | .joinReqReceived rport c => rport < 3 && c.wellFormed && c.body.kind == 2
  | .joinGrantReceived rport c => rport < 3 && c.wellFormed && c.body.kind == 3
  | .neighReceived rport c => rport < 3 && c.wellFormed && c.body.kind == 4
  | .rosterReceived rport c => rport < 3 && c.wellFormed && c.body.kind == 5
  | .syncReqReceived rport c => rport < 3 && c.wellFormed && c.body.kind == 6
  | .rosterFullReceived rport c => rport < 3 && c.wellFormed && c.body.kind == 7
  | .nsReqReceived rport c => rport < 3 && c.wellFormed && c.body.kind == 8
  | .nsDataReceived rport c => rport < 3 && c.wellFormed && c.body.kind == 9
  | .nsDoneReceived rport c => rport < 3 && c.wellFormed && c.body.kind == 10
  | .progressReceived rport c => rport < 3 && c.wellFormed && c.body.kind == 11
  | .borrowReqReceived rport c => rport < 3 && c.wellFormed && c.body.kind == 12
  | .borrowDataReceived rport c _ => rport < 3 && c.wellFormed && c.body.kind == 13
  | .borrowDoneReceived rport c => rport < 3 && c.wellFormed && c.body.kind == 14
  | .reservedCaravanReceived rport c => rport < 3 && c.wellFormed && c.body.kind == 15
  | .badCaravan rport _ => rport < 3
  | .ackReceived rport lseq => rport < 3 && lseq < 256
  | .nakReceived rport lseq => rport < 3 && lseq < 256
  | .creditsReceived rport n => rport < 3 && 1 <= n && n <= 32
  | .replayTimeout rport => rport < 3
  | .creditStall rport => rport < 3
  | .caravanLifetimeExpiry rport => rport <= 3
  | .elderQuietExpiry => true
  | .heartbeatTimer => true
  | .elderLost => true
  | .joinRetry => true
  | .idReservationExpiry id => id < 2 ^ 16
  | .routeRebuildDone => true
  | .exporterProgressTimer src tag => src < 2 ^ 16 && tag < 2 ^ 16
  | .remoteProgressTimeout tag => tag < 512
  | .portRetrain rport => rport < 3
  | .portWake rport => rport < 3
  | .audioFrameBoundary => true
  | .audioSectorEnter => true
  | .spdifBlockBoundary => true
  | .mclkLost => true
  | .mclkBack => true
  | .audioMuteWrite _ => true
  | .audioPauseWrite _ => true
  | .audioSourceWrite _ => true
  | .recFlushGo => true
  | .recFlushTimer => true
  | .recFlushDone _ => true
  | .recWrite => true
  | .lifeSaveTimer => true
  | .lifeCounterRestore => true
  | .rdDataRead _ k => k < 8
  | .traceStart => true
  | .traceStop => true
  | .traceBatchWrite _ => true
  | .traceBatchTimeout _ => true
  | .traceRptrWrite _ be value => be < 16 && value < 2 ^ 32
  | .tracePostDone => true
  | .mirKeyWrite value => value < 2 ^ 32
  | .mirLock => true
  | .mirAutoLock => true
  | .mirHookWrite _ page be value => page < 32 && be < 16 && value < 2 ^ 32
  | .mirSlotWrite _ off be value => 0x100 ≤ off && off < 0x180 && off % 4 == 0 && be < 16 && value < 2 ^ 32
  | .mirBackpressWindow page => page < 32
  | .testenRise => true
  | .testenFall => true
  | .tapLeaveReset => true
  | .extest pins _ => pins.length == 83
  | .samplePreload pins _ => pins.length == 83
  | .idcode _ => true
  | .clamp _ => true
  | .highz _ => true
  | .bypass code _ => code < 16 && ! [0, 1, 2, 4, 5].contains code
  | .freewheelRelock errs => errs.length <= 1024 && errs.all errOk
  | .codeError rport => rport < 3
  | .receiverErr _ msg => msg.all (· < 3)
  | .pcieReplayTimeout _ msg => msg.all (· < 3)
  | .engineBacklog engine => engine < 4
  | .tapReset => true

end Sys2Proof
end

