-- ==== Sys2Proof/Tests/Slice0.lean ====
section
/-! SUPPORT. The model's own tests: what WellFormed refuses, the worked examples of the spec, and a witness for every
statement that assumes something. -/

namespace Sys2Proof.Machine

/-- A state changed. -/
def State.upd (s : State) (f : State → State) : State := f s

end Sys2Proof.Machine

namespace Sys2Proof.Tests

set_option maxRecDepth 100000
set_option Elab.async false
set_option linter.unusedVariables false

open Sys2Proof.Machine

/-! ### States that the tests start from -/

/-- A state in which the engines run and the host link is up. -/
def up : State :=
  ({ pow := { phase := .run, filled := true, window := true }, recd := { restored := true, noNandSet := true } } : State).wrAll
    [(TIME.REF_OK, 1), (TIME.DLL_LOCK, 1), (MEM.BANKS_OK, 0xFFF), (HPT.LINK_UP, 1), (HPT.BME, 1), (MEM.HOST_NOW, 64)]

def cmdE (tag : Nat) (e : List Byte) : Cmd := { tag := tag, slice := 0, qp := 0, place := 0, at_ := 0, loc := false, atomic := false, entry := e, sqHead := 0, stage := .dispatched }
def ent (l : List (Nat × Nat)) : List Byte := (List.range 64).map fun i => BitVec.ofNat 8 (((l.find? fun e => e.1 == i).map Prod.snd).getD 0)
def blobHead : List Byte := [0x1B, 0xCA, 1, 0, 0, 1, 0, 0]
def blobTail : List Byte :=
  [0, 0, 0, 0, 1, 0, 0, 0, 0x10, 0x32, 0x54, 0x76] ++ List.replicate 12 0 ++ leBytes 4 (128 + 2 * 2 ^ 14 + 3 * 2 ^ 21) ++
    leBytes 4 (128 + 2 * 2 ^ 14 + 3 * 2 ^ 21) ++ List.replicate 8 0xFF ++ [0, 0, 0, 0, 1, 0, 0, 0, 0, 0x10, 0, 0x10] ++ List.replicate 186 0
def blobOf (lo hi : BitVec 32) : List Byte := (blobHead ++ (leBytes 4 lo.toNat ++ leBytes 4 hi.toNat)) ++ blobTail
def goodBlob : List Byte := sealBlob (blobOf Config.uniqueLo Config.uniqueHi)
theorem blobOf_length (lo hi : BitVec 32) : (blobOf lo hi).length = 254 := by
  have a : blobHead.length = 8 := rfl
  have b : blobTail.length = 238 := by decide +kernel
  simp only [blobOf, List.length_append, length_leBytes]
  omega
theorem blobOf_pad (lo hi : BitVec 32) : padTo 254 (blobOf lo hi) = blobOf lo hi := by
  unfold padTo
  rw [← blobOf_length lo hi, slice_all]
theorem blobOf_seal (lo hi : BitVec 32) : sealBlob (blobOf lo hi) = blobOf lo hi ++ leBytes 2 (crc16 (blobOf lo hi)) := by
  unfold sealBlob
  rw [blobOf_pad]
theorem blobOf_low (lo hi : BitVec 32) (o n : Nat) (h : o + n ≤ 8) : leAt (sealBlob (blobOf lo hi)) o n = leAt blobHead o n := by
  unfold leAt
  rw [blobOf_seal, slice_left _ _ _ _ (by have := blobOf_length lo hi; omega)]
  unfold blobOf
  rw [slice_left _ _ _ _ (by simp only [List.length_append, length_leBytes, blobHead, List.length_cons, List.length_nil]; omega),
    slice_left _ _ _ _ (by simp only [blobHead, List.length_cons, List.length_nil]; omega)]
theorem blobOf_high (lo hi : BitVec 32) (o n : Nat) (h : o + n ≤ 238) : leAt (sealBlob (blobOf lo hi)) (16 + o) n = leAt blobTail o n := by
  unfold leAt
  rw [blobOf_seal, slice_left _ _ _ _ (by have := blobOf_length lo hi; omega)]
  unfold blobOf
  have e : (blobHead ++ (leBytes 4 lo.toNat ++ leBytes 4 hi.toNat)).length = 16 := by
    simp only [List.length_append, length_leBytes, blobHead, List.length_cons, List.length_nil]
  rw [← e, slice_right]
theorem blobOf_lo (lo hi : BitVec 32) : leAt (sealBlob (blobOf lo hi)) 8 4 = lo.toNat := by
  unfold leAt
  rw [blobOf_seal, slice_left _ _ _ _ (by have := blobOf_length lo hi; omega)]
  unfold blobOf
  rw [slice_left _ _ _ _ (by simp only [List.length_append, length_leBytes, blobHead, List.length_cons, List.length_nil]; omega),
    show 8 = blobHead.length + 0 from rfl, slice_right, slice_left _ _ _ _ (by have := length_leBytes 4 lo.toNat; omega)]
  have h := slice_all (leBytes 4 lo.toNat)
  rw [length_leBytes] at h
  rw [h, ofLe_leBytes, Nat.mod_eq_of_lt (Nat.lt_of_lt_of_le lo.isLt (by decide))]
theorem blobOf_hi (lo hi : BitVec 32) : leAt (sealBlob (blobOf lo hi)) 12 4 = hi.toNat := by
  unfold leAt
  rw [blobOf_seal, slice_left _ _ _ _ (by have := blobOf_length lo hi; omega)]
  unfold blobOf
  have e : 4 = (leBytes 4 lo.toNat).length + 0 := by rw [length_leBytes]
  rw [slice_left _ _ _ _ (by simp only [List.length_append, length_leBytes, blobHead, List.length_cons, List.length_nil]; omega),
    show 12 = blobHead.length + 4 from rfl, slice_right]
  have h := slice_right (leBytes 4 lo.toNat) (leBytes 4 hi.toNat) 0 4
  rw [length_leBytes] at h
  have h2 := slice_all (leBytes 4 hi.toNat)
  rw [length_leBytes] at h2
  rw [h, h2, ofLe_leBytes, Nat.mod_eq_of_lt (Nat.lt_of_lt_of_le hi.isLt (by decide))]
theorem blobOf_crc (lo hi : BitVec 32) : leAt (sealBlob (blobOf lo hi)) 0xFE 2 = crc16 (padTo 254 (sealBlob (blobOf lo hi))) := by
  have e : padTo 254 (sealBlob (blobOf lo hi)) = blobOf lo hi := by
    unfold padTo
    rw [blobOf_seal, slice_left _ _ _ _ (by have := blobOf_length lo hi; omega)]
    exact blobOf_pad lo hi
  rw [e, blobOf_seal]
  unfold leAt
  have h := slice_right (blobOf lo hi) (leBytes 2 (crc16 (blobOf lo hi))) 0 2
  rw [blobOf_length] at h
  have h2 := slice_all (leBytes 2 (crc16 (blobOf lo hi)))
  rw [length_leBytes] at h2
  rw [h, h2, ofLe_leBytes, Nat.mod_eq_of_lt (Nat.lt_of_lt_of_le (crc16_lt _) (by decide))]
theorem blobOf_check (lo hi : BitVec 32) (hl : Config.uniqueLo = lo) (hh : Config.uniqueHi = hi) :
    blobCheck (some (sealBlob (blobOf lo hi))) [] 1 1 = 1 := by
  unfold blobCheck blobLegal
  simp only [hl, hh, blobOf_lo, blobOf_hi, ← blobOf_crc, blobOf_low lo hi 0 2 (by decide), blobOf_low lo hi 4 2 (by decide), blobOf_low lo hi 2 1 (by decide),
    blobOf_high lo hi 0x08 4 (by decide), blobOf_high lo hi 0x18 4 (by decide), blobOf_high lo hi 0x1C 4 (by decide),
    blobOf_high lo hi 0x20 4 (by decide), blobOf_high lo hi 0x24 4 (by decide), blobOf_high lo hi 0x28 4 (by decide),
    blobOf_high lo hi 0x30 2 (by decide), blobOf_high lo hi 0x32 2 (by decide), blobOf_high lo hi 0x04 2 (by decide), blobOf_high lo hi 0x2C 2 (by decide)]
  simp only [ne_eq, not_true_eq_false, decide_false, Bool.or_self, Bool.false_eq_true, if_false]
  decide +kernel
def goodQ : List Byte := let l := [0x41#8, 1, 1, 0, 0, 0, 0, 2, 3, 4]; let c := 0xFFFF - crc16From 0 l
  l ++ [BitVec.ofNat 8 (c / 256), BitVec.ofNat 8 c]

theorem elderRoster_of_roster (s : State) (l : List RosterEnt) :
    ({ s with ryl := { s.ryl with roster := l } } : State).elderRoster = s.elderRoster := rfl
/-- An elder for which an ID is reserved. -/
def elderState : State := up |>.upd (fun s => s.wr RYL.ELDER 1) |>.upd (fun s => s.wr RYL.PORT_EN (7)) |>.upd (fun s => { s with ryl := { s.ryl with ports := s.ryl.ports.set 0 { s.rport 0 with sentHello := true } } }) |>.upd (fun s => { s with ryl := { s.ryl with ports := s.ryl.ports.set 1 { s.rport 1 with sentHello := true } } }) |>.upd (fun s => { s with ryl := { s.ryl with ports := s.ryl.ports.set 2 { s.rport 2 with sentHello := true } } }) |>.upd (fun s => s.wr (RYL.UP.at 1) (1)) |>.upd (fun s => s.wr RYL.ELDER (1)) |>.upd (fun s => s.wr RYL.ID_VALID (1)) |>.upd (fun s => s.wr RYL.NODE_ID (4)) |>.upd (fun s => s.wr RYL.JOIN_STATE (3)) |>.upd (fun s => { s with ryl := { s.ryl with reserved := [(77, 6)] } })
/-- A node that joins it. -/
def joiner : RosterEnt := { unique := 77, id := 6, neigh := [none, none, none] }

/-- An elder whose roster is what it makes of a node's report. -/
def joinState (s : State) (e : RosterEnt) : State :=
  { s with ryl := { s.ryl with roster := ({ s with ryl := { s.ryl with reports := [e] } } : State).elderRoster } }
theorem joinState_settled (s : State) (e : RosterEnt) (h : s.ryl.reports = []) :
    ({ joinState s e with ryl := { (joinState s e).ryl with
        reports := ((joinState s e).ryl.reports.filter fun (f : RosterEnt) => f.unique ≠ e.unique) ++ [e] } } : State).elderRoster =
      (joinState s e).ryl.roster := by
  have h' : (joinState s e).ryl.reports = [] := h
  rw [h']
  rfl

/-- An elder that two links reach. -/
def elderSync : State := up |>.upd (fun s => s.wr RYL.PORT_EN (7)) |>.upd (fun s => { s with ryl := { s.ryl with ports := s.ryl.ports.set 0 { s.rport 0 with sentHello := true } } }) |>.upd (fun s => { s with ryl := { s.ryl with ports := s.ryl.ports.set 1 { s.rport 1 with sentHello := true } } }) |>.upd (fun s => { s with ryl := { s.ryl with ports := s.ryl.ports.set 2 { s.rport 2 with sentHello := true } } }) |>.upd (fun s => s.wr (RYL.UP.at 1) (1)) |>.upd (fun s => s.wr (RYL.UP.at 0) (1)) |>.upd (fun s => s.wr RYL.ELDER (1)) |>.upd (fun s => s.wr RYL.ID_VALID (1)) |>.upd (fun s => s.wr RYL.NODE_ID (4)) |>.upd (fun s => s.wr RYL.JOIN_STATE (3))
/-- An elder that stands alone, with a route to a node. -/
def syncState (s : State) : State := { s with ryl := { s.ryl with roster := s.elderRoster, routes := [(5, 0, 1)] } }
theorem syncState_settled (s : State) : (syncState s).elderRoster = (syncState s).ryl.roster := rfl
theorem syncState_short (s : State) (h : s.ryl.reports = []) : (syncState s).ryl.roster.length ≤ 127 := by
  simp [syncState, State.elderRoster, h, connected, sortBy, insertBy]

/-- A library with room, however many blocks the system takes. -/
def roomy (s : State) : State :=
  { s.wrAll [(OAS.PAGES_PER_BLOCK, 64), (OAS.OP_PCT, 50), (OAS.SHADOW_MIB, 0)] with
    regs := (OAS.BLOCKS_PER_DIE.key, Config.systemBlocks + 1000) :: (s.wrAll [(OAS.PAGES_PER_BLOCK, 64), (OAS.OP_PCT, 50), (OAS.SHADOW_MIB, 0)]).regs
    nand := { s.nand with dies := [0, 1], bad := [], sparesUsed := [], ptrs := [], lib := [{ ns := 2, block := 50, seq := 1, die := 0, data := [] }] } }
theorem roomy_good (s : State) (d : Nat) : (roomy s).dieGood d = Config.systemBlocks + 1000 := by
  simp [State.dieGood, roomy, State.rd, storeGet]
theorem roomy_spares (s : State) (d : Nat) : (roomy s).dieSpares d ≤ 8 + (Config.systemBlocks + 1000) / 50 := by
  unfold State.dieSpares
  rw [roomy_good]
  have := quot_le 70 ((2 * (Config.systemBlocks + 1000) : Nat) : Int) 100 (by omega)
  omega
theorem roomy_gcShort (s : State) : (roomy s).gcShort = false := by
  have h : ∀ d, 4 ≤ (roomy s).dieFree d := by
    intro d
    have a := roomy_spares s d
    have c : (roomy s).sparesLeft d ≤ (roomy s).dieSpares d := Nat.sub_le _ _
    have e : ((roomy s).nand.ptrs.filter fun e => e.1.1 == d).length = 0 := rfl
    unfold State.dieFree
    rw [roomy_good, e]
    omega
  unfold State.gcShort
  simp [List.any_eq_false]
  intro d _ _
  exact h d
theorem roomy_usable (s : State) (h1 : (roomy s).rd OAS.PAGES_PER_BLOCK = 64) (h2 : (roomy s).rd OAS.OP_PCT = 50) (h3 : (roomy s).rd OAS.SHADOW_MIB = 0) :
    1 ≤ (roomy s).usable := by
  have a := roomy_spares s 0
  have b := roomy_spares s 1
  have e : (roomy s).nand.dies = [0, 1] := rfl
  unfold State.usable
  simp only [e, h1, h2, h3, roomy_good, List.map, List.foldl]
  rw [show ∀ x : Nat, ((x * 64 * 8 * (100 - 50) : Nat) : Int) = ((x * 256 : Nat) : Int) * 100 from fun x => by omega, quot_exact _ _ _ (by omega)]
  omega
theorem room_of (s : State) (k lo : Nat) (g : (s.libGet k lo).isSome = true) (h : s.nand.lib.length ≤ s.usable) : s.roomFor k lo 1 = 1 := by
  have h' : s.nand.lib.length + 0 ≤ s.usable := h
  simp [State.roomFor, List.range, List.range.loop, g, h]

/-! ### The spec's worked examples, one step each -/

/-- The state that an outcome answers. -/
def nextOf (o : Host.Outcome State Fault Refusal) : State := match o with
  | .next t => t
  | _ => {}

/-- Example 2.1 (02), first write: 5,000 to LIMIT_PS over PCIe. -/
theorem test_clamp_recorded :
    [0x058, 0x05C, 0x060, 0x064].map ((nextOf (exec (.bar0Write .pcie 2 0x04C 0xF 5000 0 none) up)).regWord 0) =
      [0x8004004C, 0x1388, 0x7D0, 1] := by decide +kernel

/-- Example 2.1 (02), second write: 100 over the serial port, after CLAMP_COUNT took 0. -/
theorem test_clamp_from_serial :
    [0x058, 0x05C, 0x060, 0x064].map
      ((nextOf (exec (.bar0Write .serial 2 0x04C 0xF 100 0 none) (up.wr TIME.LIMIT_PS 2000))).regWord 0) =
      [0x9004004C, 0x64, 0x136, 1] := by decide +kernel

/-- Example 2.2 (02): a 16-bit counter that reads 0xFFFE takes 3. -/
theorem test_counter_stops_at_all_ones :
    (((up.wr CHN.DROPOUTS 0xFFFE).add CHN.DROPOUTS 3).rd CHN.DROPOUTS, ((up.wr CHN.DROPOUTS 0xFFFE).add CHN.DROPOUTS 3).rd (Hdr.SAT 9)) =
      (0xFFFF, 1) := by decide +kernel

/-- Every leaf of the scratch's example enabled, and ERG routed to slice 5. -/
def listening : State := (up.wrAll [(Hdr.ENABLE 4, 0xFFFFFFFF), (Hdr.ENABLE 9, 0xFFFFFFFF), (Hdr.ENABLE 12, 0xFFFFFFFF), (Hdr.SLICE 12, 5)])

/-- Example 3.1 (03), steps 1 and 2: CHN.DROPOUT sets first, and FIRST_LEAF names it. -/
theorem test_first_leaf :
    ([0x078, 0x040].map ((listening.setLeaf Lf.CHN.DROPOUT).settle.regWord 1),
      [ATN.FL_VALID, ATN.FL_GROUP, ATN.FL_GBIT, ATN.FL_PAGE, ATN.FL_PBIT].map (listening.setLeaf Lf.CHN.DROPOUT).settle.rd) =
      ([0x00040000, 0x40], [1, 6, 18, 9, 18]) := by decide +kernel

/-- Example 3.1 (03), step 5: FOC_LOST beside it; the first leaf stays; ERG.SEG_NEW reaches slice 5 alone. -/
theorem test_routed_group_adds_no_summary_bit :
    [0x06C, 0x078, 0x040].map ((((listening.setLeaf Lf.CHN.DROPOUT).setLeaf Lf.SRV.FOC_LOST).setLeaf Lf.ERG.SEG_NEW).settle.regWord 1) =
      [0x4, 0x00040000, 0x01000048] := by decide +kernel

/-- Example 4.2 (04): a reply of requester epoch 3 finds EPOCH 4. -/
theorem test_stale_reply_discarded :
    LeafSet (nextOf (exec (.internalReplyArrival 0x0D 40 3 0)
      ((up.wr (Hdr.EPOCH 0x0D) 4).upd fun s => { s with openTags := [] }))) Lf.SYS.EPOCH_DISCARD := by decide +kernel

/-- Example 4.2 (04): the forced reset moves EPOCH from 3 to 4, and its end sets BLOCK_RESET_DONE. -/
def avgReset : State := nextOf (exec (.forcedBlockReset 0x0D) (up.wr (Hdr.EPOCH 0x0D) 3))
theorem test_forced_reset_moves_epoch :
    (let t := nextOf (exec (.forcedResetEnd 0x0D) avgReset)
     (t.regWord 0x0D 0x00C, decide (LeafSet t Lf.SYS.BLOCK_RESET_DONE))) = (0x400, true) := by decide +kernel

/-- Example 8.1 (08), step 2: a dropout declared while LOCKED makes CHN freewheel. -/
theorem test_dropout_freewheels :
    (let t := (up.wr CHN.STATE 2).dropout 100
     (t.rd CHN.STATE, t.rd CHN.DROPOUTS, t.rd CHN.FREEWHEELS, decide (LeafSet t Lf.CHN.DROPOUT))) = (3, 1, 1, true) := by decide +kernel

/-- Example 10.1 (10), steps 1 and 2: one byte written to a word whose data bit 37 has flipped. -/
def merged : State := nextOf (exec (.bar4Write 0x123458 [0xAB, 0, 0, 0] [true, false, false, false] [] false)
  ((up.wrAll [(MEM.WIN_WR_ANY, 1), (MEM.HOST_PAGES, 64), (Hdr.ENABLE 0x0E, 0xFFFFFFFF)]).upset [(0x2468B, 37)]))
theorem test_narrow_write_corrects :
    (merged.synd 0x2468B, (merged.wordBytes 0x2468B).map BitVec.toNat, merged.rd MEM.CE_MERGES, merged.regWord 1 0x088) =
      (0, [0xAB, 0, 0, 0, 0, 0, 0, 0], 1, 0x10) := by decide +kernel
/-- The entry that it leaves: word 0x2_468B, bit 37, once. -/
theorem test_narrow_write_logged :
    merged.mem.ceTab.map (fun e => (e.entry, e.word, e.bit, e.count)) = [(0, 0x2468B, 37, 1)] := by
  decide +kernel

/-- Example 12.1 (12): RD's completion. -/
theorem test_completion_entry_good :
    (cqEntry { cmdE 0 (ent [(4, 0x42)]) with slice := 5, qp := 1, sqHead := 5 } true false).map BitVec.toNat =
      [0, 0, 0, 0, 0, 0, 0, 0, 5, 0, 1, 1, 0x42, 0, 0, 0] := by decide +kernel

/-- Example 13.1 (13): the completion of a read shortened at the disc's end. -/
theorem test_completion_entry_residual :
    (cqEntry { cmdE 0 (ent [(4, 0), (5, 1)]) with slice := 3, sqHead := 9, specific := 1, residual := 0x30000, status := 0x1001 }
      true false).map BitVec.toNat = [1, 0, 0, 0, 0, 0, 3, 0, 9, 0, 0, 1, 0, 1, 1, 0x10] := by decide +kernel

/-- Example 14.2 (14): the claimed SRC 0x3B11 of slice 9, whose PASID is 0x3B10. -/
theorem test_spoofed_entry :
    (let t := up.spoof false 1 9 0 0x3B11 0 false
     ([SLC.SP_VALID, SLC.SP_KIND, SLC.SP_PREFIX, SLC.SP_REASON, SLC.SP_SLICE, SLC.SP_QP, SLC.SPOOF_PASID, SLC.SPOOF_REQ].map t.rd)) =
      [1, 0, 0, 1, 9, 0, 0x3B11, 0] := by decide +kernel
theorem test_completion_entry_spoofed :
    (cqEntry { cmdE 0 (ent [(4, 7)]) with slice := 9, sqHead := 4, specific := 0x3B11, residual := 4096, status := 0x2005 }
      true false).map BitVec.toNat = [0x11, 0x3B, 0, 0, 0, 0x10, 0, 0, 4, 0, 0, 1, 7, 0, 5, 0x20] := by decide +kernel

/-- Example 18.1 (18): record 5,000 as it is flushed, without its CRC. -/
theorem test_record_bytes :
    ((EvRec.bytes { opSeconds := 1000000, powerCycles := 312, sev := 1, code := 0x226, page := 0x13, slice := 0, repeats := 60000,
                    data := [0x14], lastDelta := 59 }).take 30).map BitVec.toNat =
      [0x40, 0x42, 0x0F, 0, 0x38, 1, 0, 1, 0x26, 2, 0x13, 0, 0x60, 0xEA, 0x14] ++ List.replicate 13 0 ++ [0x3B, 0] := by decide +kernel

/-- Example 17.1 (17), step 1: five flagged samples between 1,000 and 1,600. -/
theorem test_interpolated_run :
    (List.range 5).map (fun k => (AudRun.value { muted := false, before := 1000, after := 1600, n := 5, k := k })) =
      [1100, 1200, 1300, 1400, 1500] := by decide +kernel

/-- Example 1.1 (01): 2,174,000 handshakes make 460 ps. -/
theorem test_stage_ps :
    (let t := up.meter 2174000
     (t.rd TIME.STAGE_COUNT, t.rd TIME.STAGE_PS)) = (2174000, 460) := by decide +kernel

/-! ### The queue of commands -/

/-- The front command runs on the state whose queue is the rest. -/
theorem test_front_command_first :
    step { up with pending := [.refclkStop, .opSecondsTick] } = exec .refclkStop { up with pending := [.opSecondsTick] } := rfl
theorem test_queue_keeps_its_rest : (nextOf (step { up with pending := [.refclkStop, .opSecondsTick] })).pending = [.opSecondsTick] := by
  decide +kernel
/-- An empty queue lets a µs pass. -/
theorem test_empty_queue_counts_time : (nextOf (step up)).now = up.now + 1 := by decide +kernel

/-! ### What WellFormed refuses -/

/-- A node's entry. -/
def ent0 : RosterEnt := { unique := 0, id := 0, neigh := [] }

theorem test_well_formed_0 : ([
    .stageWindowEnd 0 0 0 0 0,
    .refclkStop,
    .dllLockAcquired,
    .dllUnlock,
    .servoUpdate .foc true,
    .waterClr,
    .waterClrDone,
    .nowLoRead .pcie,
    .opSecondsTick,
    .bar0Write .pcie 0 0 0 0 0 none,
    .chipResetKey .pcie 0,
    .quiesceWrite 0 true,
    .blockDrained 0,
    .forcedBlockReset 0,
    .forcedResetEnd 0,
    .blockGate 0,
    .blockGated 0,
    .blockUngate 0,
    .ungateDone 0,
    .gateFaultTimeout 0,
    .shdHoldWrite 0 true,
    .internalReplyArrival 0 0 0 0,
    .quarantineExpiry 0,
    .atnForceWrite 0 0
  ] : List Instr).all Instr.wellFormed = true := by decide +kernel

theorem test_well_formed_1 : ([
    .grpPendClear 0 0,
    .routedClear 0 0 0,
    .atnSliceWrite .pcie 0 0 0,
    .pinCtlWrite .pcie 0 0,
    .summaryRead .pcie,
    .powerOnReset,
    .stbyPowerLoss,
    .railLow 0,
    .railGood 0,
    .brownout,
    .coreResetRelease true,
    .sramZeroFillDone [],
    .engineRelease .empty .empty,
    .perstAssert,
    .perstDeassert,
    .functionLevelReset,
    .hotReset,
    .functionResetDone,
    .idleTimerExpiry 1,
    .dozeEntryDone,
    .napEntryDone,
    .standbyEntryCommit,
    .dischargeWaitEnd,
    .powerCmdGo
  ] : List Instr).all Instr.wellFormed = true := by decide +kernel

theorem test_well_formed_2 : ([
    .idleTimerWrite .pcie 136 0 0,
    .hwakeEvent,
    .wakePinEvent 0,
    .loaderWakeEvent,
    .rylWakeActivity 0,
    .dozeExitDone,
    .napExitDone,
    .standbyExitDone .empty .empty,
    .powerFail,
    .powerFailFlushDone,
    .powerRestored,
    .calRunGo,
    .calRunStart,
    .calRunStepEnd {},
    .calRunAbort,
    .calRestoreGo,
    .calRestoreStart,
    .calRestoreEnd (List.replicate 8 0) 0 1,
    .focCloseWrite .pcie 0 0,
    .trkCloseWrite .pcie 0 0,
    .lpcWaveWrite .pcie 0 0,
    .focusTrackingSample (List.replicate 8 0) 0 0 1 0 0,
    .acqSweepExhausted,
    .focusLoss
  ] : List Instr).all Instr.wellFormed = true := by decide +kernel

theorem test_well_formed_3 : ([
    .trkPullinTimeout,
    .trackingLock,
    .trackingLoss,
    .duneHoldExit .foc,
    .duneHoldMax .foc,
    .ffLearnWrap,
    .layerJumpGo,
    .layerJumpKickEnd,
    .layerJumpBrakeEnd,
    .layerJumpTimeout,
    .layerJumpSettled,
    .loopReleaseDone .foc,
    .lpcSample 0,
    .laserMonFail,
    .laserLocked,
    .laserRampDone,
    .lpcOverUnder,
    .dacFault .foc,
    .driveSatRun .foc,
    .ffClear .foc,
    .crossClear,
    .refCapture,
    .spindleSample 0 0,
    .commutationEvent 0 true 0 0
  ] : List Instr).all Instr.wellFormed = true := by decide +kernel

theorem test_well_formed_4 : ([
    .spindleAlignDone,
    .spindleLock,
    .spnCtlWrite .pcie 0 0,
    .speedCapWrite .pcie 0 0,
    .zoneTableWrite .pcie true 0 0 0,
    .spindleStopped,
    .spindleFaultPin,
    .spindleStallTimeout,
    .seekGo,
    .seekStart,
    .seekCoarseDone 0,
    .seekTimeout,
    .seekAbort,
    .sledSample 0 0,
    .homeGo,
    .homeReached,
    .sledFaultPin,
    .sledStallTimeout,
    .loaderOpen,
    .loaderClose,
    .loaderDetect,
    .limitAChange true,
    .limitBChange true,
    .slotChange true
  ] : List Instr).all Instr.wellFormed = true := by decide +kernel

theorem test_well_formed_5 : ([
    .ejectButton,
    .ejectMotionStart,
    .loadTimeout,
    .bothLimitsFault,
    .loaderFaultPin,
    .loaderThermalTimeout,
    .detectStepDone {},
    .chnBitBlockBoundary {},
    .timingLock [],
    .timingLost [],
    .dropoutDeclared 0,
    .dropoutEnd 0,
    .freewheelTimeout,
    .blankTimeout,
    .blankEnd,
    .rfOkChange true 0,
    .overrate,
    .eqLoad,
    .syncFound 0 0 0,
    .syncInsert,
    .codewordDecode 0 0 true true true,
    .subcodeBlock (List.replicate 12 0) true,
    .dvdIdField none,
    .subqRead .pcie
  ] : List Instr).all Instr.wellFormed = true := by decide +kernel

theorem test_well_formed_6 : ([
    .unitDecodeDone { addr := 0, sectors := [] },
    .rereadAttemptDone { addr := 0, sectors := [] },
    .avgAccumulatorGrant,
    .avgAllocTimeout,
    .avgPassEnd { frames := [] },
    .avgAbort,
    .borrowTimeout 0 0,
    .ergClear,
    .ergSave,
    .ergScan,
    .ergScanDone,
    .segDataRead .pcie,
    .bar4Read 0 4 [0, 0, 0] true,
    .bar4Write 0 [] [] [0, 0, 0] true,
    .poisonedTlp (.completion none),
    .scrubWord [] true,
    .scrubLate,
    .tblClearCe,
    .tblClearUe,
    .tblDataRead .pcie 0,
    .hostPagesWrite .pcie 0 0,
    .hostPagesTakeEffect,
    .pageAllocGrant,
    .pageFree 0
  ] : List Instr).all Instr.wellFormed = true := by decide +kernel

theorem test_well_formed_7 : ([
    .configRequest (.read 0) 0,
    .unsupportedRequest true [0, 0, 0],
    .pcieMessage .other [0, 0, 0],
    .dmaReadCompletion 0 0 [] true,
    .completionTimeout none,
    .pcieLinkUp true,
    .pcieLinkDown,
    .pcieRetrain,
    .pcieRetrainDone true true,
    .serialRead true 0 0 [],
    .serialQread true 0 0 [],
    .serialWrite true 0 [],
    .serialQwrite true 0 [],
    .serialStatus true,
    .serialBadOpcode true 0,
    .serialCsAbort true true .opcode,
    .serialWaitLimit true true 0,
    .serialBufferedApply,
    .qpCreate,
    .qpDelete,
    .qpDeleteDone 0 0,
    .qpAbort,
    .qpAbortDone 0 0,
    .sqDoorbell .pcie 0 0 0 0 none
  ] : List Instr).all Instr.wellFormed = true := by decide +kernel

theorem test_well_formed_8 : ([
    .cqHeadDoorbell .pcie 0 0 0 0 none,
    .entryFetch (List.replicate 64 0) true,
    .commandDispatch 0,
    .completionWrite 0 true,
    .overloadTimer 0,
    .hazardWaitLong 0,
    .fenceWaitLong 0,
    .readahead 0,
    .latClr,
    .testUnitReady 0,
    .requestSense 0,
    .inquiry 0,
    .startStopUnit 0,
    .preventAllowMediumRemoval 0,
    .read10 0,
    .read12 0,
    .readCd 0,
    .readCdMsf 0,
    .readTocPmaAtip 0,
    .readDiscInformation 0,
    .readTrackInformation 0,
    .getConfiguration 0,
    .getEventStatusNotification 0,
    .mechanismStatus 0
  ] : List Instr).all Instr.wellFormed = true := by decide +kernel

theorem test_well_formed_9 : ([
    .setCdSpeed 0,
    .modeSense10 0,
    .modeSelect10 0,
    .nop 0,
    .identify 0,
    .abortAll 0,
    .read 0,
    .write 0,
    .trim 0,
    .verify 0,
    .libFormat 0 [],
    .libMount 0,
    .libUnmount 0,
    .rip 0,
    .shadowLookup 0,
    .shadowPurge 0,
    .rylRoster 0,
    .servoTestAcquire 0,
    .servoTestSeek 0,
    .servoTestRunout 0,
    .servoTestSweep 0,
    .calRun 0,
    .calRestore 0,
    .calSave 0
  ] : List Instr).all Instr.wellFormed = true := by decide +kernel

theorem test_well_formed_10 : ([
    .recDump 0,
    .recErase 0,
    .traceCtlStart 0,
    .traceCtlStop 0,
    .traceCtlFilter 0,
    .audioPlay 0,
    .audioStop 0,
    .cmdStallTimeout 0,
    .slcTableCommit,
    .sliceReset,
    .sliceResetDone 0,
    .sliceAbort,
    .wadiRefill,
    .engineUnitBoundary 0,
    .unitWaitLong 0 0,
    .shareWindowEnd,
    .nandProgramDone 0 0 0 .other true true,
    .nandEraseDone 0 0 true true,
    .nandReadDone 0 0 [],
    .nandBusyLong 0 true,
    .mountDone true true,
    .rawRead,
    .rawReadRaw,
    .rawProgram
  ] : List Instr).all Instr.wellFormed = true := by decide +kernel

theorem test_well_formed_11 : ([
    .rawErase,
    .rawOpDone {},
    .garbageCollection 0 0,
    .shadowStoreWrite,
    .rylLinkUp 0,
    .rylLinkDown 0,
    .helloReceived 0 { body := .hello 0 none 0 },
    .electReceived 0 { body := .elect 0 0 0 },
    .joinReqReceived 0 { body := .joinReq 0 none [] },
    .joinGrantReceived 0 { body := .joinGrant 0 0 [] },
    .neighReceived 0 { body := .neigh ent0 },
    .rosterReceived 0 { body := .roster 0 [] [] },
    .syncReqReceived 0 { body := .syncReq },
    .rosterFullReceived 0 { body := .rosterFull 0 [] },
    .nsReqReceived 0 { body := .nsReq [] },
    .nsDataReceived 0 { body := .nsData [] },
    .nsDoneReceived 0 { body := .nsDone 0 0 0 },
    .progressReceived 0 { body := .progress },
    .borrowReqReceived 0 { body := .borrowReq [] 0 0 1 },
    .borrowDataReceived 0 { body := .borrowData [] } true,
    .borrowDoneReceived 0 { body := .borrowDone 0 },
    .reservedCaravanReceived 0 { body := .reserved },
    .badCaravan 0 true,
    .ackReceived 0 0
  ] : List Instr).all Instr.wellFormed = true := by decide +kernel

theorem test_well_formed_12 : ([
    .nakReceived 0 0,
    .creditsReceived 0 1,
    .replayTimeout 0,
    .creditStall 0,
    .caravanLifetimeExpiry 0,
    .elderQuietExpiry,
    .heartbeatTimer,
    .elderLost,
    .joinRetry,
    .idReservationExpiry 0,
    .routeRebuildDone,
    .exporterProgressTimer 0 0,
    .remoteProgressTimeout 0,
    .portRetrain 0,
    .portWake 0,
    .audioFrameBoundary,
    .audioSectorEnter,
    .spdifBlockBoundary,
    .mclkLost,
    .mclkBack,
    .audioMuteWrite true,
    .audioPauseWrite true,
    .audioSourceWrite true,
    .recFlushGo
  ] : List Instr).all Instr.wellFormed = true := by decide +kernel

theorem test_well_formed_13 : ([
    .recFlushTimer,
    .recFlushDone true,
    .recWrite,
    .lifeSaveTimer,
    .lifeCounterRestore,
    .rdDataRead .pcie 0,
    .traceStart,
    .traceStop,
    .traceBatchWrite true,
    .traceBatchTimeout true,
    .traceRptrWrite .pcie 0 0,
    .tracePostDone,
    .mirKeyWrite 0,
    .mirLock,
    .mirAutoLock,
    .mirHookWrite .pcie 0 0 0,
    .mirSlotWrite .pcie 256 0 0,
    .mirBackpressWindow 0,
    .testenRise,
    .testenFall,
    .tapLeaveReset,
    .extest (List.replicate 83 false) [],
    .samplePreload (List.replicate 83 false) [],
    .idcode []
  ] : List Instr).all Instr.wellFormed = true := by decide +kernel

theorem test_well_formed_14 : ([
    .clamp [],
    .highz [],
    .bypass 3 [],
    .freewheelRelock [],
    .codeError 0,
    .receiverErr .receiver none,
    .pcieReplayTimeout true none,
    .engineBacklog 0,
    .tapReset
  ] : List Instr).all Instr.wellFormed = true := by decide +kernel

theorem test_ill_formed_0 : ([
    .stageWindowEnd 4194304 0 0 0 0,
    .stageWindowEnd 0 4194304 0 0 0,
    .stageWindowEnd 0 0 4194304 0 0,
    .stageWindowEnd 0 0 0 4294967296 0,
    .stageWindowEnd 0 0 0 0 65536,
    .bar0Write .pcie 96 0 0 0 0 none,
    .bar0Write .serial 33 0 0 0 0 none,
    .bar0Write .pcie 0 4096 0 0 0 none,
    .bar0Write .pcie 0 1 0 0 0 none,
    .bar0Write .pcie 0 0 16 0 0 none,
    .bar0Write .pcie 0 0 0 4294967296 0 none,
    .bar0Write .pcie 0 0 0 0 65536 none,
    .bar0Write .pcie 0 0 0 0 0 (some 1048576),
    .chipResetKey .pcie 4294967296,
    .quiesceWrite 32 true,
    .blockDrained 32,
    .forcedBlockReset 32,
    .forcedResetEnd 32,
    .blockGate 32,
    .blockGated 32,
    .blockUngate 32,
    .ungateDone 32,
    .gateFaultTimeout 32,
    .shdHoldWrite 32 true
  ] : List Instr).all (fun i => !i.wellFormed) = true := by decide +kernel

theorem test_ill_formed_1 : ([
    .internalReplyArrival 32 0 0 0,
    .internalReplyArrival 0 2048 0 0,
    .internalReplyArrival 0 0 256 0,
    .internalReplyArrival 0 0 0 256,
    .quarantineExpiry 65536,
    .atnForceWrite 32 0,
    .atnForceWrite 0 4294967296,
    .grpPendClear 24 0,
    .grpPendClear 0 4294967296,
    .routedClear 64 0 0,
    .routedClear 0 24 0,
    .routedClear 0 0 4294967296,
    .atnSliceWrite .pcie 32 0 0,
    .atnSliceWrite .pcie 0 16 0,
    .atnSliceWrite .pcie 0 0 4294967296,
    .pinCtlWrite .pcie 16 0,
    .pinCtlWrite .pcie 0 4294967296,
    .railLow 6,
    .railGood 6,
    .sramZeroFillDone [(786432, 0)],
    .sramZeroFillDone [(0, 72)],
    .engineRelease (.part { dies := 9, blocks := 1, pages := 1, spare := 0, trUs := 0, tprogUs := 0, tbersMs := 0, sdrMax := 0, ddrMax := none }) .empty,
    .engineRelease .empty (.part { dies := 9, blocks := 1, pages := 1, spare := 0, trUs := 0, tprogUs := 0, tbersMs := 0, sdrMax := 0, ddrMax := none }),
    .idleTimerExpiry 0
  ] : List Instr).all (fun i => !i.wellFormed) = true := by decide +kernel

theorem test_ill_formed_2 : ([
    .idleTimerExpiry 4,
    .idleTimerWrite .pcie 132 0 0,
    .idleTimerWrite .pcie 152 0 0,
    .idleTimerWrite .pcie 137 0 0,
    .idleTimerWrite .pcie 136 16 0,
    .idleTimerWrite .pcie 136 0 4294967296,
    .wakePinEvent 4,
    .rylWakeActivity 3,
    .standbyExitDone (.part { dies := 9, blocks := 1, pages := 1, spare := 0, trUs := 0, tprogUs := 0, tbersMs := 0, sdrMax := 0, ddrMax := none }) .empty,
    .standbyExitDone .empty (.part { dies := 9, blocks := 1, pages := 1, spare := 0, trUs := 0, tprogUs := 0, tbersMs := 0, sdrMax := 0, ddrMax := none }),
    .calRunStepEnd { tiaTrim := [0] },
    .calRestoreEnd [] 0 1,
    .calRestoreEnd (List.replicate 8 0) 65536 1,
    .calRestoreEnd (List.replicate 8 0) 0 0,
    .calRestoreEnd (List.replicate 8 0) 0 65536,
    .focCloseWrite .pcie 16 0,
    .focCloseWrite .pcie 0 4294967296,
    .trkCloseWrite .pcie 16 0,
    .trkCloseWrite .pcie 0 4294967296,
    .lpcWaveWrite .pcie 16 0,
    .lpcWaveWrite .pcie 0 4294967296,
    .focusTrackingSample [] 0 0 1 0 0,
    .focusTrackingSample (4096 :: List.replicate 7 0) 0 0 1 0 0,
    .focusTrackingSample (List.replicate 8 0) 0 0 0 0 0
  ] : List Instr).all (fun i => !i.wellFormed) = true := by decide +kernel

theorem test_ill_formed_3 : ([
    .focusTrackingSample (List.replicate 8 0) ((-32769)) 0 1 0 0,
    .focusTrackingSample (List.replicate 8 0) 32768 0 1 0 0,
    .duneHoldExit .spn,
    .duneHoldMax .spn,
    .loopReleaseDone .spn,
    .lpcSample 4096,
    .dacFault .spn,
    .driveSatRun .spn,
    .ffClear .spn,
    .spindleSample 65536 0,
    .spindleSample 0 256,
    .commutationEvent 8 true 0 0,
    .commutationEvent 0 true 65536 0,
    .commutationEvent 0 true 0 8,
    .spnCtlWrite .pcie 16 0,
    .spnCtlWrite .pcie 0 4294967296,
    .speedCapWrite .pcie 16 0,
    .speedCapWrite .pcie 0 4294967296,
    .zoneTableWrite .pcie true 16 0 0,
    .zoneTableWrite .pcie true 0 16 0,
    .zoneTableWrite .pcie true 0 0 4294967296,
    .seekCoarseDone 65536,
    .sledSample 65536 0,
    .detectStepDone { disc := 10 }
  ] : List Instr).all (fun i => !i.wellFormed) = true := by decide +kernel

theorem test_ill_formed_4 : ([
    .chnBitBlockBoundary { taps := [] },
    .timingLock (List.replicate 1025 0),
    .timingLock [2049],
    .timingLost (List.replicate 1025 0),
    .timingLost [2049],
    .dropoutDeclared 4096,
    .dropoutEnd 4096,
    .rfOkChange true 4096,
    .syncFound ((-129)) 0 0,
    .syncFound 128 0 0,
    .syncFound 0 8 0,
    .syncFound 0 0 26,
    .codewordDecode 256 0 true true true,
    .codewordDecode 0 65536 true true true,
    .subcodeBlock [] true,
    .dvdIdField (some 4294967296),
    .unitDecodeDone { addr := 16777216, sectors := [] },
    .rereadAttemptDone { addr := 16777216, sectors := [] },
    .avgPassEnd { frames := [], addr := some 16777216 },
    .borrowTimeout 16777216 0,
    .borrowTimeout 0 2,
    .bar4Read 1 4 [0, 0, 0] true,
    .bar4Read 0 5 [0, 0, 0] true,
    .bar4Read 0 3 [0, 0, 0] true
  ] : List Instr).all (fun i => !i.wellFormed) = true := by decide +kernel

theorem test_ill_formed_5 : ([
    .bar4Read 0 4100 [0, 0, 0] true,
    .bar4Read 8388608 4 [0, 0, 0] true,
    .bar4Read 0 4 [0, 0] true,
    .bar4Read 0 4 [0, 0, 0, 0, 0] true,
    .bar4Read 0 4 [4294967296, 0, 0] true,
    .bar4Write 8388608 [0] [] [0, 0, 0] true,
    .bar4Write 0 (List.replicate 4097 0) [] [0, 0, 0] true,
    .bar4Write 0 [] [true] [0, 0, 0] true,
    .bar4Write 0 [] [] [0, 0] true,
    .bar4Write 0 [] [] [0, 0, 0, 0, 0] true,
    .bar4Write 0 [] [] [4294967296, 0, 0] true,
    .poisonedTlp (.completion (some 256)),
    .scrubWord [(786432, 0)] true,
    .scrubWord [(0, 72)] true,
    .tblDataRead .pcie 2,
    .hostPagesWrite .pcie 16 0,
    .hostPagesWrite .pcie 0 4294967296,
    .pageFree 1536,
    .configRequest (.read 2) 0,
    .configRequest (.read 0) 65536,
    .unsupportedRequest true [0, 0],
    .unsupportedRequest true [0, 0, 0, 0, 0],
    .unsupportedRequest true [4294967296, 0, 0],
    .pcieMessage .other [0, 0]
  ] : List Instr).all (fun i => !i.wellFormed) = true := by decide +kernel

theorem test_ill_formed_6 : ([
    .pcieMessage .other [0, 0, 0, 0, 0],
    .pcieMessage .other [4294967296, 0, 0],
    .dmaReadCompletion 256 0 [] true,
    .dmaReadCompletion 0 2 [] true,
    .dmaReadCompletion 0 0 (List.replicate 4097 0) true,
    .completionTimeout (some 256),
    .serialRead true 4294967296 0 [],
    .serialRead true 0 65536 [],
    .serialRead true 0 0 [0],
    .serialQread true 4294967296 0 [],
    .serialQread true 0 65536 [],
    .serialQread true 0 0 [0],
    .serialWrite true 4294967296 [],
    .serialQwrite true 4294967296 [],
    .serialBadOpcode true 256,
    .serialCsAbort true true (.read 4294967296 0),
    .serialWaitLimit true true 4294967296,
    .qpDeleteDone 64 0,
    .qpDeleteDone 0 8,
    .qpAbortDone 64 0,
    .qpAbortDone 0 8,
    .sqDoorbell .pcie 64 0 0 0 none,
    .sqDoorbell .pcie 0 8 0 0 none,
    .sqDoorbell .pcie 0 0 1024 0 none
  ] : List Instr).all (fun i => !i.wellFormed) = true := by decide +kernel

theorem test_ill_formed_7 : ([
    .sqDoorbell .pcie 0 0 0 65536 none,
    .sqDoorbell .serial 1 0 0 0 none,
    .sqDoorbell .pcie 0 0 0 0 (some 1048576),
    .cqHeadDoorbell .pcie 64 0 0 0 none,
    .cqHeadDoorbell .pcie 0 8 0 0 none,
    .cqHeadDoorbell .pcie 0 0 1024 0 none,
    .cqHeadDoorbell .pcie 0 0 0 65536 none,
    .cqHeadDoorbell .serial 1 0 0 0 none,
    .cqHeadDoorbell .pcie 0 0 0 0 (some 1048576),
    .entryFetch [] true,
    .commandDispatch 512,
    .completionWrite 512 true,
    .overloadTimer 64,
    .hazardWaitLong 512,
    .fenceWaitLong 512,
    .readahead 257,
    .testUnitReady 512,
    .requestSense 512,
    .inquiry 512,
    .startStopUnit 512,
    .preventAllowMediumRemoval 512,
    .read10 512,
    .read12 512,
    .readCd 512
  ] : List Instr).all (fun i => !i.wellFormed) = true := by decide +kernel

theorem test_ill_formed_8 : ([
    .readCdMsf 512,
    .readTocPmaAtip 512,
    .readDiscInformation 512,
    .readTrackInformation 512,
    .getConfiguration 512,
    .getEventStatusNotification 512,
    .mechanismStatus 512,
    .setCdSpeed 512,
    .modeSense10 512,
    .modeSelect10 512,
    .nop 512,
    .identify 512,
    .abortAll 512,
    .read 512,
    .write 512,
    .trim 512,
    .verify 512,
    .libFormat 512 [],
    .libFormat 0 [(8, 0)],
    .libFormat 0 [(0, 65536)],
    .libMount 512,
    .libUnmount 512,
    .rip 512,
    .shadowLookup 512
  ] : List Instr).all (fun i => !i.wellFormed) = true := by decide +kernel

theorem test_ill_formed_9 : ([
    .shadowPurge 512,
    .rylRoster 512,
    .servoTestAcquire 512,
    .servoTestSeek 512,
    .servoTestRunout 512,
    .servoTestSweep 512,
    .calRun 512,
    .calRestore 512,
    .calSave 512,
    .recDump 512,
    .recErase 512,
    .traceCtlStart 512,
    .traceCtlStop 512,
    .traceCtlFilter 512,
    .audioPlay 512,
    .audioStop 512,
    .cmdStallTimeout 512,
    .sliceResetDone 64,
    .engineUnitBoundary 4,
    .unitWaitLong 4 0,
    .unitWaitLong 0 512,
    .nandProgramDone 8 0 0 .other true true,
    .nandProgramDone 0 65536 0 .other true true,
    .nandProgramDone 0 0 1024 .other true true
  ] : List Instr).all (fun i => !i.wellFormed) = true := by decide +kernel

theorem test_ill_formed_10 : ([
    .nandEraseDone 8 0 true true,
    .nandEraseDone 0 65536 true true,
    .nandReadDone 512 0 [],
    .nandReadDone 0 8 [],
    .nandReadDone 0 0 (List.replicate 9 { ns := 0, block := 0, first := [some 0, some 0] }),
    .nandReadDone 0 0 [{ ns := 16, block := 0, first := [some 0, some 0] }],
    .nandBusyLong 8 true,
    .rawOpDone { ptr := 1025 },
    .garbageCollection 8 0,
    .garbageCollection 0 65536,
    .rylLinkUp 3,
    .rylLinkDown 3,
    .helloReceived 3 { body := .hello 0 none 0 },
    .helloReceived 0 { hops := 256, body := .hello 0 none 0 },
    .helloReceived 0 { body := .elect 0 0 0 },
    .electReceived 3 { body := .elect 0 0 0 },
    .electReceived 0 { hops := 256, body := .elect 0 0 0 },
    .electReceived 0 { body := .joinReq 0 none [] },
    .joinReqReceived 3 { body := .joinReq 0 none [] },
    .joinReqReceived 0 { hops := 256, body := .joinReq 0 none [] },
    .joinReqReceived 0 { body := .joinGrant 0 0 [] },
    .joinGrantReceived 3 { body := .joinGrant 0 0 [] },
    .joinGrantReceived 0 { hops := 256, body := .joinGrant 0 0 [] },
    .joinGrantReceived 0 { body := .neigh ent0 }
  ] : List Instr).all (fun i => !i.wellFormed) = true := by decide +kernel

theorem test_ill_formed_11 : ([
    .neighReceived 3 { body := .neigh ent0 },
    .neighReceived 0 { hops := 256, body := .neigh ent0 },
    .neighReceived 0 { body := .roster 0 [] [] },
    .rosterReceived 3 { body := .roster 0 [] [] },
    .rosterReceived 0 { hops := 256, body := .roster 0 [] [] },
    .rosterReceived 0 { body := .syncReq },
    .syncReqReceived 3 { body := .syncReq },
    .syncReqReceived 0 { hops := 256, body := .syncReq },
    .syncReqReceived 0 { body := .rosterFull 0 [] },
    .rosterFullReceived 3 { body := .rosterFull 0 [] },
    .rosterFullReceived 0 { hops := 256, body := .rosterFull 0 [] },
    .rosterFullReceived 0 { body := .nsReq [] },
    .nsReqReceived 3 { body := .nsReq [] },
    .nsReqReceived 0 { hops := 256, body := .nsReq [] },
    .nsReqReceived 0 { body := .nsData [] },
    .nsDataReceived 3 { body := .nsData [] },
    .nsDataReceived 0 { hops := 256, body := .nsData [] },
    .nsDataReceived 0 { body := .nsDone 0 0 0 },
    .nsDoneReceived 3 { body := .nsDone 0 0 0 },
    .nsDoneReceived 0 { hops := 256, body := .nsDone 0 0 0 },
    .nsDoneReceived 0 { body := .progress },
    .progressReceived 3 { body := .progress },
    .progressReceived 0 { hops := 256, body := .progress },
    .progressReceived 0 { body := .borrowReq [] 0 0 1 }
  ] : List Instr).all (fun i => !i.wellFormed) = true := by decide +kernel

theorem test_ill_formed_12 : ([
    .borrowReqReceived 3 { body := .borrowReq [] 0 0 1 },
    .borrowReqReceived 0 { hops := 256, body := .borrowReq [] 0 0 1 },
    .borrowReqReceived 0 { body := .borrowData [] },
    .borrowDataReceived 3 { body := .borrowData [] } true,
    .borrowDataReceived 0 { hops := 256, body := .borrowData [] } true,
    .borrowDataReceived 0 { body := .borrowDone 0 } true,
    .borrowDoneReceived 3 { body := .borrowDone 0 },
    .borrowDoneReceived 0 { hops := 256, body := .borrowDone 0 },
    .borrowDoneReceived 0 { body := .reserved },
    .reservedCaravanReceived 3 { body := .reserved },
    .reservedCaravanReceived 0 { hops := 256, body := .reserved },
    .reservedCaravanReceived 0 { body := .hello 0 none 0 },
    .badCaravan 3 true,
    .ackReceived 3 0,
    .ackReceived 0 256,
    .nakReceived 3 0,
    .nakReceived 0 256,
    .creditsReceived 3 1,
    .creditsReceived 0 0,
    .creditsReceived 0 33,
    .replayTimeout 3,
    .creditStall 3,
    .caravanLifetimeExpiry 4,
    .idReservationExpiry 65536
  ] : List Instr).all (fun i => !i.wellFormed) = true := by decide +kernel

theorem test_ill_formed_13 : ([
    .exporterProgressTimer 65536 0,
    .exporterProgressTimer 0 65536,
    .remoteProgressTimeout 512,
    .portRetrain 3,
    .portWake 3,
    .rdDataRead .pcie 8,
    .traceRptrWrite .pcie 16 0,
    .traceRptrWrite .pcie 0 4294967296,
    .mirKeyWrite 4294967296,
    .mirHookWrite .pcie 32 0 0,
    .mirHookWrite .pcie 0 16 0,
    .mirHookWrite .pcie 0 0 4294967296,
    .mirSlotWrite .pcie 252 0 0,
    .mirSlotWrite .pcie 384 0 0,
    .mirSlotWrite .pcie 257 0 0,
    .mirSlotWrite .pcie 256 16 0,
    .mirSlotWrite .pcie 256 0 4294967296,
    .mirBackpressWindow 32,
    .extest [] [],
    .samplePreload [] [],
    .bypass 16 [],
    .bypass 0 [],
    .bypass 1 [],
    .bypass 2 []
  ] : List Instr).all (fun i => !i.wellFormed) = true := by decide +kernel

theorem test_ill_formed_14 : ([
    .bypass 4 [],
    .bypass 5 [],
    .freewheelRelock (List.replicate 1025 0),
    .freewheelRelock [2049],
    .codeError 3,
    .receiverErr .receiver (some 3),
    .pcieReplayTimeout true (some 3),
    .engineBacklog 4
  ] : List Instr).all (fun i => !i.wellFormed) = true := by decide +kernel

theorem test_ill_formed_long (l : List Byte) (h : l.length = 65536) :
    (Instr.serialWrite true 0 l).wellFormed = false ∧ (Instr.serialQwrite true 0 l).wellFormed = false ∧
      (SerialCut.write 0 l).wellFormed = false := by
  unfold Instr.wellFormed SerialCut.wellFormed
  simp [h]

theorem test_ill_formed_calMeas : ([
    { tiaTrim := [0] },
    { tiaGain := [0] },
    { focSeg := [0], trkSeg := [0] },
    { trkSeg := [0] },
    { tdc := [0] },
    { tdcSel := [96] },
    { gain780 := 65536 },
    { gain650 := 65536 }
  ] : List CalMeas).all (fun i => !i.wellFormed) = true := by decide +kernel

theorem test_ill_formed_bitBlock : ([
    { errs := List.replicate 1025 0 },
    { errs := [2049] },
    { errs := [-2049] },
    { bottom := -1025 },
    { bottom := 769 },
    { top := 2048 },
    { taps := [0] },
    { taps := [0, 0, 0, 0, 0, 0, 2] },
    { snr := 65536 },
    { asym := -32769 },
    { asym := 32768 },
    { clips := some 65537 }
  ] : List BitBlock).all (fun i => !i.wellFormed) = true := by decide +kernel

theorem test_ill_formed_nandPart : ([
    { dies := 0, blocks := 1, pages := 1, spare := 0, trUs := 0, tprogUs := 0, tbersMs := 0, sdrMax := 0, ddrMax := none },
    { dies := 9, blocks := 1, pages := 1, spare := 0, trUs := 0, tprogUs := 0, tbersMs := 0, sdrMax := 0, ddrMax := none },
    { dies := 1, blocks := 65536, pages := 1, spare := 0, trUs := 0, tprogUs := 0, tbersMs := 0, sdrMax := 0, ddrMax := none },
    { dies := 1, blocks := 1, pages := 65536, spare := 0, trUs := 0, tprogUs := 0, tbersMs := 0, sdrMax := 0, ddrMax := none },
    { dies := 1, blocks := 1, pages := 1, spare := 65536, trUs := 0, tprogUs := 0, tbersMs := 0, sdrMax := 0, ddrMax := none },
    { dies := 1, blocks := 1, pages := 1, spare := 0, trUs := 65536, tprogUs := 0, tbersMs := 0, sdrMax := 0, ddrMax := none },
    { dies := 1, blocks := 1, pages := 1, spare := 0, trUs := 0, tprogUs := 65536, tbersMs := 0, sdrMax := 0, ddrMax := none },
    { dies := 1, blocks := 1, pages := 1, spare := 0, trUs := 0, tprogUs := 0, tbersMs := 65536, sdrMax := 0, ddrMax := none },
    { dies := 1, blocks := 1, pages := 1, spare := 0, trUs := 0, tprogUs := 0, tbersMs := 0, sdrMax := 6, ddrMax := none },
    { dies := 1, blocks := 1, pages := 1, spare := 0, trUs := 0, tprogUs := 0, tbersMs := 0, sdrMax := 0, ddrMax := some 6 }
  ] : List NandPart).all (fun i => !i.wellFormed) = true := by decide +kernel

theorem test_ill_formed_sectorRead : ([
    { ns := 16, block := 0, first := [some 0, some 0] },
    { ns := 0, block := 0, first := [] },
    { ns := 0, block := 0, first := [some 73, none] },
    { ns := 0, block := 0, first := [none, none], again := [none] },
    { ns := 0, block := 0, first := [none, none], last := [some 73, none] }
  ] : List SectorRead).all (fun i => !i.wellFormed) = true := by decide +kernel

theorem test_ill_formed_rawResult : ([
    { data := List.replicate 18529 0 },
    { bits := List.replicate 17 none },
    { bits := [some 73] },
    { zeros := List.replicate 17 0 },
    { ptr := 1025 }
  ] : List RawResult).all (fun i => !i.wellFormed) = true := by decide +kernel

theorem test_ill_formed_caravan : ([
    { hops := 256, body := .progress },
    { dst := 65536, body := .progress },
    { src := 65536, body := .progress },
    { tag := 65536, body := .progress },
    { epoch := 256, body := .progress },
    { lseq := 256, body := .progress },
    { param := 16777216, body := .progress }
  ] : List Caravan).all (fun i => !i.wellFormed) = true := by decide +kernel

theorem test_ill_formed_decode : ([
    { addr := 16777216, sectors := [] },
    { addr := 0, layer := 2, sectors := [] },
    { addr := 0, sectors := List.replicate 17 { kind := 0, data := List.replicate 2352 0 } },
    { addr := 0, sectors := [], frames := [(4096, 0)] },
    { addr := 0, sectors := [], failed := some (0, 4096) },
    { addr := 0, sectors := [{ index := 16, kind := 0, data := List.replicate 2352 0 }] },
    { addr := 0, sectors := [{ kind := 5, data := List.replicate 2352 0 }] },
    { addr := 0, sectors := [{ kind := 4, data := List.replicate 2352 0 }] },
    { addr := 0, sectors := [{ kind := 0, data := List.replicate 2352 0, sub := List.replicate 97 0 }] },
    { addr := 0, sectors := [{ kind := 0, data := List.replicate 2352 0, c2 := List.replicate 295 0 }] }
  ] : List Decode).all (fun i => !i.wellFormed) = true := by decide +kernel

theorem test_ill_formed_pass : ([
    { frames := [{ found := true, at_ := 0, samples := [64] }] },
    { frames := [{ found := true, corr := 65536, at_ := 0, samples := [] }] },
    { frames := [], addr := some 16777216 }
  ] : List Pass).all (fun i => !i.wellFormed) = true := by decide +kernel

theorem test_ill_formed_cfgReq : ([
    .read 4096,
    .read 2,
    .write 4096 0 0,
    .write 2 0 0,
    .write 0 16 0,
    .write 0 0 4294967296
  ] : List CfgReq).all (fun i => !i.wellFormed) = true := by decide +kernel

theorem test_ill_formed_poisonTlp : ([
    .bar4 8388608 [0] [],
    .bar4 0 (List.replicate 4097 0) [],
    .bar4 0 [] [true],
    .bar02 [],
    .completion (some 256)
  ] : List PoisonTlp).all (fun i => !i.wellFormed) = true := by decide +kernel

theorem test_ill_formed_serialCut : ([
    .read 4294967296 0,
    .read 0 65536,
    .write 4294967296 []
  ] : List SerialCut).all (fun i => !i.wellFormed) = true := by decide +kernel

/-! ### Witnesses: each statement's clauses assume nothing that cannot hold -/

/-- What `TimebaseCommandsComplete` assumes can hold. -/
theorem witness_timebaseCommandsComplete :
    (∃ (c0 : Nat) (c1 : Nat) (c2 : Nat) (laps : Nat) (mclk : Nat) (c : Nat) (s : State), s.pow.window = true ∧ (c ∈ [c0, c1, c2]) ∧ c ≠ 0 ∧ (c < 2 ^ 22) ∧ (∀ x ∈ [c0, c1, c2], x ≠ 0 → c ≤ x) ∧ ((1000000000 + c - 1) / c < 2 ^ 16)) ∧
    (∃ (s : State), s.pow.refclk = true ∧ s.is (Hdr.GATED 0x02) = false) ∧
    (∃ (s : State), s.rd TIME.DLL_LOCK = 0) ∧
    (∃ (s : State), s.pow.refclk = true ∧ s.rd TIME.DLL_LOCK = 1 ∧ s.is (Hdr.GATED 0x02) = false) ∧
    (∃ (l : Loop) (s : State), s.pow.refclk = true ∧ s.loopCut .foc = none ∧ s.loopCut .trk = none ∧ s.loopOut.length = 5 ∧ s.loopResult.length = 5) ∧
    (∃ (l : Loop) (s : State), s.pow.refclk = true ∧ s.loopCut .foc = none ∧ s.loopCut .trk = none ∧ (s.rd TIME.SERVO_LATE < 2 ^ 32 - 1) ∧ s.is (Hdr.GATED 0x02) = false) ∧
    (∃ (s : State), s.rd TIME.WATER_CLR = 0) ∧
    (∃ (s : State), s.rd TIME.WATER_CLR = 1 ∧ TIME.WATER_CLR.key ∉ s.goWait) ∧
    (∃ (port : HostPort) (s : State), (s.now < 2 ^ 64)) ∧
    (∃ (s : State), s.recd.restored = true ∧ (s.rd SYS.OP_SECONDS < 2 ^ 32 - 1)) :=
  ⟨⟨20000, 26000, 0, 0, 0, 20000, up |>.upd (fun s => { s with pow := { s.pow with window := true } }), by decide +kernel⟩,
   ⟨up |>.upd (fun s => { s with pow := { s.pow with refclk := true } }) |>.upd (fun s => s.wr (Hdr.GATED 0x02) 0), by decide +kernel⟩,
   ⟨up |>.upd (fun s => s.wr TIME.DLL_LOCK (0)), by decide +kernel⟩,
   ⟨up |>.upd (fun s => { s with pow := { s.pow with refclk := true } }) |>.upd (fun s => s.wr TIME.DLL_LOCK (1)) |>.upd (fun s => s.wr (Hdr.GATED 0x02) 0), by decide +kernel⟩,
   ⟨.foc, up |>.upd (fun s => { s with pow := { s.pow with refclk := true } }), by decide +kernel⟩,
   ⟨.foc, up |>.upd (fun s => { s with pow := { s.pow with refclk := true } }) |>.upd (fun s => s.wr (Hdr.GATED 0x02) 0), by decide +kernel⟩,
   ⟨up |>.upd (fun s => s.wr TIME.WATER_CLR (0)), by decide +kernel⟩,
   ⟨up |>.upd (fun s => s.wr TIME.WATER_CLR (1)), by decide +kernel⟩,
   ⟨.pcie, up, by decide +kernel⟩,
   ⟨up |>.upd (fun s => { s with recd := { s.recd with restored := true } }), by decide +kernel⟩⟩

/-- What `AttentionCommandsComplete` assumes can hold. -/
theorem witness_attentionCommandsComplete :
    (∃ (page : Nat) (value : Nat) (l : Leaf) (s : State), pageExists page = true ∧ pageNoLeaf page = false ∧ l.page = page ∧ l.bit < 32 ∧ l.place.isSome = true ∧ bit value l.bit = true) ∧
    (∃ (sl : Nat) (g : Nat) (value : Nat) (s : State), sl ≠ 0) ∧
    (∃ (port : HostPort) (page : Nat) (value : Nat) (s : State), s.served port none = true ∧ pageExists page = true ∧ pageNoLeaf page = false ∧ page ≠ 0x10 ∧ value < 64) ∧
    (∃ (port : HostPort) (value : Nat) (s : State), s.served port none = true ∧ s.regsClosed 0x01 = false) :=
  ⟨⟨2, 0xFFFFFFFF, Lf.TMP.REF_LOST, up, by decide +kernel⟩,
   ⟨3, 0, 0, up, by decide +kernel⟩,
   ⟨.pcie, 0, 0, up, by decide +kernel⟩,
   ⟨.pcie, 0, up, by decide +kernel⟩⟩

/-- What `PendingIsCauseAndEnable` assumes can hold. -/
theorem witness_pendingIsCauseAndEnable :
    (∃ (s : State) (k : Nat), k < 8) ∧
    (∃ (port : HostPort) (page : Nat) (s : State), s.served port none = true ∧ pageExists page = true ∧ pageNoLeaf page = false) :=
  ⟨⟨up, 0, by decide +kernel⟩,
   ⟨.pcie, 0, up, by decide +kernel⟩⟩

/-- What `SupplyCommandsComplete` assumes can hold. -/
theorem witness_supplyCommandsComplete :
    (∃ (s : State), s.pow.phase = .off) ∧
    (∃ (rail : Nat) (s : State), s.is (Hdr.GATED 0x02) = false ∧ rail < 6) ∧
    (∃ (s : State), s.pow.phase ≠ .off ∧ s.pow.phase ≠ .standby) ∧
    (∃ (fuseErr : Bool) (s : State), s.pow.phase = .held ∧ (s.pow.low % 32 = 0) ∧ s.pow.testen = false ∧ s.is (Hdr.GATED 0x00) = false) ∧
    (∃ (s : State), s.pow.phase = .boot ∧ s.pow.filled = false ∧ s.is (Hdr.GATED 0x0E) = false) ∧
    (∃ (port : HostPort) (s : State), s.pow.chipKey = none) ∧
    (∃ (port : HostPort) (s : State) (t0 : Nat), s.pow.chipKey = some t0 ∧ (s.elapsed - t0 ≤ 64)) ∧
    (∃ (s : State), s.pow.testen = false ∧ s.pow.phase = .run) ∧
    (∃ (s : State), s.pow.phase ≠ .run) ∧
    (∃ (s : State), s.pow.pfFlush = true ∧ s.rd REC.FLUSHING = 0 ∧ s.is (Hdr.GATED 0x02) = false) ∧
    (∃ (s : State), s.pow.pfail = true ∧ s.pow.pfHeld = true ∧ s.is (Hdr.GATED 0x02) = false) ∧
    (∃ (ce0 : NandFind) (ce1 : NandFind) (s : State), s.pow.phase = .boot ∧ s.pow.kind = .por ∧ s.pow.filled = true ∧ s.rd TIME.REF_OK = 1 ∧ s.calBooting = false ∧ s.is (Hdr.GATED 0x00) = false) ∧
    (∃ (code : Nat) (ce0 : NandFind) (ce1 : NandFind) (s : State), s.pow.exit = some code ∧ s.pow.phase = .boot ∧ s.pow.kind = .stby ∧ s.pow.filled = true ∧ s.rd TIME.REF_OK = 1 ∧ s.calBooting = false ∧ s.is (Hdr.GATED 0x02) = false) ∧
    (∃ (s : State), s.pow.phase = .run ∧ s.pow.pfHeld = false ∧ s.is (Hdr.GATED 0x02) = false) :=
  ⟨⟨up |>.upd (fun s => { s with pow := { s.pow with phase := .off } }), by decide +kernel⟩,
   ⟨0, up |>.upd (fun s => s.wr (Hdr.GATED 0x02) 0), by decide +kernel⟩,
   ⟨up, by decide +kernel⟩,
   ⟨true, up |>.upd (fun s => { s with pow := { s.pow with phase := .held } }) |>.upd (fun s => { s with pow := { s.pow with testen := false } }) |>.upd (fun s => s.wr (Hdr.GATED 0x00) 0), by decide +kernel⟩,
   ⟨up |>.upd (fun s => { s with pow := { s.pow with phase := .boot } }) |>.upd (fun s => { s with pow := { s.pow with filled := false } }) |>.upd (fun s => s.wr (Hdr.GATED 0x0E) 0), by decide +kernel⟩,
   ⟨.pcie, up |>.upd (fun s => { s with pow := { s.pow with chipKey := none } }), by decide +kernel⟩,
   ⟨.pcie, up |>.upd (fun s => { s with pow := { s.pow with chipKey := some 0 } }), 0, by decide +kernel⟩,
   ⟨up |>.upd (fun s => { s with pow := { s.pow with testen := false } }) |>.upd (fun s => { s with pow := { s.pow with phase := .run } }), by decide +kernel⟩,
   ⟨up |>.upd (fun s => { s with pow := { s.pow with phase := .boot } }), by decide +kernel⟩,
   ⟨up |>.upd (fun s => { s with pow := { s.pow with pfFlush := true } }) |>.upd (fun s => s.wr REC.FLUSHING (0)) |>.upd (fun s => s.wr (Hdr.GATED 0x02) 0), by decide +kernel⟩,
   ⟨up |>.upd (fun s => { s with pow := { s.pow with pfail := true } }) |>.upd (fun s => { s with pow := { s.pow with pfHeld := true } }) |>.upd (fun s => s.wr (Hdr.GATED 0x02) 0), by decide +kernel⟩,
   ⟨.empty, .empty, up |>.upd (fun s => { s with pow := { s.pow with phase := .boot } }) |>.upd (fun s => { s with pow := { s.pow with kind := .por } }) |>.upd (fun s => { s with pow := { s.pow with filled := true } }) |>.upd (fun s => s.wr TIME.REF_OK (1)) |>.upd (fun s => s.wr (Hdr.GATED 0x00) 0), by decide +kernel⟩,
   ⟨0, .empty, .empty, up |>.upd (fun s => { s with pow := { s.pow with exit := some 0 } }) |>.upd (fun s => { s with pow := { s.pow with phase := .boot } }) |>.upd (fun s => { s with pow := { s.pow with kind := .stby } }) |>.upd (fun s => { s with pow := { s.pow with filled := true } }) |>.upd (fun s => s.wr TIME.REF_OK (1)) |>.upd (fun s => s.wr (Hdr.GATED 0x02) 0), by decide +kernel⟩,
   ⟨up |>.upd (fun s => { s with pow := { s.pow with phase := .run } }) |>.upd (fun s => { s with pow := { s.pow with pfHeld := false } }) |>.upd (fun s => s.wr (Hdr.GATED 0x02) 0), by decide +kernel⟩⟩

/-- What `BlockCommandsComplete` assumes can hold. -/
theorem witness_blockCommandsComplete :
    (∃ (page : Nat) (s : State), pageOwn page = true) ∧
    (∃ (page : Nat) (s : State), pageOwn page = true) ∧
    (∃ (page : Nat) (s : State), pageOwn page = true ∧ s.rd (Hdr.QUIESCE page) = 1 ∧ s.rd (Hdr.QUIESCED page) = 0 ∧ s.blockBusy page = false ∧ (∀ o ∈ s.openTags, o.page ≠ page) ∧ (s.trc.queue = []) ∧ s.is (Hdr.GATED 0x00) = false) ∧
    (∃ (page : Nat) (s : State), (page ∈ [0x0C, 0x0E, 0x10]) ∧ s.rd (Hdr.RESET page) = 0 ∧ s.rd (Hdr.GATED page) = 0 ∧ page ∉ s.pow.gating) ∧
    (∃ (page : Nat) (s : State), page ∈ s.pow.resetting ∧ (page ∈ [0x0C, 0x0D, 0x0F, 0x14, 0x15, 0x16, 0x17]) ∧ (s.goWait = []) ∧ page ∉ s.pow.gateAfterReset ∧ s.is (Hdr.GATED 0x00) = false) ∧
    (∃ (page : Nat) (s : State), (page ∈ [0x0C, 0x0E, 0x10]) ∧ s.rd (Hdr.GATED page) = 0 ∧ page ∉ s.pow.gating ∧ page ∉ s.pow.resetting) ∧
    (∃ (page : Nat) (s : State), page ∈ s.pow.gating ∧ (page ∈ [0x0C, 0x0D, 0x0F, 0x14, 0x15, 0x16, 0x17]) ∧ (s.pow.resetAfterGate = [])) ∧
    (∃ (page : Nat) (s : State), pageOwn page = true ∧ s.rd (Hdr.GATED page) = 1 ∧ page ∉ s.pow.ungating) ∧
    (∃ (page : Nat) (s : State), page ∈ s.pow.ungating ∧ (page ∈ [0x0C, 0x0D, 0x0F, 0x14, 0x15, 0x16, 0x17]) ∧ s.is (Hdr.GATED 0x00) = false ∧ s.rd (Hdr.QUIESCE page) = 0) ∧
    (∃ (page : Nat) (s : State), page ∈ s.pow.ungating ∧ s.rd (Hdr.GATED page) = 1 ∧ s.is (Hdr.GATED 0x02) = false) ∧
    (∃ (page : Nat) (v : Bool) (s : State), pageOwn page = true) ∧
    (∃ (page : Nat) (tag : Nat) (rep : Nat) (s : State), ({ page := page, tag := tag, reqEpoch := s.rd (Hdr.EPOCH page), repEpoch := rep } ∈ s.openTags)) ∧
    (∃ (page : Nat) (tag : Nat) (req : Nat) (rep : Nat) (s : State), req ≠ s.rd (Hdr.EPOCH page) ∧ s.pow.rylEpochWait = false ∧ s.is (Hdr.GATED 0x00) = false) ∧
    (∃ (tag : Nat) (s : State), s.pow.rylEpochWait = false) ∧
    (∃ (page : Nat) (s : State), pageOwn page = true ∧ s.rd (Hdr.RESET page) = 0 ∧ s.rd (Hdr.GATED page) = 0 ∧ page ∉ s.pow.gating) ∧
    (∃ (page : Nat) (s : State), pageOwn page = true ∧ page ∈ s.pow.resetting ∧ s.pow.rylEpochWait = false ∧ (s.goWait = []) ∧ page ∉ s.pow.gateAfterReset) :=
  ⟨⟨0x0C, up, by decide +kernel⟩,
   ⟨0x0C, up, by decide +kernel⟩,
   ⟨0x0C, up |>.upd (fun s => s.wr (Hdr.QUIESCE 0x0C) (1)) |>.upd (fun s => s.wr (Hdr.QUIESCED 0x0C) (0)) |>.upd (fun s => { s with trc := { s.trc with queue := [] } }) |>.upd (fun s => s.wr (Hdr.GATED 0x00) 0), by decide +kernel⟩,
   ⟨0x0C, up |>.upd (fun s => s.wr (Hdr.RESET 0x0C) (0)) |>.upd (fun s => s.wr (Hdr.GATED 0x0C) (0)), by decide +kernel⟩,
   ⟨0x0C, up |>.upd (fun s => { s with goWait := [] }) |>.upd (fun s => s.wr (Hdr.GATED 0x00) 0) |>.upd (fun s => { s with pow := { s.pow with resetting := [0x0C] } }), by decide +kernel⟩,
   ⟨0x0C, up |>.upd (fun s => s.wr (Hdr.GATED 0x0C) (0)), by decide +kernel⟩,
   ⟨0x0C, up |>.upd (fun s => { s with pow := { s.pow with resetAfterGate := [] } }) |>.upd (fun s => { s with pow := { s.pow with gating := [0x0C] } }), by decide +kernel⟩,
   ⟨0x0C, up |>.upd (fun s => s.wr (Hdr.GATED 0x0C) (1)), by decide +kernel⟩,
   ⟨0x0C, up |>.upd (fun s => s.wr (Hdr.GATED 0x00) 0) |>.upd (fun s => s.wr (Hdr.QUIESCE 0x0C) (0)) |>.upd (fun s => { s with pow := { s.pow with ungating := [0x0C] } }), by decide +kernel⟩,
   ⟨0x0C, up |>.upd (fun s => s.wr (Hdr.GATED 0x0C) (1)) |>.upd (fun s => s.wr (Hdr.GATED 0x02) 0) |>.upd (fun s => { s with pow := { s.pow with ungating := [0x0C] } }), by decide +kernel⟩,
   ⟨0x0C, true, up, by decide +kernel⟩,
   ⟨0x0D, 4, 0, up |>.upd (fun s => { s with openTags := [{ page := 0x0D, tag := 4, reqEpoch := 0, repEpoch := 0 }] }), by decide +kernel⟩,
   ⟨0, 0, 1, 0, up |>.upd (fun s => { s with pow := { s.pow with rylEpochWait := false } }) |>.upd (fun s => s.wr (Hdr.GATED 0x00) 0), by decide +kernel⟩,
   ⟨0, up |>.upd (fun s => { s with pow := { s.pow with rylEpochWait := false } }), by decide +kernel⟩,
   ⟨0x0C, up |>.upd (fun s => s.wr (Hdr.RESET 0x0C) (0)) |>.upd (fun s => s.wr (Hdr.GATED 0x0C) (0)), by decide +kernel⟩,
   ⟨0x0C, up |>.upd (fun s => { s with pow := { s.pow with rylEpochWait := false } }) |>.upd (fun s => { s with goWait := [] }) |>.upd (fun s => { s with pow := { s.pow with resetting := [0x0C] } }), by decide +kernel⟩⟩

/-- What `PowerStateCommandsComplete` assumes can hold. -/
theorem witness_powerStateCommandsComplete :
    (∃ (s : State), s.pow.phase = .run ∧ s.rd TIME.STATE = 0 ∧ s.pow.timer = some .doze ∧ s.loaderMoving = false ∧ s.is (Hdr.GATED 0x02) = false) ∧
    (∃ (s : State), s.pow.entry = some .doze ∧ s.rd SPN.STATE = 0 ∧ s.rd TIME.PC_GO = 0 ∧ s.is (Hdr.GATED 0x02) = false) ∧
    (∃ (s : State), s.pow.entry = some .nap ∧ s.rd REC.FLUSHING = 0 ∧ s.rd TIME.PC_GO = 0 ∧ s.rd TRC.RUNNING = 0 ∧ s.is (Hdr.GATED 0x02) = false) ∧
    (∃ (s : State), s.pow.entry = some .standby) ∧
    (∃ (s : State), s.pow.phase = .standby ∧ s.pow.wakePend = none) ∧
    (∃ (code : Nat) (s : State), s.pow.phase = .standby ∧ s.pow.wakePend = some code) ∧
    (∃ (s : State), s.pow.phase = .run ∧ s.rd TIME.STATE = 1 ∧ s.rd TIME.TARGET = 0 ∧ s.rd TIME.PC_GO = 0 ∧ s.pow.entry = none ∧ s.pow.exit = none) ∧
    (∃ (port : HostPort) (value : Nat) (s : State), s.served port none = true ∧ s.regsClosed 0x02 = false ∧ 1000 ≤ value ∧ (value < 2 ^ 32)) ∧
    (∃ (s : State), s.pow.phase = .standby ∧ s.pow.discharged = true ∧ s.pow.wakePend = none ∧ s.rd TIME.HWAKE_EN = 1) ∧
    (∃ (n : Nat) (s : State), n < 4 ∧ s.pow.phase = .standby ∧ s.pow.discharged = true ∧ s.pow.wakePend = none ∧ bit (s.rd TIME.WAKE_EN) n = true) ∧
    (∃ (s : State), s.pow.phase = .standby ∧ s.pow.discharged = true ∧ s.pow.wakePend = none ∧ s.rd TIME.LDR_EN = 1) ∧
    (∃ (p : Nat) (s : State), s.pow.phase = .standby ∧ s.pow.discharged = true ∧ s.pow.wakePend = none ∧ bit (s.rd TIME.RYL_EN) p = true) ∧
    (∃ (code : Nat) (s : State), s.pow.exit = some code ∧ code < 16 ∧ s.rd TIME.STATE = 1 ∧ s.pow.phase = .run ∧ s.rd TIME.PC_GO = 0 ∧ s.is (Hdr.GATED 0x02) = false) ∧
    (∃ (code : Nat) (s : State), s.pow.exit = some code ∧ code < 16 ∧ s.rd TIME.STATE = 2 ∧ s.pow.phase = .run ∧ s.rd TIME.PC_GO = 0 ∧ s.rd TRC.RUNNING = 0 ∧ s.is (Hdr.GATED 0x02) = false) :=
  ⟨⟨up |>.upd (fun s => { s with pow := { s.pow with phase := .run } }) |>.upd (fun s => s.wr TIME.STATE (0)) |>.upd (fun s => { s with pow := { s.pow with timer := some .doze } }) |>.upd (fun s => s.wr (Hdr.GATED 0x02) 0), by decide +kernel⟩,
   ⟨up |>.upd (fun s => { s with pow := { s.pow with entry := some .doze } }) |>.upd (fun s => s.wr SPN.STATE (0)) |>.upd (fun s => s.wr TIME.PC_GO (0)) |>.upd (fun s => s.wr (Hdr.GATED 0x02) 0), by decide +kernel⟩,
   ⟨up |>.upd (fun s => { s with pow := { s.pow with entry := some .nap } }) |>.upd (fun s => s.wr REC.FLUSHING (0)) |>.upd (fun s => s.wr TIME.PC_GO (0)) |>.upd (fun s => s.wr TRC.RUNNING (0)) |>.upd (fun s => s.wr (Hdr.GATED 0x02) 0), by decide +kernel⟩,
   ⟨up |>.upd (fun s => { s with pow := { s.pow with entry := some .standby } }), by decide +kernel⟩,
   ⟨up |>.upd (fun s => { s with pow := { s.pow with phase := .standby } }) |>.upd (fun s => { s with pow := { s.pow with wakePend := none } }), by decide +kernel⟩,
   ⟨0, up |>.upd (fun s => { s with pow := { s.pow with phase := .standby } }) |>.upd (fun s => { s with pow := { s.pow with wakePend := some 0 } }), by decide +kernel⟩,
   ⟨up |>.upd (fun s => { s with pow := { s.pow with phase := .run } }) |>.upd (fun s => s.wr TIME.STATE (1)) |>.upd (fun s => s.wr TIME.TARGET (0)) |>.upd (fun s => s.wr TIME.PC_GO (0)) |>.upd (fun s => { s with pow := { s.pow with entry := none } }) |>.upd (fun s => { s with pow := { s.pow with exit := none } }), by decide +kernel⟩,
   ⟨.pcie, 1000, up, by decide +kernel⟩,
   ⟨up |>.upd (fun s => { s with pow := { s.pow with phase := .standby } }) |>.upd (fun s => { s with pow := { s.pow with discharged := true } }) |>.upd (fun s => { s with pow := { s.pow with wakePend := none } }) |>.upd (fun s => s.wr TIME.HWAKE_EN (1)), by decide +kernel⟩,
   ⟨2, up |>.upd (fun s => { s with pow := { s.pow with phase := .standby } }) |>.upd (fun s => { s with pow := { s.pow with discharged := true } }) |>.upd (fun s => { s with pow := { s.pow with wakePend := none } }) |>.upd (fun s => s.wr TIME.WAKE_EN (4)), by decide +kernel⟩,
   ⟨up |>.upd (fun s => { s with pow := { s.pow with phase := .standby } }) |>.upd (fun s => { s with pow := { s.pow with discharged := true } }) |>.upd (fun s => { s with pow := { s.pow with wakePend := none } }) |>.upd (fun s => s.wr TIME.LDR_EN (1)), by decide +kernel⟩,
   ⟨1, up |>.upd (fun s => { s with pow := { s.pow with phase := .standby } }) |>.upd (fun s => { s with pow := { s.pow with discharged := true } }) |>.upd (fun s => { s with pow := { s.pow with wakePend := none } }) |>.upd (fun s => s.wr TIME.RYL_EN (2)), by decide +kernel⟩,
   ⟨0, up |>.upd (fun s => { s with pow := { s.pow with exit := some 0 } }) |>.upd (fun s => s.wr TIME.STATE (1)) |>.upd (fun s => { s with pow := { s.pow with phase := .run } }) |>.upd (fun s => s.wr TIME.PC_GO (0)) |>.upd (fun s => s.wr (Hdr.GATED 0x02) 0), by decide +kernel⟩,
   ⟨0, up |>.upd (fun s => { s with pow := { s.pow with exit := some 0 } }) |>.upd (fun s => s.wr TIME.STATE (2)) |>.upd (fun s => { s with pow := { s.pow with phase := .run } }) |>.upd (fun s => s.wr TIME.PC_GO (0)) |>.upd (fun s => s.wr TRC.RUNNING (0)) |>.upd (fun s => s.wr (Hdr.GATED 0x02) 0), by decide +kernel⟩⟩

/-- What `TapInstructionsComplete` assumes can hold. -/
theorem witness_tapInstructionsComplete :
    (∃ (s : State), s.pow.phase ≠ .off ∧ s.tap.active = false ∧ s.pow.testen = false ∧ s.coreUp = true ∧ s.is (Hdr.GATED 0x00) = false) ∧
    (∃ (pins : List Bool) (tdi : List Bool) (s : State), s.pow.phase ≠ .off ∧ s.pow.testen = true ∧ pins.length = 83 ∧ tdi.length = 83) ∧
    (∃ (pins : List Bool) (b : Bool) (tdi : List Bool) (s : State), s.pow.phase ≠ .off ∧ s.pow.testen = false) ∧
    (∃ (pins : List Bool) (tdi : List Bool) (s : State), s.pow.phase ≠ .off ∧ pins.length = 83 ∧ tdi.length = 83) ∧
    (∃ (tdi : List Bool) (s : State), s.pow.phase ≠ .off ∧ tdi.length = 32) ∧
    (∃ (b : Bool) (tdi : List Bool) (s : State), s.pow.phase ≠ .off ∧ s.pow.testen = true) ∧
    (∃ (b : Bool) (tdi : List Bool) (s : State), s.pow.phase ≠ .off ∧ s.pow.testen = true) ∧
    (∃ (code : Nat) (b : Bool) (tdi : List Bool) (s : State), s.pow.phase ≠ .off ∧ (code ∉ [0, 4, 5])) :=
  ⟨⟨up |>.upd (fun s => { s with tap := { s.tap with active := false } }) |>.upd (fun s => { s with pow := { s.pow with testen := false } }) |>.upd (fun s => s.wr (Hdr.GATED 0x00) 0), by decide +kernel⟩,
   ⟨List.replicate 83 true, List.replicate 83 false, up |>.upd (fun s => { s with pow := { s.pow with testen := true } }), by decide +kernel⟩,
   ⟨[], true, [], up |>.upd (fun s => { s with pow := { s.pow with testen := false } }), by decide +kernel⟩,
   ⟨List.replicate 83 true, List.replicate 83 false, up, by decide +kernel⟩,
   ⟨List.replicate 32 true, up, by decide +kernel⟩,
   ⟨true, [], up |>.upd (fun s => { s with pow := { s.pow with testen := true } }), by decide +kernel⟩,
   ⟨true, [], up |>.upd (fun s => { s with pow := { s.pow with testen := true } }), by decide +kernel⟩,
   ⟨9, true, [], up, by decide +kernel⟩⟩

/-- What `ReservedPlacesReadZeroAndIgnoreWrites` assumes can hold. -/
theorem witness_reservedPlacesReadZeroAndIgnoreWrites :
    (∃ (port : HostPort) (page : Nat) (off : Nat) (be : Nat) (value : Nat) (rid : Nat) (s : State), s.served port none = true ∧ page < 32 ∧ (pageExists page = false ∨ fieldsAt page off = [] ∨ (0x40 ≤ off ∧ s.regsClosed page = true))) ∧
    (∃ (page : Nat) (off : Nat) (s : State), (pageExists page = false ∨ (fieldsAt page off = [] ∧ off ≠ 0 ∧ off ≠ 4))) :=
  ⟨⟨.pcie, 0, 0, 0, 0, 0, up, by decide +kernel⟩,
   ⟨27, 0, up, by decide +kernel⟩⟩

/-- What `ClampedWriteIsRecorded` assumes can hold. -/
theorem witness_clampedWriteIsRecorded :
    (∃ (port : HostPort) (value : Nat) (rid : Nat) (s : State), s.served port none = true ∧ s.regsClosed 0x02 = false) :=
  ⟨.pcie, 0, 0, up, by decide +kernel⟩

/-- What `WritesByKind` assumes can hold. -/
theorem witness_writesByKind :
    (∃ (port : HostPort) (value : Nat) (rid : Nat) (s : State), s.served port none = true ∧ s.regsClosed 0x02 = false) ∧
    (∃ (port : HostPort) (value : Nat) (rid : Nat) (s : State), s.served port none = true ∧ s.regsClosed 0x02 = false) ∧
    (∃ (port : HostPort) (value : Nat) (rid : Nat) (s : State), s.served port none = true ∧ s.regsClosed 0x07 = false) ∧
    (∃ (port : HostPort) (value : Nat) (rid : Nat) (s : State), s.served port none = true) ∧
    (∃ (port : HostPort) (page : Nat) (value : Nat) (rid : Nat) (s : State), s.served port none = true ∧ pageExists page = true ∧ pageNoLeaf page = false) ∧
    (∃ (port : HostPort) (be : Nat) (value : Nat) (rid : Nat) (s : State), s.served port none = true ∧ s.regsClosed 0x01 = false ∧ be < 16) :=
  ⟨⟨.pcie, 0, 0, up, by decide +kernel⟩,
   ⟨.pcie, 0, 0, up, by decide +kernel⟩,
   ⟨.pcie, 0, 0, up, by decide +kernel⟩,
   ⟨.pcie, 0, 0, up, by decide +kernel⟩,
   ⟨.pcie, 0, 0, 0, up, by decide +kernel⟩,
   ⟨.pcie, 0, 0, 0, up, by decide +kernel⟩⟩

/-- What `BlockRegisterWritesComplete` assumes can hold. -/
theorem witness_blockRegisterWritesComplete :
    (∃ (port : HostPort) (value : Nat) (s : State), s.served port none = true ∧ s.regsClosed 0x04 = false) ∧
    (∃ (port : HostPort) (value : Nat) (s : State), s.served port none = true ∧ s.regsClosed 0x05 = false) ∧
    (∃ (port : HostPort) (value : Nat) (s : State), s.served port none = true ∧ s.regsClosed 0x08 = false) ∧
    (∃ (port : HostPort) (value : Nat) (s : State), s.served port none = true ∧ s.regsClosed 0x07 = false) ∧
    (∃ (port : HostPort) (value : Nat) (s : State), s.served port none = true ∧ s.regsClosed 0x07 = false) ∧
    (∃ (port : HostPort) (k : Nat) (value : Nat) (s : State), s.served port none = true ∧ s.regsClosed 0x07 = false ∧ k < 16 ∧ 4 ≤ bits value 24 8 ∧ bits value 24 8 ≤ 96) ∧
    (∃ (port : HostPort) (value : Nat) (s : State), s.served port none = true ∧ s.regsClosed 0x0E = false ∧ value ≤ 512) ∧
    (∃ (port : HostPort) (value : Nat) (s : State), s.served port none = true ∧ s.regsClosed 0x16 = false ∧ s.rd TRC.BUF_LOG2 ≤ 24 ∧ s.rd TRC.STALLED = 0 ∧ s.rd TRC.RUN = 0) :=
  ⟨⟨.pcie, 0, up, by decide +kernel⟩,
   ⟨.pcie, 0, up, by decide +kernel⟩,
   ⟨.pcie, 0, up, by decide +kernel⟩,
   ⟨.pcie, 0, up, by decide +kernel⟩,
   ⟨.pcie, 0, up, by decide +kernel⟩,
   ⟨.pcie, 3, 0x08000000, up, by decide +kernel⟩,
   ⟨.pcie, 0, up, by decide +kernel⟩,
   ⟨.pcie, 0, up |>.upd (fun s => s.wr TRC.STALLED (0)) |>.upd (fun s => s.wr TRC.RUN (0)), by decide +kernel⟩⟩

/-- What `MirageCommandsComplete` assumes can hold. -/
theorem witness_mirageCommandsComplete :
    (∃ (s : State), s.regsClosed 0x17 = false ∧ s.mir.keyAt = none) ∧
    (∃ (t0 : Nat) (s : State), s.regsClosed 0x17 = false ∧ s.mir.keyAt = some t0 ∧ (s.elapsed - t0 ≤ 64) ∧ s.rd MIR.UNLOCKED = 0) ∧
    (∃ (s : State), s.regsClosed 0x17 = false ∧ s.rd MIR.UNLOCKED = 1) ∧
    (∃ (s : State), s.is (Hdr.GATED 0x17) = false ∧ s.rd MIR.UNLOCKED = 1) ∧
    (∃ (port : HostPort) (page : Nat) (k : Nat) (n : Nat) (s : State), s.served port none = true ∧ s.rd MIR.UNLOCKED = 1 ∧ pageExists page = true ∧ 1 ≤ k ∧ k ≤ 5 ∧ hookLegal page k = true ∧ n < 8) ∧
    (∃ (port : HostPort) (n : Nat) (value : Nat) (s : State), s.served port none = true ∧ s.regsClosed 0x17 = false ∧ n < 8) ∧
    (∃ (port : HostPort) (n : Nat) (value : Nat) (s : State), s.served port none = true ∧ s.regsClosed 0x17 = false ∧ n < 8) ∧
    (∃ (page : Nat) (i : Nat) (s : State), (s.mir.window.find? (fun (e : Nat × Nat) => e.1 == page) = some (page, i)) ∧ bit (s.rd (MIR.PATTERN.at (s.hookSlot page))) i = true ∧ s.hookKind page = 2 ∧ s.is (Hdr.QUIESCE 0x17) = false ∧ s.mirExhausted (s.hookSlot page) = false ∧ s.rd (MIR.SKIP.at (s.hookSlot page)) = 0) :=
  ⟨⟨up |>.upd (fun s => { s with mir := { s.mir with keyAt := none } }), by decide +kernel⟩,
   ⟨0, up |>.upd (fun s => { s with mir := { s.mir with keyAt := some 0 } }) |>.upd (fun s => s.wr MIR.UNLOCKED (0)), by decide +kernel⟩,
   ⟨up |>.upd (fun s => s.wr MIR.UNLOCKED (1)), by decide +kernel⟩,
   ⟨up |>.upd (fun s => s.wr (Hdr.GATED 0x17) 0) |>.upd (fun s => s.wr MIR.UNLOCKED (1)), by decide +kernel⟩,
   ⟨.pcie, 0x0E, 4, 3, up |>.upd (fun s => s.wr MIR.UNLOCKED (1)), by decide +kernel⟩,
   ⟨.pcie, 0, 0, up, by decide +kernel⟩,
   ⟨.pcie, 0, 0, up, by decide +kernel⟩,
   ⟨0x10, 5, up |>.upd (fun s => s.wr (Hdr.QUIESCE 0x17) 0) |>.upd (fun s => s.wr (MIR.SKIP.at (s.hookSlot 0x10)) (0)) |>.upd (fun s => s.wr (Hdr.HOOK 0x10) (66)) |>.upd (fun s => s.wr (MIR.PATTERN.at 2) (32)) |>.upd (fun s => { s with mir := { s.mir with window := [(0x10, 5)] } }), by decide +kernel⟩⟩

/-- What `CalibrationCommandsComplete` assumes can hold. -/
theorem witness_calibrationCommandsComplete :
    (∃ (s : State), s.pageDown 0x03 = false ∧ s.rd TIME.STATE ≠ 2 ∧ s.rd CAL.RUN_GO = 0 ∧ CAL.RUN_GO.key ∉ s.goWait) ∧
    (∃ (s : State), s.pageDown 0x03 = false ∧ s.rd TIME.STATE ≠ 2 ∧ s.rd CAL.RESTORE_GO = 0 ∧ CAL.RESTORE_GO.key ∉ s.goWait) ∧
    (∃ (tag : Option Nat) (rest : List CalOp) (s : State), (s.cal.wait = .run tag :: rest) ∧ s.cal.work = none ∧ s.rd LPC.STATE = 0 ∧ s.rd FOC.STATE = 0 ∧ s.rd TRK.STATE = 0 ∧ s.rd (Hdr.QUIESCE 0x03) = 0 ∧ s.rd (Hdr.GATED 0x03) = 0) ∧
    (∃ (m : CalMeas) (tag : Option Nat) (s : State), s.cal.work = some (.run tag) ∧ s.rd CAL.STEP < 6 ∧ s.is (Hdr.GATED 0x03) = false) ∧
    (∃ (m : CalMeas) (s : State), s.cal.work = some (.run none) ∧ s.rd CAL.STEP = 6 ∧ s.cal.fail ≠ 0 ∧ s.cal.fail < 16 ∧ CAL.RUN_GO.key ∉ s.goWait ∧ s.is (Hdr.GATED 0x03) = false) ∧
    (∃ (s : State), s.pageDown 0x03 = false ∧ s.cal.work = some (.run none) ∧ CAL.RUN_GO.key ∉ s.goWait) ∧
    (∃ (rest : List CalOp) (s : State), (s.cal.wait = .restore :: rest) ∧ s.cal.work = none ∧ s.rd LPC.STATE = 0 ∧ s.rd FOC.STATE = 0 ∧ s.rd TRK.STATE = 0 ∧ s.rd (Hdr.QUIESCE 0x03) = 0 ∧ s.rd (Hdr.GATED 0x03) = 0) ∧
    (∃ (residuals : List Int) (spanNow : Nat) (stageNow : Nat) (s : State), s.cal.work = some .restore ∧ CAL.RESTORE_GO.key ∉ s.goWait ∧ s.is (Hdr.GATED 0x03) = false ∧ blobCheck s.cal.blob residuals spanNow stageNow ≠ 1) :=
  ⟨⟨up |>.upd (fun s => s.wr CAL.RUN_GO (0)), by decide +kernel⟩,
   ⟨up |>.upd (fun s => s.wr CAL.RESTORE_GO (0)), by decide +kernel⟩,
   ⟨none, [], up |>.upd (fun s => { s with cal := { s.cal with wait := .run (none : Option Nat) :: ([] : List CalOp) } }) |>.upd (fun s => { s with cal := { s.cal with work := none } }) |>.upd (fun s => s.wr LPC.STATE (0)) |>.upd (fun s => s.wr FOC.STATE (0)) |>.upd (fun s => s.wr TRK.STATE (0)) |>.upd (fun s => s.wr (Hdr.QUIESCE 0x03) (0)) |>.upd (fun s => s.wr (Hdr.GATED 0x03) (0)), by decide +kernel⟩,
   ⟨{}, none, up |>.upd (fun s => { s with cal := { s.cal with work := some (.run (none : Option Nat)) } }) |>.upd (fun s => s.wr (Hdr.GATED 0x03) 0), by decide +kernel⟩,
   ⟨{}, up |>.upd (fun s => { s with cal := { s.cal with work := some (.run none) } }) |>.upd (fun s => s.wr CAL.STEP (6)) |>.upd (fun s => s.wr (Hdr.GATED 0x03) 0) |>.upd (fun s => { s with cal := { s.cal with fail := 2 } }), by decide +kernel⟩,
   ⟨up |>.upd (fun s => { s with cal := { s.cal with work := some (.run none) } }), by decide +kernel⟩,
   ⟨[], up |>.upd (fun s => { s with cal := { s.cal with wait := .restore :: ([] : List CalOp) } }) |>.upd (fun s => { s with cal := { s.cal with work := none } }) |>.upd (fun s => s.wr LPC.STATE (0)) |>.upd (fun s => s.wr FOC.STATE (0)) |>.upd (fun s => s.wr TRK.STATE (0)) |>.upd (fun s => s.wr (Hdr.QUIESCE 0x03) (0)) |>.upd (fun s => s.wr (Hdr.GATED 0x03) (0)), by decide +kernel⟩,
   ⟨[], 0, 0, up |>.upd (fun s => { s with cal := { s.cal with work := some .restore } }) |>.upd (fun s => s.wr (Hdr.GATED 0x03) 0), by decide +kernel⟩⟩

/-- What `CalibrationCommits` assumes can hold. -/
theorem witness_calibrationCommits :
    (∃ (m : CalMeas) (s : State), s.cal.work = some (.run none) ∧ s.rd CAL.STEP = 6 ∧ s.cal.fail = 0 ∧ CAL.RUN_GO.key ∉ s.goWait ∧ s.is (Hdr.GATED 0x03) = false) ∧
    (∃ (residuals : List Int) (spanNow : Nat) (stageNow : Nat) (b : List Byte) (s : State), s.cal.work = some .restore ∧ s.cal.blob = some b ∧ CAL.RESTORE_GO.key ∉ s.goWait ∧ s.is (Hdr.GATED 0x03) = false ∧ blobCheck (some b) residuals spanNow stageNow = 1) ∧
    (∃ (b : List Byte) (residuals : List Int) (spanNow : Nat) (stageNow : Nat), leAt b 0 2 ≠ 0xCA1B) ∧
    (∃ (b : List Byte) (residuals : List Int) (spanNow : Nat) (stageNow : Nat), leAt b 0 2 = 0xCA1B ∧ leAt b 4 2 = 0x0100 ∧ leAt b 2 1 = 1 ∧ leAt b 0xFE 2 ≠ crc16 (padTo 254 b)) :=
  ⟨⟨{}, up |>.upd (fun s => { s with cal := { s.cal with work := some (.run none) } }) |>.upd (fun s => s.wr CAL.STEP (6)) |>.upd (fun s => { s with cal := { s.cal with fail := 0 } }) |>.upd (fun s => s.wr (Hdr.GATED 0x03) 0), by decide +kernel⟩,
   ⟨[], 1, 1, goodBlob, up |>.upd (fun s => { s with cal := { s.cal with work := some .restore } }) |>.upd (fun s => { s with cal := { s.cal with blob := some (goodBlob : List Byte) } }) |>.upd (fun s => s.wr (Hdr.GATED 0x03) 0), by decide +kernel, by rfl, by decide +kernel, by decide +kernel, by exact blobOf_check _ _ rfl rfl⟩,
   ⟨[], [], 0, 0, by decide +kernel⟩,
   ⟨[0x1B#8, 0xCA#8, 1, 0, 0x00, 0x01] ++ List.replicate 248 0 ++ [5, 5], [], 0, 0, by decide +kernel⟩⟩

/-- What `FocusTrackingSampleIsTaken` assumes can hold. -/
theorem witness_focusTrackingSampleIsTaken :
    (∃ (w : List Nat) (dpd : Int) (num : Nat) (den : Nat) (cross : Int) (period : Nat) (s : State), s.sampling = true ∧ s.pageDown 0x04 = false ∧ s.pageDown 0x05 = false ∧ s.rd (Hdr.HOOK 0x04) = 0 ∧ s.rd (Hdr.HOOK 0x05) = 0 ∧ (s.shadow = []) ∧ s.rd TRC.RUNNING = 0 ∧ s.rd FOC.STATE = 0 ∧ s.rd TRK.STATE = 0) :=
  ⟨[], 0, 0, 0, 0, 0, up |>.upd (fun s => s.wr (Hdr.HOOK 0x04) (0)) |>.upd (fun s => s.wr (Hdr.HOOK 0x05) (0)) |>.upd (fun s => { s with shadow := [] }) |>.upd (fun s => s.wr TRC.RUNNING (0)) |>.upd (fun s => s.wr FOC.STATE (0)) |>.upd (fun s => s.wr TRK.STATE (0)), by decide +kernel⟩

/-- What `LoopEventsComplete` assumes can hold. -/
theorem witness_loopEventsComplete :
    (∃ (s : State), s.rd FOC.STATE = 3 ∧ s.rd FOC.TRIES ≤ s.opt.foc.sweeps ∧ (s.rd FOC.ACQ_FAILS < 2 ^ 16 - 1) ∧ s.opt.jump = none ∧ s.is (Hdr.GATED 0x04) = false) ∧
    (∃ (s : State), s.rd FOC.STATE = 4 ∧ s.rd FOC.LOSS_N ≤ s.opt.foc.lossRun ∧ s.rd TRK.STATE = 4 ∧ s.opt.jump = none ∧ s.is (Hdr.GATED 0x04) = false ∧ s.is (Hdr.GATED 0x05) = false) ∧
    (∃ (s : State), s.rd TRK.STATE = 3 ∧ s.is (Hdr.GATED 0x05) = false) ∧
    (∃ (s : State), s.rd TRK.STATE = 4 ∧ 64 ≤ s.opt.trk.lockRun ∧ s.rd TRK.LOCKED = 0 ∧ s.is (Hdr.GATED 0x05) = false) ∧
    (∃ (s : State), s.rd TRK.STATE = 4 ∧ s.rd TRK.LOSS_N ≤ s.opt.trk.lossRun ∧ s.is (Hdr.GATED 0x05) = false) ∧
    (∃ (s : State), s.rd FOC.STATE = 5 ∧ s.rd FOC.RECOVER_N ≤ s.opt.foc.goodRun ∧ (s.segsNow = []) ∧ s.opt.jump = none ∧ s.rd FOC.HOLD_PRED = 0 ∧ s.opt.foc.holdLow = false) ∧
    (∃ (s : State), s.rd FOC.STATE = 5 ∧ s.sumBelow (s.rd FOC.SUM) FOC.DROP_FR = true ∧ s.rd TRK.STATE = 0 ∧ s.opt.jump = none ∧ s.rd FOC.HOLD_PRED = 0 ∧ s.opt.foc.holdLow = false ∧ s.is (Hdr.GATED 0x04) = false) ∧
    (∃ (s : State), s.rd FOC.STATE = 1 ∧ s.opt.jump = none) ∧
    (∃ (s : State), s.rd TRK.STATE = 1) ∧
    (∃ (s : State), s.sampling = true ∧ s.rd TRK.STATE = 4 ∧ s.is (Hdr.GATED 0x05) = false) ∧
    (∃ (s : State), 1024 ≤ s.opt.foc.satRun ∧ s.opt.foc.satSeen = false ∧ (s.rd FOC.SATS < 2 ^ 16 - 1) ∧ s.is (Hdr.GATED 0x04) = false) ∧
    (∃ (s : State), s.pageDown 0x04 = false) ∧
    (∃ (s : State), s.pageDown 0x05 = false) ∧
    (∃ (s : State), s.rd FOC.LEARN_EN = 0 ∧ s.rd TRK.LEARN_EN = 0 ∧ s.rd SPN.SENSE = 0) ∧
    (∃ (k : Nat) (n : Nat) (fb : Int) (tot : Int) (s : State), (s.opt.foc.ended = some [(k, fb, tot, n, true)]) ∧ s.opt.trk.ended = none ∧ k < 256 ∧ s.rd FOC.LEARN_EN = 1 ∧ s.rd SPN.SENSE = 0) ∧
    (∃ (s : State), s.pageDown 0x04 = false ∧ s.rd FOC.JUMP_GO = 0 ∧ s.drv.seek = none ∧ s.drv.layers = 2 ∧ s.rd FOC.STATE = 4 ∧ s.rd TRK.STATE = 4) ∧
    (∃ (s : State), s.pageDown 0x04 = false ∧ s.rd FOC.JUMP_GO = 0 ∧ s.drv.seek = none ∧ s.drv.layers ≠ 2 ∧ s.is (Hdr.GATED 0x04) = false) ∧
    (∃ (s : State), s.opt.jump = some .kick) ∧
    (∃ (s : State), s.opt.jump = some .brake ∧ s.rd TRK.STATE = 6 ∧ s.is (Hdr.GATED 0x04) = false) ∧
    (∃ (s : State), s.opt.jump = some .coast ∧ s.rd TRK.STATE = 6 ∧ s.is (Hdr.GATED 0x04) = false ∧ s.is (Hdr.GATED 0x05) = false) ∧
    (∃ (s : State), s.opt.jump = some .settle ∧ 256 ≤ s.opt.jumpRun ∧ s.is (Hdr.GATED 0x04) = false) :=
  ⟨⟨up |>.upd (fun s => s.wr FOC.STATE (3)) |>.upd (fun s => { s with opt := { s.opt with jump := none } }) |>.upd (fun s => s.wr (Hdr.GATED 0x04) 0) |>.upd (fun s => { s with opt := { s.opt with foc := { s.opt.foc with sweeps := 300 } } }), by decide +kernel⟩,
   ⟨up |>.upd (fun s => s.wr FOC.STATE (4)) |>.upd (fun s => s.wr TRK.STATE (4)) |>.upd (fun s => { s with opt := { s.opt with jump := none } }) |>.upd (fun s => s.wr (Hdr.GATED 0x04) 0) |>.upd (fun s => s.wr (Hdr.GATED 0x05) 0) |>.upd (fun s => { s with opt := { s.opt with foc := { s.opt.foc with lossRun := 70000 } } }), by decide +kernel⟩,
   ⟨up |>.upd (fun s => s.wr TRK.STATE (3)) |>.upd (fun s => s.wr (Hdr.GATED 0x05) 0), by decide +kernel⟩,
   ⟨up |>.upd (fun s => s.wr TRK.STATE (4)) |>.upd (fun s => s.wr TRK.LOCKED (0)) |>.upd (fun s => s.wr (Hdr.GATED 0x05) 0) |>.upd (fun s => { s with opt := { s.opt with trk := { s.opt.trk with lockRun := 64 } } }), by decide +kernel⟩,
   ⟨up |>.upd (fun s => s.wr TRK.STATE (4)) |>.upd (fun s => s.wr (Hdr.GATED 0x05) 0) |>.upd (fun s => { s with opt := { s.opt with trk := { s.opt.trk with lossRun := 70000 } } }), by decide +kernel⟩,
   ⟨up |>.upd (fun s => s.wr FOC.STATE (5)) |>.upd (fun s => { s with opt := { s.opt with jump := none } }) |>.upd (fun s => s.wr FOC.HOLD_PRED (0)) |>.upd (fun s => { s with opt := { s.opt with foc := { s.opt.foc with holdLow := false } } }) |>.upd (fun s => { s with opt := { s.opt with foc := { s.opt.foc with goodRun := 70000 } } }), by decide +kernel⟩,
   ⟨up |>.upd (fun s => s.wr FOC.STATE (5)) |>.upd (fun s => s.wr TRK.STATE (0)) |>.upd (fun s => { s with opt := { s.opt with jump := none } }) |>.upd (fun s => s.wr FOC.HOLD_PRED (0)) |>.upd (fun s => { s with opt := { s.opt with foc := { s.opt.foc with holdLow := false } } }) |>.upd (fun s => s.wr (Hdr.GATED 0x04) 0) |>.upd (fun s => s.wr FOC.SUM_AVG (4000)) |>.upd (fun s => s.wr FOC.DROP_FR (128)), by decide +kernel⟩,
   ⟨up |>.upd (fun s => s.wr FOC.STATE (1)) |>.upd (fun s => { s with opt := { s.opt with jump := none } }), by decide +kernel⟩,
   ⟨up |>.upd (fun s => s.wr TRK.STATE (1)), by decide +kernel⟩,
   ⟨up |>.upd (fun s => s.wr TRK.STATE (4)) |>.upd (fun s => s.wr (Hdr.GATED 0x05) 0), by decide +kernel⟩,
   ⟨up |>.upd (fun s => { s with opt := { s.opt with foc := { s.opt.foc with satSeen := false } } }) |>.upd (fun s => s.wr (Hdr.GATED 0x04) 0) |>.upd (fun s => { s with opt := { s.opt with foc := { s.opt.foc with satRun := 1024 } } }), by decide +kernel⟩,
   ⟨up, by decide +kernel⟩,
   ⟨up, by decide +kernel⟩,
   ⟨up |>.upd (fun s => s.wr FOC.LEARN_EN (0)) |>.upd (fun s => s.wr TRK.LEARN_EN (0)) |>.upd (fun s => s.wr SPN.SENSE (0)), by decide +kernel⟩,
   ⟨0, 0, 0, 0, up |>.upd (fun s => { s with opt := { s.opt with foc := { s.opt.foc with ended := some [(0, (0 : Int), (0 : Int), 0, true)] } } }) |>.upd (fun s => { s with opt := { s.opt with trk := { s.opt.trk with ended := none } } }) |>.upd (fun s => s.wr FOC.LEARN_EN (1)) |>.upd (fun s => s.wr SPN.SENSE (0)), by decide +kernel⟩,
   ⟨up |>.upd (fun s => s.wr FOC.JUMP_GO (0)) |>.upd (fun s => { s with drv := { s.drv with seek := none } }) |>.upd (fun s => { s with drv := { s.drv with layers := 2 } }) |>.upd (fun s => s.wr FOC.STATE (4)) |>.upd (fun s => s.wr TRK.STATE (4)), by decide +kernel⟩,
   ⟨up |>.upd (fun s => s.wr FOC.JUMP_GO (0)) |>.upd (fun s => { s with drv := { s.drv with seek := none } }) |>.upd (fun s => s.wr (Hdr.GATED 0x04) 0), by decide +kernel⟩,
   ⟨up |>.upd (fun s => { s with opt := { s.opt with jump := some .kick } }), by decide +kernel⟩,
   ⟨up |>.upd (fun s => { s with opt := { s.opt with jump := some .brake } }) |>.upd (fun s => s.wr TRK.STATE (6)) |>.upd (fun s => s.wr (Hdr.GATED 0x04) 0), by decide +kernel⟩,
   ⟨up |>.upd (fun s => { s with opt := { s.opt with jump := some .coast } }) |>.upd (fun s => s.wr TRK.STATE (6)) |>.upd (fun s => s.wr (Hdr.GATED 0x04) 0) |>.upd (fun s => s.wr (Hdr.GATED 0x05) 0), by decide +kernel⟩,
   ⟨up |>.upd (fun s => { s with opt := { s.opt with jump := some .settle } }) |>.upd (fun s => s.wr (Hdr.GATED 0x04) 0) |>.upd (fun s => { s with opt := { s.opt with jumpRun := 256 } }), by decide +kernel⟩⟩

/-- What `LaserCommandsComplete` assumes can hold. -/
theorem witness_laserCommandsComplete :
    (∃ (mon : Nat) (s : State), s.sampling = true ∧ s.pageDown 0x08 = false ∧ s.rd (Hdr.HOOK 0x08) = 0 ∧ (s.shadow = []) ∧ s.rd TRC.RUNNING = 0 ∧ s.rd LPC.STATE = 0) ∧
    (∃ (mon : Nat) (s : State), s.sampling = true ∧ s.pageDown 0x08 = false ∧ s.rd (Hdr.HOOK 0x08) = 0 ∧ (s.shadow = []) ∧ s.rd TRC.RUNNING = 0 ∧ s.rd LPC.STATE ≠ 0 ∧ s.rd LPC.LIT = 1 ∧ (s.rd LPC.TRIPS < 2 ^ 16 - 1) ∧ s.is (Hdr.GATED 0x08) = false ∧ (s.rd LPC.TRIP_780 ≤ (Config.quot 15 ((mon * s.rd CAL.GAIN_780 : Nat) : Int) 4096).toNat)) ∧
    (∃ (s : State), s.rd LPC.STATE ≠ 0 ∧ 64 ≤ s.opt.limRun ∧ (s.rd LPC.TRIPS < 2 ^ 16 - 1) ∧ s.is (Hdr.GATED 0x08) = false) ∧
    (∃ (s : State), s.rd LPC.STATE = 2 ∧ 64 ≤ s.opt.okRun ∧ s.is (Hdr.GATED 0x08) = false) ∧
    (∃ (s : State), s.rd LPC.STATE = 1 ∧ s.formatNow = s.rd CHN.FMT) ∧
    (∃ (s : State), s.rd LPC.STATE = 4) ∧
    (∃ (s : State), s.rd LPC.STATE = 3 ∧ 281 ≤ s.opt.overRun ∧ s.is (Hdr.GATED 0x08) = false) ∧
    (∃ (s : State), s.rd LPC.STATE = 3 ∧ s.opt.overRun < 281 ∧ 281 ≤ s.opt.underRun ∧ s.is (Hdr.GATED 0x08) = false) ∧
    (∃ (s : State), s.pageDown 0x08 = false ∧ s.rd LPC.REF_CAPTURE = 0) :=
  ⟨⟨0, up |>.upd (fun s => s.wr (Hdr.HOOK 0x08) (0)) |>.upd (fun s => { s with shadow := [] }) |>.upd (fun s => s.wr TRC.RUNNING (0)) |>.upd (fun s => s.wr LPC.STATE (0)), by decide +kernel⟩,
   ⟨4000, up |>.upd (fun s => s.wr (Hdr.HOOK 0x08) (0)) |>.upd (fun s => { s with shadow := [] }) |>.upd (fun s => s.wr TRC.RUNNING (0)) |>.upd (fun s => s.wr LPC.STATE 1) |>.upd (fun s => s.wr LPC.LIT (1)) |>.upd (fun s => s.wr (Hdr.GATED 0x08) 0), by decide +kernel⟩,
   ⟨up |>.upd (fun s => s.wr LPC.STATE 1) |>.upd (fun s => s.wr (Hdr.GATED 0x08) 0) |>.upd (fun s => { s with opt := { s.opt with limRun := 64 } }), by decide +kernel⟩,
   ⟨up |>.upd (fun s => s.wr LPC.STATE (2)) |>.upd (fun s => s.wr (Hdr.GATED 0x08) 0) |>.upd (fun s => { s with opt := { s.opt with okRun := 64 } }), by decide +kernel⟩,
   ⟨up |>.upd (fun s => s.wr LPC.STATE (1)), by decide +kernel⟩,
   ⟨up |>.upd (fun s => s.wr LPC.STATE (4)), by decide +kernel⟩,
   ⟨up |>.upd (fun s => s.wr LPC.STATE (3)) |>.upd (fun s => s.wr (Hdr.GATED 0x08) 0) |>.upd (fun s => { s with opt := { s.opt with overRun := 281 } }), by decide +kernel⟩,
   ⟨up |>.upd (fun s => s.wr LPC.STATE (3)) |>.upd (fun s => s.wr (Hdr.GATED 0x08) 0) |>.upd (fun s => { s with opt := { s.opt with underRun := 281 } }), by decide +kernel⟩,
   ⟨up |>.upd (fun s => s.wr LPC.REF_CAPTURE (0)), by decide +kernel⟩⟩

/-- What `SpindleCommandsComplete` assumes can hold. -/
theorem witness_spindleCommandsComplete :
    (∃ (rpm : Nat) (now : Nat) (s : State), s.sampling = true ∧ s.pageDown 0x07 = false ∧ s.rd (Hdr.HOOK 0x07) = 0 ∧ (s.shadow = []) ∧ s.rd TRC.RUNNING = 0) ∧
    (∃ (hall : Nat) (ripple : Nat) (dead : Nat) (late : Bool) (s : State), s.pow.phase = .run ∧ s.pageDown 0x07 = false ∧ s.rd (Hdr.HOOK 0x07) = 0 ∧ s.rd SPN.SENSE = 0 ∧ 1 ≤ hall ∧ hall ≤ 6 ∧ ((s.drv.comm + 1) % (6 * s.rd SPN.POLE_PAIRS) ≠ 0)) ∧
    (∃ (ripple : Nat) (dead : Nat) (late : Bool) (hall : Nat) (s : State), s.pow.phase = .run ∧ s.pageDown 0x07 = false ∧ s.rd (Hdr.HOOK 0x07) = 0 ∧ s.rd SPN.SENSE = 0 ∧ (hall = 0 ∨ hall = 7)) ∧
    (∃ (hall : Nat) (ripple : Nat) (late : Bool) (s : State), s.pow.phase = .run ∧ s.pageDown 0x07 = false ∧ s.rd (Hdr.HOOK 0x07) = 0 ∧ s.rd SPN.SENSE = 0 ∧ 1 ≤ hall ∧ hall ≤ 6 ∧ ((s.drv.comm + 1) % (6 * s.rd SPN.POLE_PAIRS) = 0) ∧ ripple ≤ s.rd SPN.UNBAL_THR ∧ (s.rd SPN.REVS < 2 ^ 32 - 1)) ∧
    (∃ (s : State), s.rd SPN.STATE = 1) ∧
    (∃ (s : State), s.rd SPN.STATE = 2 ∧ 36 ≤ s.drv.lockRun ∧ s.rd SPN.SENSE = 0 ∧ s.is (Hdr.GATED 0x07) = false) ∧
    (∃ (s : State), s.rd SPN.STATE = 4 ∧ 36 ≤ s.drv.lockRun ∧ s.is (Hdr.GATED 0x07) = false) ∧
    (∃ (s : State), s.rd SPN.STATE = 5 ∧ s.rd SPN.SENSE = 0 ∧ s.is (Hdr.GATED 0x07) = false) ∧
    (∃ (s : State), s.pow.phase = .run ∧ s.is (Hdr.GATED 0x07) = false) ∧
    (∃ (s : State), 1 ≤ s.rd SPN.STATE ∧ s.rd SPN.STATE ≤ 5 ∧ (s.rd SPN.STALLS < 2 ^ 16 - 1) ∧ s.is (Hdr.GATED 0x07) = false) :=
  ⟨⟨0, 0, up |>.upd (fun s => s.wr (Hdr.HOOK 0x07) (0)) |>.upd (fun s => { s with shadow := [] }) |>.upd (fun s => s.wr TRC.RUNNING (0)), by decide +kernel⟩,
   ⟨1, 0, 0, true, up |>.upd (fun s => { s with pow := { s.pow with phase := .run } }) |>.upd (fun s => s.wr (Hdr.HOOK 0x07) (0)) |>.upd (fun s => s.wr SPN.SENSE (0)), by decide +kernel⟩,
   ⟨0, 0, true, 0, up |>.upd (fun s => { s with pow := { s.pow with phase := .run } }) |>.upd (fun s => s.wr (Hdr.HOOK 0x07) (0)) |>.upd (fun s => s.wr SPN.SENSE (0)), by decide +kernel⟩,
   ⟨1, 0, true, up |>.upd (fun s => { s with pow := { s.pow with phase := .run } }) |>.upd (fun s => s.wr (Hdr.HOOK 0x07) (0)) |>.upd (fun s => s.wr SPN.SENSE (0)) |>.upd (fun s => { s with drv := { s.drv with comm := 6 * 4 * 6 - 1 } }), by decide +kernel⟩,
   ⟨up |>.upd (fun s => s.wr SPN.STATE (1)), by decide +kernel⟩,
   ⟨up |>.upd (fun s => s.wr SPN.STATE (2)) |>.upd (fun s => s.wr SPN.SENSE (0)) |>.upd (fun s => s.wr (Hdr.GATED 0x07) 0) |>.upd (fun s => { s with drv := { s.drv with lockRun := 36 } }), by decide +kernel⟩,
   ⟨up |>.upd (fun s => s.wr SPN.STATE (4)) |>.upd (fun s => s.wr (Hdr.GATED 0x07) 0) |>.upd (fun s => { s with drv := { s.drv with lockRun := 36 } }), by decide +kernel⟩,
   ⟨up |>.upd (fun s => s.wr SPN.STATE (5)) |>.upd (fun s => s.wr SPN.SENSE (0)) |>.upd (fun s => s.wr (Hdr.GATED 0x07) 0), by decide +kernel⟩,
   ⟨up |>.upd (fun s => { s with pow := { s.pow with phase := .run } }) |>.upd (fun s => s.wr (Hdr.GATED 0x07) 0), by decide +kernel⟩,
   ⟨up |>.upd (fun s => s.wr SPN.STATE 1) |>.upd (fun s => s.wr (Hdr.GATED 0x07) 0), by decide +kernel⟩⟩

/-- What `SledCommandsComplete` assumes can hold. -/
theorem witness_sledCommandsComplete :
    (∃ (s : State), s.pageDown 0x06 = false ∧ s.rd SLD.SEEK_GO = 0 ∧ s.pow.phase = .run ∧ s.rd TIME.STATE = 0 ∧ s.pow.entry = none) ∧
    (∃ (r : SeekReq) (rest : List SeekReq) (s : State), s.drv.seek = none ∧ (s.drv.seeks = r :: rest) ∧ s.mechOk = true ∧ s.pageDown 0x06 = false ∧ s.rd (Hdr.QUIESCE 0x06) = 0 ∧ s.rd SLD.HOME = 0 ∧ s.rd LDR.STATE = 6 ∧ s.addrNow.2 = r.layer ∧ (s.rd SLD.SEEKS < 2 ^ 16 - 1)) ∧
    (∃ (position : Nat) (r : SeekReq) (s : State), s.drv.seek = some r ∧ s.rd SLD.STATE = 1 ∧ s.drv.seekAbort = false ∧ s.addrNow.2 = r.layer ∧ s.is (Hdr.GATED 0x06) = false) ∧
    (∃ (r : SeekReq) (s : State), s.drv.seek = some r ∧ r.byGo = true ∧ s.opt.jumpWait = false ∧ SLD.SEEK_GO.key ∉ s.goWait ∧ (s.rd SLD.FAILS < 2 ^ 16 - 1) ∧ s.is (Hdr.GATED 0x06) = false) ∧
    (∃ (r : SeekReq) (s : State), s.pageDown 0x06 = false ∧ s.drv.seek = some r ∧ r.byGo = true ∧ s.rd SLD.STATE = 3 ∧ s.opt.jumpWait = false ∧ SLD.SEEK_GO.key ∉ s.goWait) ∧
    (∃ (r : SeekReq) (s : State), s.pageDown 0x06 = false ∧ s.drv.seek = some r ∧ s.rd SLD.STATE = 1) ∧
    (∃ (position : Nat) (jumped : Nat) (s : State), s.sampling = true ∧ s.pageDown 0x06 = false ∧ s.rd (Hdr.HOOK 0x06) = 0 ∧ s.rd TRC.RUNNING = 0 ∧ s.rd SLD.STATE = 0) ∧
    (∃ (s : State), s.pageDown 0x06 = false ∧ s.rd SLD.HOME = 0 ∧ s.loopResult.length = 5) ∧
    (∃ (s : State), s.rd SLD.HOME = 1 ∧ s.rd SLD.STATE = 5 ∧ SLD.HOME.key ∉ s.goWait ∧ s.is (Hdr.GATED 0x06) = false ∧ s.loopResult.length = 5) ∧
    (∃ (s : State), s.pow.phase = .run ∧ s.is (Hdr.GATED 0x06) = false ∧ s.loopResult.length = 5) ∧
    (∃ (s : State), s.rd SLD.STATE = 5 ∧ s.drv.seek = none ∧ SLD.HOME.key ∉ s.goWait ∧ s.is (Hdr.GATED 0x06) = false ∧ s.loopResult.length = 5) :=
  ⟨⟨up |>.upd (fun s => s.wr SLD.SEEK_GO (0)) |>.upd (fun s => { s with pow := { s.pow with phase := .run } }) |>.upd (fun s => s.wr TIME.STATE (0)) |>.upd (fun s => { s with pow := { s.pow with entry := none } }), by decide +kernel⟩,
   ⟨{ byGo := true, addr := 100, layer := 0 }, [], up |>.upd (fun s => { s with drv := { s.drv with seek := none } }) |>.upd (fun s => { s with drv := { s.drv with seeks := ({ byGo := true, addr := 100, layer := 0 } : SeekReq) :: ([] : List SeekReq) } }) |>.upd (fun s => s.wr (Hdr.QUIESCE 0x06) (0)) |>.upd (fun s => s.wr SLD.HOME (0)) |>.upd (fun s => s.wr LDR.STATE (6)), by decide +kernel⟩,
   ⟨0, { byGo := true, addr := 100, layer := 0 }, up |>.upd (fun s => { s with drv := { s.drv with seek := some ({ byGo := true, addr := 100, layer := 0 } : SeekReq) } }) |>.upd (fun s => s.wr SLD.STATE (1)) |>.upd (fun s => { s with drv := { s.drv with seekAbort := false } }) |>.upd (fun s => s.wr (Hdr.GATED 0x06) 0), by decide +kernel⟩,
   ⟨{ byGo := true, addr := 100, layer := 0 }, up |>.upd (fun s => { s with drv := { s.drv with seek := some ({ byGo := true, addr := 100, layer := 0 } : SeekReq) } }) |>.upd (fun s => { s with opt := { s.opt with jumpWait := false } }) |>.upd (fun s => s.wr (Hdr.GATED 0x06) 0), by decide +kernel⟩,
   ⟨{ byGo := true, addr := 100, layer := 0 }, up |>.upd (fun s => { s with drv := { s.drv with seek := some ({ byGo := true, addr := 100, layer := 0 } : SeekReq) } }) |>.upd (fun s => s.wr SLD.STATE (3)) |>.upd (fun s => { s with opt := { s.opt with jumpWait := false } }), by decide +kernel⟩,
   ⟨{ byGo := true, addr := 100, layer := 0 }, up |>.upd (fun s => { s with drv := { s.drv with seek := some ({ byGo := true, addr := 100, layer := 0 } : SeekReq) } }) |>.upd (fun s => s.wr SLD.STATE (1)), by decide +kernel⟩,
   ⟨0, 0, up |>.upd (fun s => s.wr (Hdr.HOOK 0x06) (0)) |>.upd (fun s => s.wr TRC.RUNNING (0)) |>.upd (fun s => s.wr SLD.STATE (0)), by decide +kernel⟩,
   ⟨up |>.upd (fun s => s.wr SLD.HOME (0)), by decide +kernel⟩,
   ⟨up |>.upd (fun s => s.wr SLD.HOME (1)) |>.upd (fun s => s.wr SLD.STATE (5)) |>.upd (fun s => s.wr (Hdr.GATED 0x06) 0), by decide +kernel⟩,
   ⟨up |>.upd (fun s => { s with pow := { s.pow with phase := .run } }) |>.upd (fun s => s.wr (Hdr.GATED 0x06) 0), by decide +kernel⟩,
   ⟨up |>.upd (fun s => s.wr SLD.STATE (5)) |>.upd (fun s => { s with drv := { s.drv with seek := none } }) |>.upd (fun s => s.wr (Hdr.GATED 0x06) 0), by decide +kernel⟩⟩

/-- What `LoaderCommandsComplete` assumes can hold. -/
theorem witness_loaderCommandsComplete :
    (∃ (s : State), s.pageDown 0x1A = false ∧ s.rd LDR.OPEN = 0 ∧ s.rd LDR.STATE = 7) ∧
    (∃ (s : State), s.pageDown 0x1A = false ∧ s.rd LDR.OPEN = 0 ∧ s.rd LDR.STATE = 6 ∧ s.drv.ejecting = false ∧ s.drv.seek = none ∧ (s.ecd.units = []) ∧ s.aud.play = none) ∧
    (∃ (s : State), s.pageDown 0x1A = false ∧ s.rd LDR.CLOSE = 0 ∧ s.rd LDR.STATE = 1 ∧ s.rd LDR.MODE = 0 ∧ (s.rd LDR.LOADS < 2 ^ 16 - 1)) ∧
    (∃ (s : State), s.pageDown 0x1A = false ∧ s.rd LDR.CLOSE = 0 ∧ s.rd LDR.STATE = 6) ∧
    (∃ (s : State), s.pageDown 0x1A = false ∧ s.rd LDR.DETECT = 0 ∧ s.rd LDR.STATE = 3 ∧ s.pow.phase = .run ∧ s.rd TIME.STATE = 0 ∧ s.pow.entry = none) ∧
    (∃ (s : State), s.rd LDR.LIM_POL = 0 ∧ s.drv.limA = true ∧ s.pow.phase = .run ∧ s.pageDown 0x1A = false ∧ s.rd LDR.STATE = 2 ∧ s.rd LDR.MODE = 0 ∧ s.rd LDR.AUTO_DETECT = 0 ∧ s.rd LDR.OPEN = 0 ∧ s.rd LDR.CLOSE = 1 ∧ LDR.CLOSE.key ∉ s.goWait) ∧
    (∃ (s : State), s.rd LDR.LIM_POL = 0 ∧ s.drv.limB = true ∧ s.pow.phase = .run ∧ s.pageDown 0x1A = false ∧ s.rd LDR.STATE = 4 ∧ s.rd LDR.MODE = 0 ∧ s.rd LDR.OPEN = 1 ∧ s.rd LDR.CLOSE = 0 ∧ LDR.OPEN.key ∉ s.goWait) ∧
    (∃ (s : State), s.pow.phase = .run ∧ s.pageDown 0x1A = false ∧ s.rd LDR.MODE = 1 ∧ s.drv.slot = false ∧ s.rd LDR.STATE = 1 ∧ (s.rd LDR.LOADS < 2 ^ 16 - 1)) ∧
    (∃ (s : State), s.pow.phase = .run ∧ s.rd LDR.AUTO_EJECT = 1 ∧ s.pageDown 0x1A = false ∧ s.rd LDR.PREVENT = 1) ∧
    (∃ (s : State), s.pow.phase = .run ∧ s.rd LDR.AUTO_EJECT = 1 ∧ s.pageDown 0x1A = false ∧ s.rd LDR.PREVENT = 0 ∧ s.rd LDR.STATE = 6 ∧ s.drv.ejecting = false ∧ s.drv.seek = none ∧ (s.ecd.units = []) ∧ s.aud.play = none) ∧
    (∃ (s : State), s.rd LDR.STATE = 2 ∧ s.rd LDR.MODE = 0 ∧ s.rd LDR.OPEN = 0 ∧ s.rd LDR.CLOSE = 1 ∧ LDR.CLOSE.key ∉ s.goWait ∧ (s.rd LDR.JAMS < 2 ^ 16 - 1) ∧ s.is (Hdr.GATED 0x1A) = false) ∧
    (∃ (s : State), s.rd LDR.LIM_POL = 0 ∧ s.drv.limA = false ∧ s.drv.limB = false ∧ s.pow.phase = .run ∧ s.rd LDR.OPEN = 0 ∧ s.rd LDR.CLOSE = 0 ∧ s.is (Hdr.GATED 0x1A) = false) ∧
    (∃ (s : State), s.pow.phase = .run ∧ s.is (Hdr.GATED 0x1A) = false) ∧
    (∃ (s : State), s.drv.flt = 1 ∧ s.is (Hdr.GATED 0x1A) = false) ∧
    (∃ (r : DetectResult) (s : State), s.rd LDR.STATE = 5 ∧ s.mechOk = true ∧ s.drv.detect = 1 ∧ r.chuckFail = false) ∧
    (∃ (r : DetectResult) (s : State), s.rd LDR.STATE = 5 ∧ s.mechOk = true ∧ s.drv.detect = 2 ∧ r.at06 = 1 ∧ s.is (Hdr.GATED 0x1A) = false) ∧
    (∃ (r : DetectResult) (s : State), s.rd LDR.STATE = 5 ∧ s.mechOk = true ∧ s.drv.detect = 3 ∧ r.rf = true ∧ r.disc < 15) ∧
    (∃ (s : State), s.drv.ejecting = true ∧ (s.ecd.units = []) ∧ s.rd SPN.STATE = 0 ∧ s.pow.pfail = false ∧ s.pageDown 0x1A = false) :=
  ⟨⟨up |>.upd (fun s => s.wr LDR.OPEN (0)) |>.upd (fun s => s.wr LDR.STATE (7)), by decide +kernel⟩,
   ⟨up |>.upd (fun s => s.wr LDR.OPEN (0)) |>.upd (fun s => s.wr LDR.STATE (6)) |>.upd (fun s => { s with drv := { s.drv with ejecting := false } }) |>.upd (fun s => { s with drv := { s.drv with seek := none } }) |>.upd (fun s => { s with ecd := { s.ecd with units := [] } }) |>.upd (fun s => { s with aud := { s.aud with play := none } }), by decide +kernel⟩,
   ⟨up |>.upd (fun s => s.wr LDR.CLOSE (0)) |>.upd (fun s => s.wr LDR.STATE (1)) |>.upd (fun s => s.wr LDR.MODE (0)), by decide +kernel⟩,
   ⟨up |>.upd (fun s => s.wr LDR.CLOSE (0)) |>.upd (fun s => s.wr LDR.STATE (6)), by decide +kernel⟩,
   ⟨up |>.upd (fun s => s.wr LDR.DETECT (0)) |>.upd (fun s => s.wr LDR.STATE (3)) |>.upd (fun s => { s with pow := { s.pow with phase := .run } }) |>.upd (fun s => s.wr TIME.STATE (0)) |>.upd (fun s => { s with pow := { s.pow with entry := none } }), by decide +kernel⟩,
   ⟨up |>.upd (fun s => s.wr LDR.LIM_POL (0)) |>.upd (fun s => { s with drv := { s.drv with limA := true } }) |>.upd (fun s => { s with pow := { s.pow with phase := .run } }) |>.upd (fun s => s.wr LDR.STATE (2)) |>.upd (fun s => s.wr LDR.MODE (0)) |>.upd (fun s => s.wr LDR.AUTO_DETECT (0)) |>.upd (fun s => s.wr LDR.OPEN (0)) |>.upd (fun s => s.wr LDR.CLOSE (1)), by decide +kernel⟩,
   ⟨up |>.upd (fun s => s.wr LDR.LIM_POL (0)) |>.upd (fun s => { s with drv := { s.drv with limB := true } }) |>.upd (fun s => { s with pow := { s.pow with phase := .run } }) |>.upd (fun s => s.wr LDR.STATE (4)) |>.upd (fun s => s.wr LDR.MODE (0)) |>.upd (fun s => s.wr LDR.OPEN (1)) |>.upd (fun s => s.wr LDR.CLOSE (0)), by decide +kernel⟩,
   ⟨up |>.upd (fun s => { s with pow := { s.pow with phase := .run } }) |>.upd (fun s => s.wr LDR.MODE (1)) |>.upd (fun s => { s with drv := { s.drv with slot := false } }) |>.upd (fun s => s.wr LDR.STATE (1)), by decide +kernel⟩,
   ⟨up |>.upd (fun s => { s with pow := { s.pow with phase := .run } }) |>.upd (fun s => s.wr LDR.AUTO_EJECT (1)) |>.upd (fun s => s.wr LDR.PREVENT (1)), by decide +kernel⟩,
   ⟨up |>.upd (fun s => { s with pow := { s.pow with phase := .run } }) |>.upd (fun s => s.wr LDR.AUTO_EJECT (1)) |>.upd (fun s => s.wr LDR.PREVENT (0)) |>.upd (fun s => s.wr LDR.STATE (6)) |>.upd (fun s => { s with drv := { s.drv with ejecting := false } }) |>.upd (fun s => { s with drv := { s.drv with seek := none } }) |>.upd (fun s => { s with ecd := { s.ecd with units := [] } }) |>.upd (fun s => { s with aud := { s.aud with play := none } }), by decide +kernel⟩,
   ⟨up |>.upd (fun s => s.wr LDR.STATE (2)) |>.upd (fun s => s.wr LDR.MODE (0)) |>.upd (fun s => s.wr LDR.OPEN (0)) |>.upd (fun s => s.wr LDR.CLOSE (1)) |>.upd (fun s => s.wr (Hdr.GATED 0x1A) 0), by decide +kernel⟩,
   ⟨up |>.upd (fun s => s.wr LDR.LIM_POL (0)) |>.upd (fun s => { s with drv := { s.drv with limA := false } }) |>.upd (fun s => { s with drv := { s.drv with limB := false } }) |>.upd (fun s => { s with pow := { s.pow with phase := .run } }) |>.upd (fun s => s.wr LDR.OPEN (0)) |>.upd (fun s => s.wr LDR.CLOSE (0)) |>.upd (fun s => s.wr (Hdr.GATED 0x1A) 0), by decide +kernel⟩,
   ⟨up |>.upd (fun s => { s with pow := { s.pow with phase := .run } }) |>.upd (fun s => s.wr (Hdr.GATED 0x1A) 0), by decide +kernel⟩,
   ⟨up |>.upd (fun s => { s with drv := { s.drv with flt := 1 } }) |>.upd (fun s => s.wr (Hdr.GATED 0x1A) 0), by decide +kernel⟩,
   ⟨{}, up |>.upd (fun s => s.wr LDR.STATE (5)) |>.upd (fun s => { s with drv := { s.drv with detect := 1 } }), by decide +kernel⟩,
   ⟨{ at06 := 1 }, up |>.upd (fun s => s.wr LDR.STATE (5)) |>.upd (fun s => { s with drv := { s.drv with detect := 2 } }) |>.upd (fun s => s.wr (Hdr.GATED 0x1A) 0), by decide +kernel⟩,
   ⟨{ at06 := 1, disc := 3 }, up |>.upd (fun s => s.wr LDR.STATE (5)) |>.upd (fun s => { s with drv := { s.drv with detect := 3 } }), by decide +kernel⟩,
   ⟨up |>.upd (fun s => { s with drv := { s.drv with ejecting := true } }) |>.upd (fun s => { s with ecd := { s.ecd with units := [] } }) |>.upd (fun s => s.wr SPN.STATE (0)) |>.upd (fun s => { s with pow := { s.pow with pfail := false } }), by decide +kernel⟩⟩

/-- What `ChannelCommandsComplete` assumes can hold. -/
theorem witness_channelCommandsComplete :
    (∃ (s : State), s.pageDown 0x09 = false) ∧
    (∃ (errs : List Int) (s : State), s.rd CHN.STATE = 1 ∧ s.rd (Hdr.HOOK 0x09) = 0 ∧ (s.crossings errs).rateFits = true ∧ (s.crossings errs).rmsBelow 256 10 = true ∧ s.is (Hdr.GATED 0x09) = false) ∧
    (∃ (errs : List Int) (s : State), s.rd CHN.STATE = 2 ∧ s.rd (Hdr.HOOK 0x09) = 0 ∧ (s.crossings errs).rmsAbove 256 25 = true ∧ (s.rd CHN.LOCK_LOSSES < 2 ^ 16 - 1) ∧ s.is (Hdr.GATED 0x09) = false) ∧
    (∃ (errs : List Int) (s : State), s.rd CHN.STATE = 3 ∧ s.rd CHN.IN_DROP = 0 ∧ s.rd (Hdr.HOOK 0x09) = 0 ∧ (s.crossings errs).rmsBelow 64 10 = true) ∧
    (∃ (s : State), s.rd CHN.STATE = 3 ∧ (s.rd CHN.LOCK_LOSSES < 2 ^ 16 - 1) ∧ s.is (Hdr.GATED 0x09) = false) ∧
    (∃ (s : State), s.rd CHN.STATE = 1 ∧ s.is (Hdr.GATED 0x09) = false) ∧
    (∃ (theta : Nat) (s : State), s.delivering = true ∧ s.rd CHN.IN_DROP = 0 ∧ s.pageDown 0x09 = false ∧ (s.rd CHN.DROPOUTS < 2 ^ 16 - 1)) ∧
    (∃ (theta : Nat) (s : State), s.rd CHN.IN_DROP = 1 ∧ s.pageDown 0x09 = false) ∧
    (∃ (s : State), s.delivering = true ∧ s.rd CHN.IN_DROP = 1 ∧ s.rd CHN.RF_OK = 1 ∧ s.is (Hdr.GATED 0x09) = false) ∧
    (∃ (s : State), s.rd CHN.STATE = 4) ∧
    (∃ (theta : Nat) (s : State), s.pageDown 0x09 = false ∧ s.rd CHN.RF_OK = 0) ∧
    (∃ (theta : Nat) (s : State), s.pageDown 0x09 = false ∧ s.rd CHN.RF_OK = 1 ∧ s.rd CHN.STATE = 2 ∧ s.rd CHN.IN_DROP = 0) ∧
    (∃ (b : BitBlock) (s : State), s.rd CHN.STATE = 1 ∧ s.pageDown 0x09 = false ∧ s.rd (Hdr.HOOK 0x09) = 0 ∧ s.rd CHN.IN_DROP = 0) ∧
    (∃ (b : BitBlock) (s : State), s.rd CHN.STATE = 2 ∧ s.pageDown 0x09 = false ∧ s.rd (Hdr.HOOK 0x09) = 0 ∧ s.rd CHN.IN_DROP = 0 ∧ (s.shadow = []) ∧ s.rd CHN.LEVEL_AD_EN = 1 ∧ s.rd CHN.EQ_AD_EN = 0) ∧
    (∃ (id : Nat) (frame : Nat) (s : State), s.rd DEM.STATE = 0 ∧ s.pageDown 0x0A = false ∧ s.rd CHN.FMT = 1 ∧ (s.rd DEM.LOCK_N ≤ s.chn.syncs + 1)) ∧
    (∃ (ofs : Int) (id : Nat) (frame : Nat) (s : State), s.rd DEM.STATE = 2 ∧ s.pageDown 0x0A = false ∧ s.rd CHN.FMT = 0 ∧ s.rd CHN.STATE = 2 ∧ s.chn.through = true ∧ ofs ≠ 0 ∧ ofs.natAbs ≤ s.rd DEM.SYNC_WIN ∧ (s.rd CHN.SLIPS < 2 ^ 16 - 1) ∧ s.is (Hdr.GATED 0x09) = false) ∧
    (∃ (s : State), s.rd DEM.STATE = 1 ∧ s.pageDown 0x0A = false ∧ (s.rd DEM.INSERT_RUN + 1 < s.rd DEM.INSERT_MAX) ∧ (s.rd DEM.INSERTS < 2 ^ 16 - 1)) ∧
    (∃ (s : State), s.rd DEM.STATE = 2 ∧ s.pageDown 0x0A = false ∧ (s.rd DEM.INSERT_MAX ≤ s.rd DEM.INSERT_RUN + 1) ∧ (s.rd DEM.SYNC_LOSSES < 2 ^ 16 - 1)) ∧
    (∃ (data : Nat) (margin : Nat) (erased : Bool) (illegal : Bool) (inserted : Bool) (s : State), s.rd DEM.STATE ≠ 3 ∧ s.pageDown 0x0A = false ∧ (s.rd DEM.ILLEGAL < 2 ^ 16 - 1)) ∧
    (∃ (q : List Byte) (s : State), s.rd DEM.STATE ≠ 3 ∧ s.pageDown 0x0A = false ∧ s.rd CHN.FMT = 0 ∧ qPasses q = false ∧ (s.rd DEM.SUBQ_ERRS < 2 ^ 16 - 1)) ∧
    (∃ (q : List Byte) (a : Int) (s : State), s.rd DEM.STATE ≠ 3 ∧ s.pageDown 0x0A = false ∧ s.rd CHN.FMT = 0 ∧ qPasses q = true ∧ (beAt q 0 1 % 16 = 1) ∧ qLba q = some a ∧ s.drv.seek = none ∧ s.drv.slip = none) ∧
    (∃ (s : State), s.rd DEM.STATE ≠ 3 ∧ s.pageDown 0x0A = false ∧ s.rd CHN.FMT = 1 ∧ (s.rd DEM.ID_ERRS < 2 ^ 16 - 1)) ∧
    (∃ (v : Nat) (s : State), s.rd DEM.STATE ≠ 3 ∧ s.pageDown 0x0A = false ∧ s.rd CHN.FMT = 1 ∧ s.drv.seek = none ∧ s.drv.slip = none ∧ s.rd DEM.ADDR_VALID = 0) ∧
    (∃ (port : HostPort) (s : State), s.pageDown 0x0A = false) :=
  ⟨⟨up, by decide +kernel⟩,
   ⟨[], up |>.upd (fun s => s.wr CHN.STATE (1)) |>.upd (fun s => s.wr (Hdr.HOOK 0x09) (0)) |>.upd (fun s => s.wr (Hdr.GATED 0x09) 0) |>.upd (fun s => { s with chn := { s.chn with period := 10000000 * 65536 } }) |>.upd (fun s => { s with chn := { s.chn with errs := List.replicate 256 0 } }), by decide +kernel⟩,
   ⟨[], up |>.upd (fun s => s.wr CHN.STATE (2)) |>.upd (fun s => s.wr (Hdr.HOOK 0x09) (0)) |>.upd (fun s => s.wr (Hdr.GATED 0x09) 0) |>.upd (fun s => { s with chn := { s.chn with period := 10000000 * 65536 } }) |>.upd (fun s => { s with chn := { s.chn with errs := List.replicate 256 2000 } }), by decide +kernel⟩,
   ⟨[], up |>.upd (fun s => s.wr CHN.STATE (3)) |>.upd (fun s => s.wr CHN.IN_DROP (0)) |>.upd (fun s => s.wr (Hdr.HOOK 0x09) (0)) |>.upd (fun s => { s with chn := { s.chn with period := 10000000 * 65536 } }) |>.upd (fun s => { s with chn := { s.chn with errs := List.replicate 256 0 } }), by decide +kernel⟩,
   ⟨up |>.upd (fun s => s.wr CHN.STATE (3)) |>.upd (fun s => s.wr (Hdr.GATED 0x09) 0), by decide +kernel⟩,
   ⟨up |>.upd (fun s => s.wr CHN.STATE (1)) |>.upd (fun s => s.wr (Hdr.GATED 0x09) 0), by decide +kernel⟩,
   ⟨5, up |>.upd (fun s => s.wr CHN.IN_DROP (0)) |>.upd (fun s => s.wr CHN.STATE (2)), by decide +kernel⟩,
   ⟨0, up |>.upd (fun s => s.wr CHN.IN_DROP (1)), by decide +kernel⟩,
   ⟨up |>.upd (fun s => s.wr CHN.IN_DROP (1)) |>.upd (fun s => s.wr CHN.RF_OK (1)) |>.upd (fun s => s.wr (Hdr.GATED 0x09) 0) |>.upd (fun s => s.wr CHN.STATE (2)), by decide +kernel⟩,
   ⟨up |>.upd (fun s => s.wr CHN.STATE (4)), by decide +kernel⟩,
   ⟨0, up |>.upd (fun s => s.wr CHN.RF_OK (0)), by decide +kernel⟩,
   ⟨0, up |>.upd (fun s => s.wr CHN.RF_OK (1)) |>.upd (fun s => s.wr CHN.STATE (2)) |>.upd (fun s => s.wr CHN.IN_DROP (0)), by decide +kernel⟩,
   ⟨{}, up |>.upd (fun s => s.wr CHN.STATE (1)) |>.upd (fun s => s.wr (Hdr.HOOK 0x09) (0)) |>.upd (fun s => s.wr CHN.IN_DROP (0)), by decide +kernel⟩,
   ⟨{}, up |>.upd (fun s => s.wr CHN.STATE (2)) |>.upd (fun s => s.wr (Hdr.HOOK 0x09) (0)) |>.upd (fun s => s.wr CHN.IN_DROP (0)) |>.upd (fun s => { s with shadow := [] }) |>.upd (fun s => s.wr CHN.LEVEL_AD_EN (1)) |>.upd (fun s => s.wr CHN.EQ_AD_EN (0)), by decide +kernel⟩,
   ⟨0, 0, up |>.upd (fun s => s.wr DEM.STATE (0)) |>.upd (fun s => s.wr CHN.FMT (1)) |>.upd (fun s => { s with chn := { s.chn with syncs := 255 } }), by decide +kernel⟩,
   ⟨2, 0, 0, up |>.upd (fun s => s.wr DEM.STATE (2)) |>.upd (fun s => s.wr CHN.FMT (0)) |>.upd (fun s => s.wr CHN.STATE (2)) |>.upd (fun s => { s with chn := { s.chn with through := true } }) |>.upd (fun s => s.wr (Hdr.GATED 0x09) 0) |>.upd (fun s => s.wr DEM.SYNC_WIN (3)), by decide +kernel⟩,
   ⟨up |>.upd (fun s => s.wr DEM.STATE (1)), by decide +kernel⟩,
   ⟨up |>.upd (fun s => s.wr DEM.STATE (2)) |>.upd (fun s => s.wr DEM.INSERT_RUN (254)), by decide +kernel⟩,
   ⟨0, 0, true, true, true, up |>.upd (fun s => s.wr DEM.STATE (1)), by decide +kernel⟩,
   ⟨[], up |>.upd (fun s => s.wr CHN.FMT (0)) |>.upd (fun s => s.wr DEM.STATE (1)), by decide +kernel⟩,
   ⟨goodQ, 9079, up |>.upd (fun s => s.wr CHN.FMT (0)) |>.upd (fun s => { s with drv := { s.drv with seek := none } }) |>.upd (fun s => { s with drv := { s.drv with slip := none } }) |>.upd (fun s => s.wr DEM.STATE (1)), by decide +kernel⟩,
   ⟨up |>.upd (fun s => s.wr CHN.FMT (1)) |>.upd (fun s => s.wr DEM.STATE (1)), by decide +kernel⟩,
   ⟨0, up |>.upd (fun s => s.wr CHN.FMT (1)) |>.upd (fun s => { s with drv := { s.drv with seek := none } }) |>.upd (fun s => { s with drv := { s.drv with slip := none } }) |>.upd (fun s => s.wr DEM.ADDR_VALID (0)) |>.upd (fun s => s.wr DEM.STATE (1)), by decide +kernel⟩,
   ⟨.pcie, up, by decide +kernel⟩⟩

/-- What `DecodeCommandsComplete` assumes can hold. -/
theorem witness_decodeCommandsComplete :
    (∃ (d : Decode) (s : State), s.pageDown 0x0B = false ∧ s.unitAt d.addr d.layer = none ∧ (s.rd ECD.UNITS < 2 ^ 32 - 1)) ∧
    (∃ (d : Decode) (x : SectorDec) (u : EUnit) (s : State), s.pageDown 0x0B = false ∧ (s.ecd.units = [u]) ∧ d.addr = u.addr ∧ d.layer = u.layer ∧ u.direct = true ∧ u.level = 0 ∧ u.forced = 0 ∧ u.need = 1 ∧ (d.sectors = [x]) ∧ x.index = 0 ∧ x.kind = 0 ∧ (∀ w ∈ d.c2, 2 * w.e + w.f ≤ 4 ∧ w.e ≤ 1) ∧ s.rd (Hdr.HOOK 0x0B) = 0 ∧ (s.ryl.bserves = [])) ∧
    (∃ (d : Decode) (u : EUnit) (s : State), s.pageDown 0x0B = false ∧ (s.ecd.units = [u]) ∧ d.addr = u.addr ∧ d.layer = u.layer ∧ u.direct = true ∧ u.level = 0 ∧ u.need ≠ 0 ∧ 1 ≤ u.most ∧ (d.sectors = []) ∧ d.failed = none ∧ s.rd (Hdr.HOOK 0x0B) = 0 ∧ s.rd ECD.ERASURE_EN = 1 ∧ s.drv.ejecting = false ∧ (s.ryl.bserves = []) ∧ (s.rd ECD.FAILS_L0 < 2 ^ 32 - 1)) ∧
    (∃ (d : Decode) (u : EUnit) (s : State), s.pageDown 0x0B = false ∧ (s.ecd.units = [u]) ∧ d.addr = u.addr ∧ d.layer = u.layer ∧ u.level = 2 ∧ u.holding = true ∧ u.need ≠ 0 ∧ (d.sectors = []) ∧ s.rd (Hdr.HOOK 0x0B) = 0 ∧ (u.attempts + 1 < min u.tries (s.rd ECD.REREAD_N))) :=
  ⟨⟨{ addr := 100, sectors := [] }, up, by decide +kernel⟩,
   ⟨{ addr := 100, sectors := [{ kind := 0, data := List.replicate 2352 7 }] }, { kind := 0, data := List.replicate 2352 7 }, { addr := 100, layer := 0, need := 1, direct := true }, up |>.upd (fun s => { s with ecd := { s.ecd with units := [({ addr := 100, layer := 0, need := 1, direct := true } : EUnit)] } }) |>.upd (fun s => s.wr (Hdr.HOOK 0x0B) (0)) |>.upd (fun s => { s with ryl := { s.ryl with bserves := [] } }), by decide +kernel⟩,
   ⟨{ addr := 100, sectors := [] }, { addr := 100, layer := 0, need := 1, direct := true }, up |>.upd (fun s => { s with ecd := { s.ecd with units := [({ addr := 100, layer := 0, need := 1, direct := true } : EUnit)] } }) |>.upd (fun s => s.wr (Hdr.HOOK 0x0B) (0)) |>.upd (fun s => s.wr ECD.ERASURE_EN (1)) |>.upd (fun s => { s with drv := { s.drv with ejecting := false } }) |>.upd (fun s => { s with ryl := { s.ryl with bserves := [] } }), by decide +kernel⟩,
   ⟨{ addr := 100, sectors := [] }, { addr := 100, layer := 0, level := 2, need := 1, direct := false, holding := true }, up |>.upd (fun s => { s with ecd := { s.ecd with units := [({ addr := 100, layer := 0, level := 2, need := 1, direct := false, holding := true } : EUnit)] } }) |>.upd (fun s => s.wr (Hdr.HOOK 0x0B) (0)) |>.upd (fun s => s.wr ECD.REREAD_N (5)), by decide +kernel⟩⟩

/-- What `AveragingCommandsComplete` assumes can hold. -/
theorem witness_averagingCommandsComplete :
    (∃ (r : PageReq) (rest : List PageReq) (s : State), (s.mem.wait = r :: rest) ∧ r.use = .accum ∧ s.rd AVG.STATE = 1 ∧ s.allocOk = true ∧ (r.pages + s.rd MEM.RSV_PAGES ≤ s.freePages.length) ∧ s.withheld 0x0E = false) ∧
    (∃ (u : EUnit) (s : State), s.avgUnit = some u ∧ s.endsHere u ∧ s.rd AVG.STATE = 1 ∧ (s.rd ECD.UNRECOVERED < 2 ^ 16 - 1) ∧ s.is (Hdr.GATED 0x0B) = false ∧ s.is (Hdr.GATED 0x0D) = false) ∧
    (∃ (u : EUnit) (s : State), s.avgUnit = some u ∧ s.endsHere u ∧ s.pageDown 0x0D = false ∧ (s.rd ECD.UNRECOVERED < 2 ^ 16 - 1) ∧ s.is (Hdr.GATED 0x0B) = false) ∧
    (∃ (p : Pass) (u : EUnit) (s : State), s.avgUnit = some u ∧ s.rd AVG.STATE = 2 ∧ s.pageDown 0x0D = false ∧ s.rd (Hdr.HOOK 0x0D) = 0 ∧ (p.frames = []) ∧ p.addr = none ∧ s.avg.flat < 2 ∧ (s.avg.taken + 1 < s.avgMax) ∧ (s.ryl.bserves = []) ∧ (s.rd AVG.SKIPS < 2 ^ 16 - 1)) ∧
    (∃ (p : Pass) (f : PassFrame) (u : EUnit) (s : State), s.avgUnit = some u ∧ s.rd AVG.STATE = 2 ∧ s.pageDown 0x0D = false ∧ s.rd (Hdr.HOOK 0x0D) = 0 ∧ (p.frames = [f]) ∧ f.found = true ∧ p.addr = none ∧ s.rd AVG.PASSES = 0 ∧ 2 ≤ s.avgMin ∧ s.avg.flat < 2 ∧ (s.avg.taken + 1 < s.avgMax) ∧ (s.ryl.bserves = [])) ∧
    (∃ (addr : Nat) (layer : Nat) (u : EUnit) (s : State), s.unitAt addr layer = some u ∧ s.endsHere u ∧ u.level = 4 ∧ s.rd ECD.BORROW_PEERS ≤ u.asked.length ∧ (∃ o ∈ s.ryl.opens, o.unit = some (addr, layer)) ∧ (s.rd ECD.UNRECOVERED < 2 ^ 16 - 1) ∧ s.is (Hdr.GATED 0x0B) = false) ∧
    (∃ (v : Int), (-31 ≤ v) ∧ v ≤ 31) :=
  ⟨⟨{ use := .accum, pages := 60 }, [], up |>.upd (fun s => { s with mem := { s.mem with wait := ({ use := .accum, pages := 60 } : PageReq) :: ([] : List PageReq) } }) |>.upd (fun s => s.wr AVG.STATE (1)), by decide +kernel⟩,
   ⟨{ addr := 100, layer := 0, level := 3, need := 1, holding := true }, up |>.upd (fun s => s.wr AVG.STATE (1)) |>.upd (fun s => s.wr (Hdr.GATED 0x0B) 0) |>.upd (fun s => s.wr (Hdr.GATED 0x0D) 0) |>.upd (fun s => { s with que := { s.que with cmds := [cmdE 3 (ent [(0, 0x10), (0x0C, 1), (0x10, 100), (0x18, 1), (2, 7)])] } }) |>.upd (fun s => { s with ecd := { s.ecd with units := [{ addr := 100, layer := 0, level := 3, need := 1, holding := true }] } }) |>.upd (fun s => s.wr AVG.BUSY (1)) |>.upd (fun s => s.wr AVG.ADDR (100)) |>.upd (fun s => s.wr ECD.BORROW_EN (0)) |>.upd (fun s => s.wr ECD.CONCEAL_EN (0)), by decide +kernel⟩,
   ⟨{ addr := 100, layer := 0, level := 3, need := 1, holding := true }, up |>.upd (fun s => s.wr (Hdr.GATED 0x0B) 0) |>.upd (fun s => { s with que := { s.que with cmds := [cmdE 3 (ent [(0, 0x10), (0x0C, 1), (0x10, 100), (0x18, 1), (2, 7)])] } }) |>.upd (fun s => { s with ecd := { s.ecd with units := [{ addr := 100, layer := 0, level := 3, need := 1, holding := true }] } }) |>.upd (fun s => s.wr AVG.BUSY (1)) |>.upd (fun s => s.wr AVG.ADDR (100)) |>.upd (fun s => s.wr ECD.BORROW_EN (0)) |>.upd (fun s => s.wr ECD.CONCEAL_EN (0)), by decide +kernel⟩,
   ⟨{ frames := [] }, { addr := 100, layer := 0, level := 3, need := 1, holding := true }, up |>.upd (fun s => s.wr AVG.STATE (2)) |>.upd (fun s => s.wr (Hdr.HOOK 0x0D) (0)) |>.upd (fun s => { s with ryl := { s.ryl with bserves := [] } }) |>.upd (fun s => { s with que := { s.que with cmds := [cmdE 3 (ent [(0, 0x10), (0x0C, 1), (0x10, 100), (0x18, 1), (2, 7)])] } }) |>.upd (fun s => { s with ecd := { s.ecd with units := [{ addr := 100, layer := 0, level := 3, need := 1, holding := true }] } }) |>.upd (fun s => s.wr AVG.BUSY (1)) |>.upd (fun s => s.wr AVG.ADDR (100)) |>.upd (fun s => s.wr ECD.BORROW_EN (0)) |>.upd (fun s => s.wr ECD.CONCEAL_EN (0)), by decide +kernel⟩,
   ⟨{ frames := [{ found := true, at_ := 0, samples := [5] }] }, { found := true, at_ := 0, samples := [5] }, { addr := 100, layer := 0, level := 3, need := 1, holding := true }, up |>.upd (fun s => s.wr AVG.STATE (2)) |>.upd (fun s => s.wr (Hdr.HOOK 0x0D) (0)) |>.upd (fun s => s.wr AVG.PASSES (0)) |>.upd (fun s => { s with ryl := { s.ryl with bserves := [] } }) |>.upd (fun s => { s with que := { s.que with cmds := [cmdE 3 (ent [(0, 0x10), (0x0C, 1), (0x10, 100), (0x18, 1), (2, 7)])] } }) |>.upd (fun s => { s with ecd := { s.ecd with units := [{ addr := 100, layer := 0, level := 3, need := 1, holding := true }] } }) |>.upd (fun s => s.wr AVG.BUSY (1)) |>.upd (fun s => s.wr AVG.ADDR (100)) |>.upd (fun s => s.wr ECD.BORROW_EN (0)) |>.upd (fun s => s.wr ECD.CONCEAL_EN (0)), by decide +kernel⟩,
   ⟨100, 0, { addr := 100, layer := 0, level := 4, asked := [9, 8, 7, 6, 5, 4, 3, 2, 1], need := 1, holding := true }, up |>.upd (fun s => s.wr (Hdr.GATED 0x0B) 0) |>.upd (fun s => { s with que := { s.que with cmds := [cmdE 3 (ent [(0, 0x10), (0x0C, 1), (0x10, 100), (0x18, 1), (2, 7)])] } }) |>.upd (fun s => { s with ecd := { s.ecd with units := [{ addr := 100, layer := 0, level := 4, asked := [9, 8, 7, 6, 5, 4, 3, 2, 1], need := 1, holding := true }] } }) |>.upd (fun s => s.wr ECD.BORROW_EN (0)) |>.upd (fun s => s.wr ECD.CONCEAL_EN (0)) |>.upd (fun s => { s with ryl := { s.ryl with opens := [{ ctag := 7, epoch := 0, node := 5, unit := some (100, 0) }] } }), by decide +kernel⟩,
   ⟨0, by decide +kernel⟩⟩

/-- What `ErgCommandsComplete` assumes can hold. -/
theorem witness_ergCommandsComplete :
    (∃ (s : State), s.pageDown 0x0C = false) ∧
    (∃ (d : List Byte) (s : State), s.pageDown 0x0C = false ∧ s.drv.discId = some d ∧ s.rd ERG.SAVE_EN = 1 ∧ s.rd OAS.STATE = 4) ∧
    (∃ (s : State), s.pageDown 0x0C = false ∧ s.rd ERG.SCAN = 0 ∧ s.pow.phase = .run ∧ s.rd TIME.STATE = 0 ∧ s.pow.entry = none) ∧
    (∃ (s : State), s.rd ERG.SCANNING = 1 ∧ s.pageDown 0x0C = false ∧ ERG.SCAN.key ∉ s.goWait) ∧
    (∃ (port : HostPort) (s : State), s.pageDown 0x0C = false) :=
  ⟨⟨up, by decide +kernel⟩,
   ⟨[], up |>.upd (fun s => { s with drv := { s.drv with discId := some ([] : List Byte) } }) |>.upd (fun s => s.wr ERG.SAVE_EN (1)) |>.upd (fun s => s.wr OAS.STATE (4)), by decide +kernel⟩,
   ⟨up |>.upd (fun s => s.wr ERG.SCAN (0)) |>.upd (fun s => { s with pow := { s.pow with phase := .run } }) |>.upd (fun s => s.wr TIME.STATE (0)) |>.upd (fun s => { s with pow := { s.pow with entry := none } }), by decide +kernel⟩,
   ⟨up |>.upd (fun s => s.wr ERG.SCANNING (1)), by decide +kernel⟩,
   ⟨.pcie, up, by decide +kernel⟩⟩

/-- What `CacheWindowReadsAndWrites` assumes can hold. -/
theorem witness_cacheWindowReadsAndWrites :
    (∃ (off : Nat) (len : Nat) (hdr : List Nat) (s : State), s.rd HPT.DSTATE = 0 ∧ s.pageDown 0x0E = false ∧ s.windowOpen = true ∧ s.rd (Hdr.HOOK 0x0E) = 0 ∧ 0 < len ∧ (len ≤ 256 - off % 64) ∧ (off + len ≤ cacheBytes) ∧ (∀ w ∈ wordsOf off len, s.synd w = 0)) ∧
    (∃ (w : Nat) (hdr : List Nat) (s : State), s.rd HPT.DSTATE = 0 ∧ s.pageDown 0x0E = false ∧ s.windowOpen = true ∧ s.rd (Hdr.HOOK 0x0E) = 0 ∧ w < 786432 ∧ syndromeOf (s.synd w) = .bad ∧ (s.rd MEM.UE_READS < 2 ^ 16 - 1) ∧ (s.rd HPT.CA_SENT < 2 ^ 16 - 1) ∧ s.is (Hdr.GATED 0x18) = false) ∧
    (∃ (off : Nat) (data : List Byte) (en : List Bool) (hdr : List Nat) (s : State), s.rd HPT.DSTATE = 0 ∧ s.pageDown 0x0E = false ∧ s.windowOpen = true ∧ s.rd (Hdr.HOOK 0x0E) = 0 ∧ (∀ w ∈ wordsOf off data.length, s.synd w = 0)) :=
  ⟨⟨0, 16, [], up |>.upd (fun s => s.wr HPT.DSTATE (0)) |>.upd (fun s => s.wr (Hdr.HOOK 0x0E) (0)), by decide +kernel⟩,
   ⟨77, [], up |>.upd (fun s => s.wr HPT.DSTATE (0)) |>.upd (fun s => s.wr (Hdr.HOOK 0x0E) (0)) |>.upd (fun s => s.wr (Hdr.GATED 0x18) 0) |>.upd (fun s => { s with ecc := [(77, 0xFF)] }), by decide +kernel⟩,
   ⟨0, [], [], [], up |>.upd (fun s => s.wr HPT.DSTATE (0)) |>.upd (fun s => s.wr (Hdr.HOOK 0x0E) (0)), by decide +kernel⟩⟩

/-- What `ScrubRepairsAFlippedBit` assumes can hold. -/
theorem witness_scrubRepairsAFlippedBit :
    (∃ (s : State), s.scrubbing = true ∧ s.synd (s.rd MEM.SCRUB_POS) = 0 ∧ (s.rd MEM.SCRUB_POS + 1 < 786432)) ∧
    (∃ (n : Nat) (s : State), n < 72 ∧ s.scrubbing = true ∧ s.synd (s.rd MEM.SCRUB_POS) = 0 ∧ s.rd MEM.SCRUB_POS < 786432 ∧ (s.rd MEM.SCRUB_FIXES < 2 ^ 16 - 1)) :=
  ⟨⟨up, by decide +kernel⟩,
   ⟨0, up, by decide +kernel⟩⟩

/-- What `CacheCommandsComplete` assumes can hold. -/
theorem witness_cacheCommandsComplete :
    (∃ (s : State), s.scrubbing = true ∧ s.mem.scrubLate = false) ∧
    (∃ (s : State), s.pageDown 0x0E = false) ∧
    (∃ (s : State), s.pageDown 0x0E = false) ∧
    (∃ (port : HostPort) (e : TabEnt) (s : State), s.pageDown 0x0E = false ∧ s.rd MEM.TABLE = 0 ∧ ((s.mem.ceTab.find? fun x => x.entry == s.rd MEM.ENTRY) = some e)) ∧
    (∃ (n : Nat) (source : Nat) (s : State), (s.mem.hostPend = some (n, source)) ∧ s.hostReady n = true ∧ s.allocOk = true ∧ (n < 2 ^ 10)) ∧
    (∃ (r : PageReq) (s : State), (s.mem.wait = [r]) ∧ r.use = .audio ∧ s.allocOk = true ∧ s.rd (Hdr.HOOK 0x0E) = 0 ∧ r.pages ≤ s.freePages.length) ∧
    (∃ (page : Nat) (s : State), ((page, PageUse.cache) ∈ s.mem.owners) ∧ (s.mem.ueTab = []) ∧ (s.que.cmds = [])) ∧
    (∃ (w : Nat) (data : List Byte) (s : State), s.coreUp = true ∧ s.rd HPT.DSTATE = 0 ∧ s.pageDown 0x0E = false ∧ s.windowOpen = true ∧ (s.windowLands (8 * w) = true) ∧ data.length = 8 ∧ (s.rd HPT.POISON_RCVD < 2 ^ 16 - 1) ∧ s.is (Hdr.GATED 0x18) = false) ∧
    (∃ (hdr : List Nat) (s : State), s.coreUp = true ∧ (s.rd HPT.POISON_RCVD < 2 ^ 16 - 1) ∧ (s.rd HPT.DROPPED < 2 ^ 16 - 1) ∧ s.is (Hdr.GATED 0x18) = false) :=
  ⟨⟨up |>.upd (fun s => { s with mem := { s.mem with scrubLate := false } }), by decide +kernel⟩,
   ⟨up, by decide +kernel⟩,
   ⟨up, by decide +kernel⟩,
   ⟨.pcie, { entry := 0, word := 5, synd := 3, count := 1, bit := 1 }, up |>.upd (fun s => s.wr MEM.TABLE (0)) |>.upd (fun s => { s with mem := { s.mem with ceTab := [{ entry := 0, word := 5, synd := 3, count := 1, bit := 1 }] } }), by decide +kernel⟩,
   ⟨0, 0, up |>.upd (fun s => { s with mem := { s.mem with hostPend := some (0, 0) } }), by decide +kernel⟩,
   ⟨{ use := .audio, pages := 1 }, up |>.upd (fun s => { s with mem := { s.mem with wait := [({ use := .audio, pages := 1 } : PageReq)] } }) |>.upd (fun s => s.wr (Hdr.HOOK 0x0E) (0)), by decide +kernel⟩,
   ⟨80, up |>.upd (fun s => { s with mem := { s.mem with ueTab := [] } }) |>.upd (fun s => { s with que := { s.que with cmds := [] } }) |>.upd (fun s => { s with mem := { s.mem with owners := [(80, .cache)] } }), by decide +kernel⟩,
   ⟨9, List.replicate 8 5, up |>.upd (fun s => s.wr HPT.DSTATE (0)) |>.upd (fun s => s.wr (Hdr.GATED 0x18) 0), by decide +kernel⟩,
   ⟨[], up |>.upd (fun s => s.wr (Hdr.GATED 0x18) 0), by decide +kernel⟩⟩

/-- What `PcieCommandsComplete` assumes can hold. -/
theorem witness_pcieCommandsComplete :
    (∃ (both5 : Bool) (s : State), s.coreUp = true ∧ s.pow.perst = false ∧ s.rd HPT.LINK_UP = 0 ∧ s.is (Hdr.GATED 0x18) = false) ∧
    (∃ (s : State), s.coreUp = true ∧ s.rd HPT.LINK_UP = 1 ∧ s.rd HPT.RETRAIN = 0) ∧
    (∃ (both5 : Bool) (s : State), s.rd HPT.LINK_UP = 1 ∧ HPT.RETRAIN.key ∉ s.goWait ∧ s.is (Hdr.GATED 0x18) = false) ∧
    (∃ (k : Nat) (s : State), s.coreUp = true ∧ (s.rd HPT.RECEIVER_ERRS < 2 ^ 16 - 1) ∧ s.is (Hdr.GATED 0x18) = false) ∧
    (∃ (msg : Option Nat) (s : State), s.coreUp = true ∧ s.is (Hdr.GATED 0x18) = false) ∧
    (∃ (rollover : Bool) (msg : Option Nat) (s : State), s.coreUp = true ∧ (s.rd HPT.REPLAYS < 2 ^ 16 - 1) ∧ s.is (Hdr.GATED 0x18) = false) ∧
    (∃ (hdr : List Nat) (s : State), s.coreUp = true ∧ (s.rd HPT.UR_SENT < 2 ^ 16 - 1) ∧ s.is (Hdr.GATED 0x18) = false) ∧
    (∃ (hdr : List Nat) (s : State), s.coreUp = true ∧ (s.rd HPT.DROPPED < 2 ^ 16 - 1) ∧ s.is (Hdr.GATED 0x18) = false) ∧
    (∃ (hdr : List Nat) (s : State), s.coreUp = true) ∧
    (∃ (s : State), s.pow.perst = false ∧ s.pow.phase ≠ .off ∧ s.coreUp = true ∧ s.is (Hdr.GATED 0x18) = false) ∧
    (∃ (s : State), s.pow.phase = .run ∧ s.rd HPT.LINK_UP = 1 ∧ s.is (Hdr.GATED 0x18) = false) ∧
    (∃ (s : State), s.coreUp = true ∧ s.rd HPT.LINK_UP = 1) ∧
    (∃ (s : State), s.pow.funcReset = true ∧ s.is (Hdr.GATED 0x00) = false) ∧
    (∃ (s : State), s.rd HPT.LINK_UP = 1 ∧ s.is (Hdr.GATED 0x18) = false) ∧
    (∃ (ident : Nat) (s : State), s.coreUp = true ∧ s.rd HPT.LINK_UP = 1 ∧ s.pow.phase = .run) ∧
    (∃ (r : CfgReq) (ident : Nat) (s : State), s.coreUp = true ∧ s.rd HPT.LINK_UP = 1 ∧ s.pow.phase ≠ .run) ∧
    (∃ (ident : Nat) (s : State), s.coreUp = true ∧ s.rd HPT.LINK_UP = 1 ∧ s.pow.phase = .run ∧ s.rd HPT.DSTATE = 0 ∧ s.is (Hdr.GATED 0x18) = false) ∧
    (∃ (ident : Nat) (value : Nat) (s : State), s.coreUp = true ∧ s.rd HPT.LINK_UP = 1 ∧ s.pow.phase = .run ∧ (s.pci.readQ = []) ∧ s.is (Hdr.GATED 0x18) = false) :=
  ⟨⟨true, up |>.upd (fun s => { s with pow := { s.pow with perst := false } }) |>.upd (fun s => s.wr HPT.LINK_UP (0)) |>.upd (fun s => s.wr (Hdr.GATED 0x18) 0), by decide +kernel⟩,
   ⟨up |>.upd (fun s => s.wr HPT.LINK_UP (1)) |>.upd (fun s => s.wr HPT.RETRAIN (0)), by decide +kernel⟩,
   ⟨true, up |>.upd (fun s => s.wr HPT.LINK_UP (1)) |>.upd (fun s => s.wr (Hdr.GATED 0x18) 0), by decide +kernel⟩,
   ⟨0, up |>.upd (fun s => s.wr (Hdr.GATED 0x18) 0), by decide +kernel⟩,
   ⟨none, up |>.upd (fun s => s.wr (Hdr.GATED 0x18) 0), by decide +kernel⟩,
   ⟨true, none, up |>.upd (fun s => s.wr (Hdr.GATED 0x18) 0), by decide +kernel⟩,
   ⟨[], up |>.upd (fun s => s.wr (Hdr.GATED 0x18) 0), by decide +kernel⟩,
   ⟨[], up |>.upd (fun s => s.wr (Hdr.GATED 0x18) 0), by decide +kernel⟩,
   ⟨[], up, by decide +kernel⟩,
   ⟨up |>.upd (fun s => { s with pow := { s.pow with perst := false } }) |>.upd (fun s => s.wr (Hdr.GATED 0x18) 0), by decide +kernel⟩,
   ⟨up |>.upd (fun s => { s with pow := { s.pow with phase := .run } }) |>.upd (fun s => s.wr HPT.LINK_UP (1)) |>.upd (fun s => s.wr (Hdr.GATED 0x18) 0), by decide +kernel⟩,
   ⟨up |>.upd (fun s => s.wr HPT.LINK_UP (1)), by decide +kernel⟩,
   ⟨up |>.upd (fun s => { s with pow := { s.pow with funcReset := true } }) |>.upd (fun s => s.wr (Hdr.GATED 0x00) 0), by decide +kernel⟩,
   ⟨up |>.upd (fun s => s.wr HPT.LINK_UP (1)) |>.upd (fun s => s.wr (Hdr.GATED 0x18) 0), by decide +kernel⟩,
   ⟨0, up |>.upd (fun s => s.wr HPT.LINK_UP (1)) |>.upd (fun s => { s with pow := { s.pow with phase := .run } }), by decide +kernel⟩,
   ⟨.read 0, 0, up |>.upd (fun s => s.wr HPT.LINK_UP (1)) |>.upd (fun s => { s with pow := { s.pow with phase := .boot } }), by decide +kernel⟩,
   ⟨0, up |>.upd (fun s => s.wr HPT.LINK_UP (1)) |>.upd (fun s => { s with pow := { s.pow with phase := .run } }) |>.upd (fun s => s.wr HPT.DSTATE (0)) |>.upd (fun s => s.wr (Hdr.GATED 0x18) 0), by decide +kernel⟩,
   ⟨0, 0, up |>.upd (fun s => s.wr HPT.LINK_UP (1)) |>.upd (fun s => { s with pow := { s.pow with phase := .run } }) |>.upd (fun s => { s with pci := { s.pci with readQ := [] } }) |>.upd (fun s => s.wr (Hdr.GATED 0x18) 0), by decide +kernel⟩⟩

/-- What `DmaCompletionsComplete` assumes can hold. -/
theorem witness_dmaCompletionsComplete :
    (∃ (ptag : Nat) (data : List Byte) (r : DmaRead) (c : Cmd) (s : State), (s.pci.reads = [r]) ∧ r.ptag = ptag ∧ (s.pci.readQ = []) ∧ s.cmd r.ctag = some c ∧ (c.dmaGot = []) ∧ data.length = r.len) ∧
    (∃ (ptag : Nat) (status : Nat) (data : List Byte) (s : State), (∀ r ∈ s.pci.reads, r.ptag ≠ ptag) ∧ s.is (Hdr.GATED 0x18) = false) ∧
    (∃ (ptag : Nat) (r : DmaRead) (c : Cmd) (s : State), (s.pci.reads = [r]) ∧ r.ptag = ptag ∧ (s.pci.readQ = []) ∧ s.cmd r.ctag = some c ∧ c.stage ≠ .ended ∧ (s.rd HPT.CPL_TIMEOUTS < 2 ^ 16 - 1) ∧ s.is (Hdr.GATED 0x18) = false ∧ s.is (Hdr.GATED 0x0F) = false) :=
  ⟨⟨5, [1, 2, 3, 4], { ptag := 5, ctag := 3, off := 0, addr := 0x5000, len := 4 }, (cmdE 3 (ent [(0, 0x10), (0x0C, 1)])), up |>.upd (fun s => { s with pci := { s.pci with reads := [({ ptag := 5, ctag := 3, off := 0, addr := 0x5000, len := 4 } : DmaRead)] } }) |>.upd (fun s => { s with pci := { s.pci with readQ := [] } }) |>.upd (fun s => { s with que := { s.que with cmds := [(cmdE 3 (ent [(0, 0x10), (0x0C, 1)]))] } }), by decide +kernel⟩,
   ⟨0, 0, [], up |>.upd (fun s => s.wr (Hdr.GATED 0x18) 0), by decide +kernel⟩,
   ⟨5, { ptag := 5, ctag := 3, off := 0, addr := 0x5000, len := 4 }, (cmdE 3 (ent [(0, 0x10), (0x0C, 1)])), up |>.upd (fun s => { s with pci := { s.pci with reads := [({ ptag := 5, ctag := 3, off := 0, addr := 0x5000, len := 4 } : DmaRead)] } }) |>.upd (fun s => { s with pci := { s.pci with readQ := [] } }) |>.upd (fun s => s.wr (Hdr.GATED 0x18) 0) |>.upd (fun s => s.wr (Hdr.GATED 0x0F) 0) |>.upd (fun s => { s with que := { s.que with cmds := [(cmdE 3 (ent [(0, 0x10), (0x0C, 1)]))] } }), by decide +kernel⟩⟩

/-- What `SerialCommandsComplete` assumes can hold. -/
theorem witness_serialCommandsComplete :
    (∃ (mode3 : Bool) (s : State), s.pow.phase = .run ∧ s.rd HPT.WAIT_MAX ≠ 0 ∧ s.regsClosed 0x01 = false) ∧
    (∃ (mode3 : Bool) (a : Nat) (s : State), s.pow.phase = .run ∧ s.rd HPT.WAIT_MAX ≠ 0 ∧ serTarget a = .nothing) ∧
    (∃ (mode3 : Bool) (s : State), s.pow.phase = .run ∧ s.rd HPT.WAIT_MAX ≠ 0 ∧ s.regsClosed 0x01 = false ∧ s.rd HPT.QUAD_EN = 1) ∧
    (∃ (mode3 : Bool) (data : List Byte) (s : State), s.pow.phase = .run ∧ s.regsClosed 0x01 = false ∧ (s.pci.serBuf = []) ∧ data.length = 4 ∧ s.rd HPT.RESULT = 0x5A) ∧
    (∃ (mode3 : Bool) (data : List Byte) (s : State), s.pow.phase = .run ∧ s.regsClosed 0x01 = false ∧ (s.pci.serBuf = []) ∧ data.length = 4 ∧ s.rd HPT.RESULT = 0x5A ∧ s.rd HPT.QUAD_EN = 1) ∧
    (∃ (mode3 : Bool) (data : List Byte) (s : State), s.pow.phase = .run ∧ s.rd HPT.QUAD_EN = 0 ∧ s.rd HPT.RESULT = 0x5A ∧ s.is (Hdr.GATED 0x18) = false) ∧
    (∃ (mode3 : Bool) (s : State), s.pow.phase = .run ∧ s.rd HPT.RESULT = 0x5A ∧ (s.pci.serBuf = []) ∧ s.rd ATN.PIN_EN = 0 ∧ s.rd ATN.WAKE_HOLD = 0) ∧
    (∃ (mode3 : Bool) (op : Nat) (s : State), s.pow.phase = .run ∧ (op ∉ [0x0B, 0x02, 0x05, 0x3B, 0x32]) ∧ s.rd HPT.RESULT = 0x5A ∧ s.is (Hdr.GATED 0x18) = false) ∧
    (∃ (mode3 : Bool) (quad : Bool) (s : State), s.pow.phase = .run ∧ (s.rd HPT.ABORTS < 2 ^ 16 - 1) ∧ s.is (Hdr.GATED 0x18) = false) ∧
    (∃ (mode3 : Bool) (a : Nat) (s : State), s.pow.phase = .run ∧ (s.rd HPT.ERR_BYTES < 2 ^ 16 - 1) ∧ s.is (Hdr.GATED 0x18) = false) ∧
    (∃ (value : Nat) (s : State), s.pow.phase = .run ∧ (s.pci.serBuf = [.reg 0x1048 value]) ∧ s.regsClosed 0x01 = false ∧ s.rd HPT.RESULT = 0xF0) :=
  ⟨⟨true, up |>.upd (fun s => { s with pow := { s.pow with phase := .run } }) |>.upd (fun s => s.wr HPT.WAIT_MAX 1), by decide +kernel⟩,
   ⟨true, 0x21000, up |>.upd (fun s => { s with pow := { s.pow with phase := .run } }) |>.upd (fun s => s.wr HPT.WAIT_MAX 1), by decide +kernel⟩,
   ⟨true, up |>.upd (fun s => { s with pow := { s.pow with phase := .run } }) |>.upd (fun s => s.wr HPT.WAIT_MAX 1) |>.upd (fun s => s.wr HPT.QUAD_EN (1)), by decide +kernel⟩,
   ⟨true, [1, 2, 3, 4], up |>.upd (fun s => { s with pow := { s.pow with phase := .run } }) |>.upd (fun s => { s with pci := { s.pci with serBuf := [] } }) |>.upd (fun s => s.wr HPT.RESULT (0x5A)) |>.upd (fun s => s.wr HPT.RESULT (0x5A)), by decide +kernel⟩,
   ⟨true, [1, 2, 3, 4], up |>.upd (fun s => { s with pow := { s.pow with phase := .run } }) |>.upd (fun s => { s with pci := { s.pci with serBuf := [] } }) |>.upd (fun s => s.wr HPT.RESULT (0x5A)) |>.upd (fun s => s.wr HPT.QUAD_EN (1)) |>.upd (fun s => s.wr HPT.RESULT (0x5A)), by decide +kernel⟩,
   ⟨true, [], up |>.upd (fun s => { s with pow := { s.pow with phase := .run } }) |>.upd (fun s => s.wr HPT.QUAD_EN (0)) |>.upd (fun s => s.wr HPT.RESULT (0x5A)) |>.upd (fun s => s.wr (Hdr.GATED 0x18) 0), by decide +kernel⟩,
   ⟨true, up |>.upd (fun s => { s with pow := { s.pow with phase := .run } }) |>.upd (fun s => s.wr HPT.RESULT (0x5A)) |>.upd (fun s => { s with pci := { s.pci with serBuf := [] } }) |>.upd (fun s => s.wr ATN.PIN_EN (0)) |>.upd (fun s => s.wr ATN.WAKE_HOLD (0)), by decide +kernel⟩,
   ⟨true, 0, up |>.upd (fun s => { s with pow := { s.pow with phase := .run } }) |>.upd (fun s => s.wr HPT.RESULT (0x5A)) |>.upd (fun s => s.wr (Hdr.GATED 0x18) 0), by decide +kernel⟩,
   ⟨true, true, up |>.upd (fun s => { s with pow := { s.pow with phase := .run } }) |>.upd (fun s => s.wr (Hdr.GATED 0x18) 0), by decide +kernel⟩,
   ⟨true, 0, up |>.upd (fun s => { s with pow := { s.pow with phase := .run } }) |>.upd (fun s => s.wr (Hdr.GATED 0x18) 0), by decide +kernel⟩,
   ⟨0, up |>.upd (fun s => { s with pow := { s.pow with phase := .run } }) |>.upd (fun s => { s with pci := { s.pci with serBuf := [.reg 0x1048 0] } }) |>.upd (fun s => s.wr HPT.RESULT (0xF0)), by decide +kernel⟩⟩

/-- What `QueuePairCommandsComplete` assumes can hold. -/
theorem witness_queuePairCommandsComplete :
    (∃ (s : State), PageUp s 0x0F ∧ s.pair (s.rd QUE.SEL_SLICE) (s.rd QUE.SEL_QP) = none ∧ s.bound (s.rd QUE.SEL_SLICE) = true ∧ s.is QUE.CFG_LOC = false ∧ (s.rd QUE.CFG_DEPTH ≤ 2 ^ s.rd (SLC.DEPTH_LOG2.at (s.rd QUE.SEL_SLICE)))) ∧
    (∃ (p : QPair) (s : State), PageUp s 0x0F ∧ s.pair (s.rd QUE.SEL_SLICE) (s.rd QUE.SEL_QP) = some p) ∧
    (∃ (p : QPair) (s : State), PageUp s 0x0F ∧ s.pair (s.rd QUE.SEL_SLICE) (s.rd QUE.SEL_QP) = some p ∧ s.rd QUE.QP_DELETE = 0) ∧
    (∃ (slice : Nat) (qp : Nat) (p : QPair) (s : State), s.pair slice qp = some p ∧ p.state = .draining ∧ p.byGo = true ∧ s.pairIdle slice qp = true ∧ QUE.QP_DELETE.key ∉ s.goWait ∧ s.is (Hdr.GATED 0x0F) = false) ∧
    (∃ (p : QPair) (c : Cmd) (s : State), PageUp s 0x0F ∧ s.pair (s.rd QUE.SEL_SLICE) (s.rd QUE.SEL_QP) = some p ∧ s.rd QUE.QP_ABORT = 0 ∧ p.state = .active ∧ (s.que.cmds = [c]) ∧ c.slice = p.slice ∧ c.qp = p.qp ∧ c.stage ≠ .ended ∧ s.playsTag c.tag = false) ∧
    (∃ (slice : Nat) (qp : Nat) (p : QPair) (s : State), s.pair slice qp = some p ∧ p.state = .aborting ∧ p.byGo = true ∧ p.deleteAfter = false ∧ s.pairIdle slice qp = true ∧ (s.sl slice).aborting = false ∧ QUE.QP_ABORT.key ∉ s.goWait ∧ s.is (Hdr.GATED 0x0F) = false) ∧
    (∃ (slice : Nat) (s : State), slice < 64 ∧ s.rd (QUE.BACKLOG_THR.at slice) ≠ 0 ∧ s.rd (QUE.BACKLOG_THR.at slice) < s.backlog slice ∧ s.mapBit QUE.OVL_MAP_LO QUE.OVL_MAP_HI slice = false ∧ s.is (Hdr.GATED 0x0F) = false) ∧
    (∃ (tag : Nat) (c : Cmd) (s : State), s.cmd tag = some c ∧ c.stage = .fetched ∧ s.chained c = true ∧ s.is (Hdr.GATED 0x0F) = false) ∧
    (∃ (tag : Nat) (c : Cmd) (s : State), s.cmd tag = some c ∧ c.stage = .fetched ∧ s.orderHeld c = true ∧ s.is (Hdr.GATED 0x0F) = false) ∧
    (∃ (tag : Nat) (c : Cmd) (s : State), s.cmd tag = some c ∧ c.stage = .fetched ∧ c.fenced = true ∧ s.fenceHeld c = true ∧ s.is (Hdr.GATED 0x0F) = false) ∧
    (∃ (s : State), PageUp s 0x0F) ∧
    (∃ (tag : Nat) (c : Cmd) (s : State), s.cmd tag = some c ∧ c.stage = .dispatched ∧ s.is (Hdr.GATED 0x11) = false) ∧
    (∃ (engine : Nat) (s : State), engine < 4 ∧ s.rd (engThr engine) < (s.eng engine).reqs.length ∧ s.is (Hdr.GATED 0x0F) = false) ∧
    (∃ (b : Nat) (s : State), s.que.ahead = some b ∧ s.rd LDR.STATE = 6 ∧ (s.ecd.units = []) ∧ s.drv.seek = none ∧ (s.drv.seeks = []) ∧ s.rd TIME.STATE = 0 ∧ s.drv.ejecting = false ∧ 1 ≤ s.rd QUE.READAHEAD ∧ b < s.drv.toc.leadOut ∧ s.cachedAt 1 b = none ∧ s.isDvd = false ∧ (b < 2 ^ 24) ∧ s.rd (Hdr.HOOK 0x0B) = 0) :=
  ⟨⟨up |>.upd (fun s => s.wr QUE.CFG_LOC 0), by decide +kernel⟩,
   ⟨{ slice := 0, qp := 0, depth := 16, loc := false, atomic := false, sqBase := 0x1000, cqBase := 0x2000 }, up |>.upd (fun s => { s with que := { s.que with pairs := [({ slice := 0, qp := 0, depth := 16, loc := false, atomic := false, sqBase := 0x1000, cqBase := 0x2000 } : QPair)] } }), by decide +kernel⟩,
   ⟨{ slice := 0, qp := 0, depth := 16, loc := false, atomic := false, sqBase := 0x1000, cqBase := 0x2000 }, up |>.upd (fun s => s.wr QUE.QP_DELETE (0)) |>.upd (fun s => { s with que := { s.que with pairs := [({ slice := 0, qp := 0, depth := 16, loc := false, atomic := false, sqBase := 0x1000, cqBase := 0x2000 } : QPair)] } }) |>.upd (fun s => { s with que := { s.que with accepted := [{ slice := 0, qp := 0, index := 0, place := 0, at_ := 0 }] } }), by decide +kernel⟩,
   ⟨0, 0, { slice := 0, qp := 0, depth := 16, loc := false, atomic := false, sqBase := 0x1000, cqBase := 0x2000, state := .draining, byGo := true }, up |>.upd (fun s => s.wr (Hdr.GATED 0x0F) 0) |>.upd (fun s => { s with que := { s.que with pairs := [({ slice := 0, qp := 0, depth := 16, loc := false, atomic := false, sqBase := 0x1000, cqBase := 0x2000, state := .draining, byGo := true } : QPair)] } }) |>.upd (fun s => s.wr QUE.QP_DELETE (1)), by decide +kernel⟩,
   ⟨{ slice := 0, qp := 0, depth := 16, loc := false, atomic := false, sqBase := 0x1000, cqBase := 0x2000 }, cmdE 3 (ent []), up |>.upd (fun s => s.wr QUE.QP_ABORT (0)) |>.upd (fun s => { s with que := { s.que with cmds := [(cmdE 3 (ent []) : Cmd)] } }) |>.upd (fun s => { s with que := { s.que with pairs := [({ slice := 0, qp := 0, depth := 16, loc := false, atomic := false, sqBase := 0x1000, cqBase := 0x2000 } : QPair)] } }), by decide +kernel⟩,
   ⟨0, 0, { slice := 0, qp := 0, depth := 16, loc := false, atomic := false, sqBase := 0x1000, cqBase := 0x2000, state := .aborting, byGo := true }, up |>.upd (fun s => s.wr (Hdr.GATED 0x0F) 0) |>.upd (fun s => { s with que := { s.que with pairs := [({ slice := 0, qp := 0, depth := 16, loc := false, atomic := false, sqBase := 0x1000, cqBase := 0x2000, state := .aborting, byGo := true } : QPair)] } }) |>.upd (fun s => s.wr QUE.QP_ABORT (1)), by decide +kernel⟩,
   ⟨3, up |>.upd (fun s => s.wr (QUE.BACKLOG_THR.at 3) 1) |>.upd (fun s => s.wr (Hdr.GATED 0x0F) 0) |>.upd (fun s => s.wr (QUE.BACKLOG_THR.at 3) (1)) |>.upd (fun s => { s with que := { s.que with accepted := [{ slice := 3, qp := 0, index := 0, place := 0, at_ := 0 }, { slice := 3, qp := 0, index := 1, place := 1, at_ := 0 }] } }), by decide +kernel⟩,
   ⟨5, { tag := 5, slice := 0, qp := 0, place := 2, at_ := 0, loc := false, atomic := false, entry := ent [(0, 0x12), (0x0C, 1), (0x10, 100), (0x18, 1)], sqHead := 0, stage := .fetched }, up |>.upd (fun s => s.wr (Hdr.GATED 0x0F) 0) |>.upd (fun s => { s with que := { s.que with cmds := [{ tag := 4, slice := 0, qp := 0, place := 1, at_ := 0, loc := false, atomic := false, entry := ent [(0, 0x11), (0x0C, 1), (0x10, 100), (0x18, 1)], sqHead := 0, stage := .fetched }, { tag := 5, slice := 0, qp := 0, place := 2, at_ := 0, loc := false, atomic := false, entry := ent [(0, 0x12), (0x0C, 1), (0x10, 100), (0x18, 1)], sqHead := 0, stage := .fetched }] } }), by decide +kernel⟩,
   ⟨5, { tag := 5, slice := 0, qp := 0, place := 2, at_ := 0, loc := false, atomic := false, entry := ent [(0, 0x12), (0x0C, 1), (0x10, 100), (0x18, 1)], sqHead := 0, stage := .fetched }, up |>.upd (fun s => s.wr (Hdr.GATED 0x0F) 0) |>.upd (fun s => { s with que := { s.que with cmds := [{ tag := 5, slice := 0, qp := 0, place := 2, at_ := 0, loc := false, atomic := false, entry := ent [(0, 0x12), (0x0C, 1), (0x10, 100), (0x18, 1)], sqHead := 0, stage := .fetched }] } }) |>.upd (fun s => { s with que := { s.que with accepted := [{ slice := 0, qp := 0, index := 0, place := 1, at_ := 0 }] } }), by decide +kernel⟩,
   ⟨5, { tag := 5, slice := 0, qp := 0, place := 2, at_ := 0, loc := false, atomic := false, entry := ent [(0, 0x10), (1, 1)], sqHead := 0, stage := .fetched }, up |>.upd (fun s => s.wr (Hdr.GATED 0x0F) 0) |>.upd (fun s => { s with que := { s.que with cmds := [{ tag := 4, slice := 0, qp := 0, place := 1, at_ := 0, loc := false, atomic := false, entry := ent [(0, 0x11), (0x0C, 0x10), (0x10, 100), (0x18, 1)], sqHead := 0, stage := .fetched }, { tag := 5, slice := 0, qp := 0, place := 2, at_ := 0, loc := false, atomic := false, entry := ent [(0, 0x10), (1, 1)], sqHead := 0, stage := .fetched }] } }), by decide +kernel⟩,
   ⟨up, by decide +kernel⟩,
   ⟨3, { tag := 3, slice := 0, qp := 0, place := 0, at_ := 0, loc := false, atomic := false, entry := ent [(0, 16)], sqHead := 0, stage := .dispatched }, up |>.upd (fun s => s.wr (Hdr.GATED 0x11) 0) |>.upd (fun s => { s with que := { s.que with cmds := [{ tag := 3, slice := 0, qp := 0, place := 0, at_ := 0, loc := false, atomic := false, entry := ent [(0, 16)], sqHead := 0, stage := .dispatched }] } }), by decide +kernel⟩,
   ⟨2, up |>.upd (fun s => s.wr (Hdr.GATED 0x0F) 0) |>.upd (fun s => s.wr QUE.THR_RYL (0)) |>.upd (fun s => { s with que := { s.que with ryl := { s.que.ryl with reqs := [{ slice := 0, tag := 3, credits := 1, units := 1, bytes := 512, since := none }] } } }), by decide +kernel⟩,
   ⟨77, up |>.upd (fun s => { s with que := { s.que with ahead := some 77 } }) |>.upd (fun s => s.wr LDR.STATE (6)) |>.upd (fun s => { s with ecd := { s.ecd with units := [] } }) |>.upd (fun s => { s with drv := { s.drv with seek := none } }) |>.upd (fun s => { s with drv := { s.drv with seeks := [] } }) |>.upd (fun s => s.wr TIME.STATE (0)) |>.upd (fun s => { s with drv := { s.drv with ejecting := false } }) |>.upd (fun s => s.wr QUE.READAHEAD 1) |>.upd (fun s => s.wr (Hdr.HOOK 0x0B) (0)) |>.upd (fun s => { s with que := { s.que with ahead := some 77 } }) |>.upd (fun s => s.wr LDR.STATE (6)) |>.upd (fun s => s.wr QUE.READAHEAD (4)) |>.upd (fun s => { s with drv := { s.drv with toc := { leadOut := 100 } } }), by decide +kernel⟩⟩

/-- What `DoorbellsComplete` assumes can hold. -/
theorem witness_doorbellsComplete :
    (∃ (slice : Nat) (qp : Nat) (tail : Nat) (rid : Nat) (p : QPair) (s : State), s.pow.phase = .run ∧ s.rd TIME.STATE ≤ 1 ∧ s.pow.entry = none ∧ s.pow.exit = none ∧ PageUp s 0x0F ∧ s.pair slice qp = some p ∧ p.state = .active ∧ (s.sl slice).resetting = false ∧ tail < p.depth ∧ (s.rd QUE.ACCEPTED + p.depth < 2 ^ 32 - 1)) ∧
    (∃ (slice : Nat) (qp : Nat) (tail : Nat) (rid : Nat) (p : QPair) (s : State), s.pow.phase = .run ∧ s.rd TIME.STATE ≤ 1 ∧ s.pow.entry = none ∧ s.pow.exit = none ∧ PageUp s 0x0F ∧ s.pair slice qp = some p ∧ p.state = .active ∧ (s.sl slice).resetting = false ∧ 0 < p.depth ∧ p.depth ≤ tail) ∧
    (∃ (slice : Nat) (qp : Nat) (tail : Nat) (rid : Nat) (s : State), s.pow.phase = .run ∧ s.rd HPT.DSTATE = 0 ∧ PageUp s 0x10 ∧ slice < 64 ∧ s.bound slice = false ∧ (s.rd SLC.SPOOFS < 2 ^ 32 - 1) ∧ (s.rd (SLC.SPOOF_CNT.at slice) < 2 ^ 16 - 1)) ∧
    (∃ (slice : Nat) (qp : Nat) (head : Nat) (rid : Nat) (p : QPair) (s : State), s.pow.phase = .run ∧ PageUp s 0x0F ∧ s.pair slice qp = some p ∧ (s.sl slice).resetting = false ∧ head < p.depth ∧ ((head + p.depth - p.cqHead) % p.depth ≤ (p.cqTail + p.depth - p.cqHead) % p.depth) ∧ (s.que.cqWaiting = [])) :=
  ⟨⟨0, 0, 3, 0, { slice := 0, qp := 0, depth := 16, loc := false, atomic := false, sqBase := 0x1000, cqBase := 0x2000, sqTail := 1 }, up |>.upd (fun s => { s with pow := { s.pow with phase := .run } }) |>.upd (fun s => { s with pow := { s.pow with entry := none } }) |>.upd (fun s => { s with pow := { s.pow with exit := none } }) |>.upd (fun s => { s with que := { s.que with pairs := [({ slice := 0, qp := 0, depth := 16, loc := false, atomic := false, sqBase := 0x1000, cqBase := 0x2000, sqTail := 1 } : QPair)] } }), by decide +kernel⟩,
   ⟨0, 0, 20, 0, { slice := 0, qp := 0, depth := 16, loc := false, atomic := false, sqBase := 0x1000, cqBase := 0x2000, sqTail := 1 }, up |>.upd (fun s => { s with pow := { s.pow with phase := .run } }) |>.upd (fun s => { s with pow := { s.pow with entry := none } }) |>.upd (fun s => { s with pow := { s.pow with exit := none } }) |>.upd (fun s => { s with que := { s.que with pairs := [({ slice := 0, qp := 0, depth := 16, loc := false, atomic := false, sqBase := 0x1000, cqBase := 0x2000, sqTail := 1 } : QPair)] } }), by decide +kernel⟩,
   ⟨9, 0, 0, 0, up |>.upd (fun s => { s with pow := { s.pow with phase := .run } }) |>.upd (fun s => s.wr HPT.DSTATE (0)), by decide +kernel⟩,
   ⟨0, 0, 2, 0, { slice := 0, qp := 0, depth := 16, loc := false, atomic := false, sqBase := 0x1000, cqBase := 0x2000, cqTail := 5 }, up |>.upd (fun s => { s with pow := { s.pow with phase := .run } }) |>.upd (fun s => { s with que := { s.que with cqWaiting := [] } }) |>.upd (fun s => { s with que := { s.que with pairs := [({ slice := 0, qp := 0, depth := 16, loc := false, atomic := false, sqBase := 0x1000, cqBase := 0x2000, cqTail := 5 } : QPair)] } }), by decide +kernel⟩⟩

/-- What `EntriesFetchedDispatchedCompleted` assumes can hold. -/
theorem witness_entriesFetchedDispatchedCompleted :
    (∃ (entry : List Byte) (a : Accepted) (p : QPair) (s : State), s.fetchOk = true ∧ s.rd (Hdr.HOOK 0x0F) = 0 ∧ (s.que.accepted = [a]) ∧ s.fetchHold a = 0 ∧ a.abort = false ∧ a.qp ≠ 8 ∧ s.pair a.slice a.qp = some p ∧ p.state = .active ∧ p.loc = false ∧ s.is HPT.PASID_EN = false) ∧
    (∃ (entry : List Byte) (a : Accepted) (p : QPair) (s : State), s.fetchOk = true ∧ s.rd (Hdr.HOOK 0x0F) = 0 ∧ (s.que.accepted = [a]) ∧ (s.que.cmds = []) ∧ s.fetchHold a = 0 ∧ a.abort = false ∧ a.qp ≠ 8 ∧ s.pair a.slice a.qp = some p ∧ p.state = .active ∧ p.loc = false ∧ (s.rd QUE.FETCH_ERRS < 2 ^ 16 - 1)) ∧
    (∃ (entry : List Byte) (a : Accepted) (p : QPair) (s : State), s.fetchOk = true ∧ s.rd (Hdr.HOOK 0x0F) = 0 ∧ (s.que.accepted = [a]) ∧ (s.que.cmds = []) ∧ s.fetchHold a = 0 ∧ a.abort = false ∧ a.qp ≠ 8 ∧ s.pair a.slice a.qp = some p ∧ p.state = .active ∧ p.loc = false ∧ s.is HPT.PASID_EN = true ∧ a.slice ≠ 0 ∧ a.slice < 64 ∧ (leAt entry 8 4 % 2 ^ 20 ≠ s.rd (SLC.PASID.at a.slice)) ∧ (s.rd SLC.SPOOFS < 2 ^ 32 - 1) ∧ (s.rd (SLC.SPOOF_CNT.at a.slice) < 2 ^ 16 - 1) ∧ s.is (Hdr.GATED 0x10) = false) ∧
    (∃ (tag : Nat) (c : Cmd) (s : State), s.cmd tag = some c ∧ c.stage = .fetched ∧ s.pow.pfHeld = false ∧ PageUp s 0x11 ∧ s.is (Hdr.QUIESCE 0x11) = false ∧ s.chained c = false ∧ s.orderHeld c = false ∧ s.fenceHeld c = false ∧ s.withheld 0x11 = false ∧ s.rd (Hdr.HOOK 0x11) = 0 ∧ c.listed = true ∧ c.isMmc = false ∧ s.nsCheck c = stGood ∧ (slice0Ops.contains c.opcode = true → c.slice = 0) ∧ (leAt c.entry 2 1 % 8 = c.levelMax) ∧ (s.rd CMD.NATIVE_CMDS < 2 ^ 32 - 1)) ∧
    (∃ (tag : Nat) (c : Cmd) (p : QPair) (s : State), s.cmd tag = some c ∧ c.stage = .ended ∧ s.chainedOut c = false ∧ PageUp s 0x0F ∧ (∀ r ∈ s.que.dma.reqs, r.tag ≠ tag) ∧ c.qp ≠ 8 ∧ c.isMmc = false ∧ s.pair c.slice c.qp = some p ∧ p.lostCq = false ∧ p.loc = false ∧ s.dmaOk = true ∧ p.cqFull = false ∧ s.rd (Hdr.HOOK 0x11) = 0 ∧ s.is QUE.DISC_CACHE_EN = true ∧ s.rd TRC.RUNNING = 0 ∧ (p.cqBase % 16 = 0) ∧ 16 ≤ s.pci.mps ∧ (s.rd QUE.COMPLETED < 2 ^ 32 - 1)) :=
  ⟨⟨ent [(0, 0x10)], { slice := 0, qp := 0, index := 15, place := 4, at_ := 0 }, { slice := 0, qp := 0, depth := 16, loc := false, atomic := false, sqBase := 0x1000, cqBase := 0x2000 }, up |>.upd (fun s => s.wr (Hdr.HOOK 0x0F) (0)) |>.upd (fun s => { s with que := { s.que with accepted := [({ slice := 0, qp := 0, index := 15, place := 4, at_ := 0 } : Accepted)] } }) |>.upd (fun s => s.wr HPT.PASID_EN 0) |>.upd (fun s => { s with que := { s.que with pairs := [({ slice := 0, qp := 0, depth := 16, loc := false, atomic := false, sqBase := 0x1000, cqBase := 0x2000 } : QPair)] } }) |>.upd (fun s => { s with que := { s.que with accepted := [({ slice := 0, qp := 0, index := 15, place := 4, at_ := 0 } : Accepted)] } }), by decide +kernel⟩,
   ⟨ent [(0, 0x10)], { slice := 1, qp := 1, index := 3, place := 4, at_ := 0 }, { slice := 1, qp := 1, depth := 16, loc := false, atomic := false, sqBase := 0x1000, cqBase := 0x2000 }, up |>.upd (fun s => s.wr (Hdr.HOOK 0x0F) (0)) |>.upd (fun s => { s with que := { s.que with accepted := [({ slice := 1, qp := 1, index := 3, place := 4, at_ := 0 } : Accepted)] } }) |>.upd (fun s => { s with que := { s.que with cmds := [] } }) |>.upd (fun s => { s with que := { s.que with pairs := [({ slice := 1, qp := 1, depth := 16, loc := false, atomic := false, sqBase := 0x1000, cqBase := 0x2000 } : QPair)] } }) |>.upd (fun s => { s with que := { s.que with accepted := [({ slice := 1, qp := 1, index := 3, place := 4, at_ := 0 } : Accepted)] } }) |>.upd (fun s => s.wr (SLC.VALID.at 1) (1)) |>.upd (fun s => { s with que := { s.que with slices := [{ slice := 1, cmdLevel := 5000, byteLevel := 0 }] } }), by decide +kernel⟩,
   ⟨ent [(0, 0x10), (8, 7)], { slice := 1, qp := 1, index := 3, place := 4, at_ := 0 }, { slice := 1, qp := 1, depth := 16, loc := false, atomic := false, sqBase := 0x1000, cqBase := 0x2000 }, up |>.upd (fun s => s.wr (Hdr.HOOK 0x0F) (0)) |>.upd (fun s => { s with que := { s.que with accepted := [({ slice := 1, qp := 1, index := 3, place := 4, at_ := 0 } : Accepted)] } }) |>.upd (fun s => { s with que := { s.que with cmds := [] } }) |>.upd (fun s => s.wr HPT.PASID_EN 1) |>.upd (fun s => s.wr (Hdr.GATED 0x10) 0) |>.upd (fun s => { s with que := { s.que with pairs := [({ slice := 1, qp := 1, depth := 16, loc := false, atomic := false, sqBase := 0x1000, cqBase := 0x2000 } : QPair)] } }) |>.upd (fun s => { s with que := { s.que with accepted := [({ slice := 1, qp := 1, index := 3, place := 4, at_ := 0 } : Accepted)] } }) |>.upd (fun s => s.wr (SLC.VALID.at 1) (1)) |>.upd (fun s => { s with que := { s.que with slices := [{ slice := 1, cmdLevel := 5000, byteLevel := 0 }] } }), by decide +kernel⟩,
   ⟨3, { tag := 3, slice := 0, qp := 0, place := 0, at_ := 0, loc := false, atomic := false, entry := ent [(0, 2)], sqHead := 0, stage := .fetched }, up |>.upd (fun s => { s with pow := { s.pow with pfHeld := false } }) |>.upd (fun s => s.wr (Hdr.QUIESCE 0x11) 0) |>.upd (fun s => s.wr (Hdr.HOOK 0x11) (0)) |>.upd (fun s => { s with que := { s.que with cmds := [{ tag := 3, slice := 0, qp := 0, place := 0, at_ := 0, loc := false, atomic := false, entry := ent [(0, 2)], sqHead := 0, stage := .fetched }] } }), by decide +kernel⟩,
   ⟨3, { tag := 3, slice := 0, qp := 0, place := 0, at_ := 0, loc := false, atomic := false, entry := ent [(0, 2)], sqHead := 0, stage := .ended, status := 0 }, { slice := 0, qp := 0, depth := 16, loc := false, atomic := false, sqBase := 0x1000, cqBase := 0x2000, cqTail := 15, cqHead := 5 }, up |>.upd (fun s => s.wr (Hdr.HOOK 0x11) (0)) |>.upd (fun s => s.wr QUE.DISC_CACHE_EN 1) |>.upd (fun s => s.wr TRC.RUNNING (0)) |>.upd (fun s => { s with que := { s.que with cmds := [{ tag := 3, slice := 0, qp := 0, place := 0, at_ := 0, loc := false, atomic := false, entry := ent [(0, 2)], sqHead := 0, stage := .ended, status := 0 }] } }) |>.upd (fun s => { s with que := { s.que with pairs := [({ slice := 0, qp := 0, depth := 16, loc := false, atomic := false, sqBase := 0x1000, cqBase := 0x2000, cqTail := 15, cqHead := 5 } : QPair)] } }), by decide +kernel⟩⟩

/-- What `SliceCommandsComplete` assumes can hold. -/
theorem witness_sliceCommandsComplete :
    (∃ (i : Nat) (v : Nat) (s : State), i < 64 ∧ PageUp s 0x10 ∧ s.is (Hdr.QUIESCE 0x10) = false ∧ s.is (Hdr.SHD_HOLD 0x10) = false ∧ (s.shadow = [((SLC.TAG_CAP.at i).key, v)])) ∧
    (∃ (i : Nat) (s : State), 1 ≤ i ∧ i < 64 ∧ PageUp s 0x10 ∧ s.is (Hdr.QUIESCE 0x10) = false ∧ s.is (Hdr.SHD_HOLD 0x10) = false ∧ (s.shadow = [((SLC.VALID.at i).key, 1)]) ∧ s.rd (SLC.VALID.at i) = 0 ∧ s.is (Hdr.GATED 0x11) = false) ∧
    (∃ (s : State), PageUp s 0x10 ∧ s.rd SLC.SL_RESET = 0 ∧ (s.que.cmds = [])) ∧
    (∃ (i : Nat) (s : State), i < 64 ∧ (s.sl i).resetting = true ∧ (s.sl i).resetGo = true ∧ (s.sl i).aborting = false ∧ (s.sl i).rebind = 0 ∧ (∀ p ∈ s.que.pairs, p.slice ≠ i) ∧ s.mapBit CMD.PREVENT_MAP_LO CMD.PREVENT_MAP_HI i = false ∧ SLC.SL_RESET.key ∉ s.goWait ∧ s.is (Hdr.GATED 0x10) = false ∧ s.is (Hdr.GATED 0x11) = false) ∧
    (∃ (q : QPair) (s : State), PageUp s 0x10 ∧ s.rd SLC.SL_ABORT = 0 ∧ (s.que.cmds = []) ∧ q ∈ s.que.pairs ∧ q.slice = s.rd SLC.CMD_SLICE) ∧
    (∃ (s : State), PageUp s 0x10) ∧
    (∃ (engine : Nat) (r : EngReq) (s : State), engine < 3 ∧ (s.eng engine).cur = none ∧ ((s.eng engine).newList = [r.slice]) ∧ ((s.eng engine).oldList = []) ∧ ((s.eng engine).reqs = [r])) ∧
    (∃ (engine : Nat) (tag : Nat) (r : EngReq) (s : State), engine < 4 ∧ r ∈ (s.eng engine).reqs ∧ r.tag = tag ∧ r.since.isSome = true ∧ s.is (Hdr.GATED 0x10) = false) :=
  ⟨⟨0, 0, up |>.upd (fun s => s.wr (Hdr.QUIESCE 0x10) 0) |>.upd (fun s => s.wr (Hdr.SHD_HOLD 0x10) 0) |>.upd (fun s => { s with shadow := [((SLC.TAG_CAP.at 0).key, 0)] }), by decide +kernel⟩,
   ⟨3, up |>.upd (fun s => s.wr (Hdr.QUIESCE 0x10) 0) |>.upd (fun s => s.wr (Hdr.SHD_HOLD 0x10) 0) |>.upd (fun s => { s with shadow := [((SLC.VALID.at 3).key, 1)] }) |>.upd (fun s => s.wr (SLC.VALID.at 3) (0)) |>.upd (fun s => s.wr (Hdr.GATED 0x11) 0), by decide +kernel⟩,
   ⟨up |>.upd (fun s => s.wr SLC.SL_RESET (0)) |>.upd (fun s => { s with que := { s.que with cmds := [] } }), by decide +kernel⟩,
   ⟨3, up |>.upd (fun s => s.wr (Hdr.GATED 0x10) 0) |>.upd (fun s => s.wr (Hdr.GATED 0x11) 0) |>.upd (fun s => { s with que := { s.que with slices := [{ slice := 3, cmdLevel := 5000, byteLevel := 0, resetting := true, resetGo := true }] } }) |>.upd (fun s => s.wr SLC.SL_RESET (1)) |>.upd (fun s => s.wr SLC.CMD_SLICE (3)), by decide +kernel⟩,
   ⟨{ slice := 0, qp := 0, depth := 16, loc := false, atomic := false, sqBase := 0x1000, cqBase := 0x2000 }, up |>.upd (fun s => s.wr SLC.SL_ABORT (0)) |>.upd (fun s => { s with que := { s.que with cmds := [] } }) |>.upd (fun s => { s with que := { s.que with pairs := [({ slice := 0, qp := 0, depth := 16, loc := false, atomic := false, sqBase := 0x1000, cqBase := 0x2000 } : QPair)] } }), by decide +kernel⟩,
   ⟨up, by decide +kernel⟩,
   ⟨1, { slice := 2, tag := 3, credits := 1, units := 3, bytes := 512, since := some 0 }, up |>.upd (fun s => { s with que := { s.que with nand := { s.que.nand with cur := none, reqs := [({ slice := 2, tag := 3, credits := 1, units := 3, bytes := 512, since := some 0 } : EngReq)], newList := [2], oldList := [] } } }), by decide +kernel⟩,
   ⟨1, 3, { slice := 2, tag := 3, credits := 1, units := 3, bytes := 512, since := some 0 }, up |>.upd (fun s => s.wr (Hdr.GATED 0x10) 0) |>.upd (fun s => { s with que := { s.que with nand := { s.que.nand with cur := none, reqs := [({ slice := 2, tag := 3, credits := 1, units := 3, bytes := 512, since := some 0 } : EngReq)], newList := [2], oldList := [] } } }), by decide +kernel⟩⟩

/-- What `MmcReportsComplete` assumes can hold. -/
theorem witness_mmcReportsComplete :
    (∃ (tag : Nat) (c : Cmd) (s : State), s.atHostTurn tag c ∧ mmcIs 0x00 c = true ∧ s.medium = .ok ∧ s.rd SPN.STATE = 3) ∧
    (∃ (tag : Nat) (st : Nat) (asc : Option (Nat × Nat)) (c : Cmd) (s : State), s.atHostTurn tag c ∧ mmcIs 0x00 c = true ∧ s.medium = .bad st asc) ∧
    (∃ (tag : Nat) (c : Cmd) (p : QPair) (l : List Byte) (s : State), s.atHostTurn tag c ∧ mmcIs 0x03 c = true ∧ bit (beAt c.cdb 1 1) 0 = false ∧ s.earlierOpen c = false ∧ s.pair c.slice c.qp = some p ∧ p.sense = some l ∧ l.length = 18 ∧ 18 ≤ beAt c.cdb 4 1 ∧ beAt c.cdb 4 1 ≤ c.dlen) ∧
    (∃ (tag : Nat) (c : Cmd) (s : State), s.atHostTurn tag c ∧ mmcIs 0x12 c = true ∧ bit (beAt c.cdb 1 1) 0 = false ∧ beAt c.cdb 2 1 = 0 ∧ 36 ≤ beAt c.cdb 3 2 ∧ beAt c.cdb 3 2 ≤ c.dlen) ∧
    (∃ (tag : Nat) (c : Cmd) (s : State), s.atTurn tag = some c ∧ c.loc = true ∧ c.qp ≠ 8 ∧ isRemote (s.localNs c.nsid) = false ∧ mmcIs 0x12 c = true ∧ bit (beAt c.cdb 1 1) 0 = true ∧ beAt c.cdb 2 1 = 0 ∧ 7 ≤ beAt c.cdb 3 2 ∧ beAt c.cdb 3 2 ≤ c.dlen ∧ s.rd (SLC.BYTE_RATE.at c.slice) = 0 ∧ s.pageDown 0x0E = false ∧ s.rd (Hdr.HOOK 0x0E) = 0 ∧ s.mem.parityFaults = 0 ∧ (c.dptr + 7 ≤ cacheBytes) ∧ (∀ w ∈ wordsOf c.dptr 7, s.synd w = 0)) ∧
    (∃ (tag : Nat) (c : Cmd) (s : State), s.atHostTurn tag c ∧ mmcIs 0x46 c = true ∧ (beAt c.cdb 1 1 % 4 = 2) ∧ beAt c.cdb 2 2 = 0x0001 ∧ 16 ≤ beAt c.cdb 7 2 ∧ beAt c.cdb 7 2 ≤ c.dlen) ∧
    (∃ (tag : Nat) (code : Nat) (c : Cmd) (s : State), s.atHostTurn tag c ∧ mmcIs 0x4A c = true ∧ bit (beAt c.cdb 1 1) 0 = true ∧ beAt c.cdb 4 1 = 0x10 ∧ ((s.sl c.slice).events = [(4, code)]) ∧ 8 ≤ beAt c.cdb 7 2 ∧ beAt c.cdb 7 2 ≤ c.dlen) ∧
    (∃ (tag : Nat) (c : Cmd) (s : State), s.atHostTurn tag c ∧ mmcIs 0xBD c = true ∧ 8 ≤ beAt c.cdb 8 2 ∧ beAt c.cdb 8 2 ≤ c.dlen) ∧
    (∃ (tag : Nat) (c : Cmd) (s : State), s.atHostTurn tag c ∧ mmcIs 0x43 c = true ∧ s.medium = .ok ∧ s.isDvd = true ∧ bit (beAt c.cdb 1 1) 1 = false ∧ (beAt c.cdb 2 1 % 16 = 1) ∧ 12 ≤ beAt c.cdb 7 2 ∧ beAt c.cdb 7 2 ≤ c.dlen) ∧
    (∃ (tag : Nat) (c : Cmd) (s : State), s.atHostTurn tag c ∧ mmcIs 0x51 c = true ∧ s.medium = .ok ∧ s.isDvd = true ∧ s.rewritable = false ∧ (beAt c.cdb 1 1 % 8 = 0) ∧ 34 ≤ beAt c.cdb 7 2 ∧ beAt c.cdb 7 2 ≤ c.dlen) ∧
    (∃ (tag : Nat) (c : Cmd) (s : State), s.atHostTurn tag c ∧ mmcIs 0x52 c = true ∧ s.medium = .ok ∧ s.isDvd = true ∧ 0 < s.drv.toc.leadOut ∧ (beAt c.cdb 1 1 % 4 = 1) ∧ beAt c.cdb 2 4 = 1 ∧ 36 ≤ beAt c.cdb 7 2 ∧ beAt c.cdb 7 2 ≤ c.dlen) :=
  ⟨⟨3, { tag := 3, slice := 0, qp := 0, place := 0, at_ := 0, loc := false, atomic := false, entry := ent [(0, 1), (32, 0), (49, 64), (57, 16)], sqHead := 0, stage := .dispatched }, up |>.upd (fun s => s.wr SPN.STATE (3)) |>.upd (fun s => { s with que := { s.que with cmds := [{ tag := 3, slice := 0, qp := 0, place := 0, at_ := 0, loc := false, atomic := false, entry := ent [(0, 1), (32, 0), (49, 64), (57, 16)], sqHead := 0, stage := .dispatched }] } }) |>.upd (fun s => s.wr LDR.STATE (6)) |>.upd (fun s => s.wr LDR.DISC (1)) |>.upd (fun s => s.wr SPN.STATE (3)), by decide +kernel⟩,
   ⟨3, stNoMedium, some (0x3A, 0x01), { tag := 3, slice := 0, qp := 0, place := 0, at_ := 0, loc := false, atomic := false, entry := ent [(0, 1), (32, 0), (49, 64), (57, 16)], sqHead := 0, stage := .dispatched }, up |>.upd (fun s => { s with que := { s.que with cmds := [{ tag := 3, slice := 0, qp := 0, place := 0, at_ := 0, loc := false, atomic := false, entry := ent [(0, 1), (32, 0), (49, 64), (57, 16)], sqHead := 0, stage := .dispatched }] } }) |>.upd (fun s => s.wr LDR.STATE (3)), by decide +kernel⟩,
   ⟨3, { tag := 3, slice := 0, qp := 0, place := 0, at_ := 0, loc := false, atomic := false, entry := ent [(0, 1), (32, 3), (36, 40), (49, 64), (57, 16)], sqHead := 0, stage := .dispatched }, { slice := 0, qp := 0, depth := 16, loc := false, atomic := false, sqBase := 0x1000, cqBase := 0x2000, sense := some (List.replicate 18 5) }, List.replicate 18 5, up |>.upd (fun s => { s with que := { s.que with cmds := [{ tag := 3, slice := 0, qp := 0, place := 0, at_ := 0, loc := false, atomic := false, entry := ent [(0, 1), (32, 3), (36, 40), (49, 64), (57, 16)], sqHead := 0, stage := .dispatched }] } }) |>.upd (fun s => { s with que := { s.que with pairs := [({ slice := 0, qp := 0, depth := 16, loc := false, atomic := false, sqBase := 0x1000, cqBase := 0x2000, sense := some (List.replicate 18 5) } : QPair)] } }), by decide +kernel⟩,
   ⟨3, { tag := 3, slice := 0, qp := 0, place := 0, at_ := 0, loc := false, atomic := false, entry := ent [(0, 1), (32, 18), (36, 96), (49, 64), (57, 16)], sqHead := 0, stage := .dispatched }, up |>.upd (fun s => { s with que := { s.que with cmds := [{ tag := 3, slice := 0, qp := 0, place := 0, at_ := 0, loc := false, atomic := false, entry := ent [(0, 1), (32, 18), (36, 96), (49, 64), (57, 16)], sqHead := 0, stage := .dispatched }] } }), by decide +kernel⟩,
   ⟨3, { tag := 3, slice := 0, qp := 0, place := 0, at_ := 0, loc := true, atomic := false, entry := ent [(0, 1), (32, 18), (33, 1), (36, 96), (48, 3), (49, 8), (57, 16)], sqHead := 0, stage := .dispatched }, up |>.upd (fun s => s.wr (SLC.BYTE_RATE.at ({ tag := 3, slice := 0, qp := 0, place := 0, at_ := 0, loc := true, atomic := false, entry := ent [(0, 1), (32, 18), (33, 1), (36, 96), (48, 3), (49, 8), (57, 16)], sqHead := 0, stage := .dispatched } : Cmd).slice) (0)) |>.upd (fun s => s.wr (Hdr.HOOK 0x0E) (0)) |>.upd (fun s => { s with mem := { s.mem with parityFaults := 0 } }) |>.upd (fun s => { s with que := { s.que with cmds := [{ tag := 3, slice := 0, qp := 0, place := 0, at_ := 0, loc := true, atomic := false, entry := ent [(0, 1), (32, 18), (33, 1), (36, 96), (48, 3), (49, 8), (57, 16)], sqHead := 0, stage := .dispatched }] } }), by decide +kernel⟩,
   ⟨3, { tag := 3, slice := 0, qp := 0, place := 0, at_ := 0, loc := false, atomic := false, entry := ent [(0, 1), (32, 70), (33, 2), (35, 1), (40, 32), (49, 64), (57, 16)], sqHead := 0, stage := .dispatched }, up |>.upd (fun s => { s with que := { s.que with cmds := [{ tag := 3, slice := 0, qp := 0, place := 0, at_ := 0, loc := false, atomic := false, entry := ent [(0, 1), (32, 70), (33, 2), (35, 1), (40, 32), (49, 64), (57, 16)], sqHead := 0, stage := .dispatched }] } }), by decide +kernel⟩,
   ⟨3, 2, { tag := 3, slice := 1, qp := 0, place := 0, at_ := 0, loc := false, atomic := false, entry := ent [(0, 1), (32, 74), (33, 1), (36, 16), (40, 32), (49, 64), (57, 16)], sqHead := 0, stage := .dispatched }, up |>.upd (fun s => { s with que := { s.que with cmds := [{ tag := 3, slice := 1, qp := 0, place := 0, at_ := 0, loc := false, atomic := false, entry := ent [(0, 1), (32, 74), (33, 1), (36, 16), (40, 32), (49, 64), (57, 16)], sqHead := 0, stage := .dispatched }] } }) |>.upd (fun s => { s with que := { s.que with slices := [{ slice := 1, cmdLevel := 5000, byteLevel := 0, events := [(4, 2)] }] } }), by decide +kernel⟩,
   ⟨3, { tag := 3, slice := 0, qp := 0, place := 0, at_ := 0, loc := false, atomic := false, entry := ent [(0, 1), (32, 189), (41, 32), (49, 64), (57, 16)], sqHead := 0, stage := .dispatched }, up |>.upd (fun s => { s with que := { s.que with cmds := [{ tag := 3, slice := 0, qp := 0, place := 0, at_ := 0, loc := false, atomic := false, entry := ent [(0, 1), (32, 189), (41, 32), (49, 64), (57, 16)], sqHead := 0, stage := .dispatched }] } }), by decide +kernel⟩,
   ⟨3, { tag := 3, slice := 0, qp := 0, place := 0, at_ := 0, loc := false, atomic := false, entry := ent [(0, 1), (32, 67), (34, 1), (40, 32), (49, 64), (57, 16)], sqHead := 0, stage := .dispatched }, up |>.upd (fun s => { s with que := { s.que with cmds := [{ tag := 3, slice := 0, qp := 0, place := 0, at_ := 0, loc := false, atomic := false, entry := ent [(0, 1), (32, 67), (34, 1), (40, 32), (49, 64), (57, 16)], sqHead := 0, stage := .dispatched }] } }) |>.upd (fun s => s.wr LDR.STATE (6)) |>.upd (fun s => s.wr LDR.DISC (5)) |>.upd (fun s => s.wr CHN.FMT (1)), by decide +kernel⟩,
   ⟨3, { tag := 3, slice := 0, qp := 0, place := 0, at_ := 0, loc := false, atomic := false, entry := ent [(0, 1), (32, 81), (40, 40), (49, 64), (57, 16)], sqHead := 0, stage := .dispatched }, up |>.upd (fun s => { s with que := { s.que with cmds := [{ tag := 3, slice := 0, qp := 0, place := 0, at_ := 0, loc := false, atomic := false, entry := ent [(0, 1), (32, 81), (40, 40), (49, 64), (57, 16)], sqHead := 0, stage := .dispatched }] } }) |>.upd (fun s => s.wr LDR.STATE (6)) |>.upd (fun s => s.wr LDR.DISC (5)) |>.upd (fun s => s.wr CHN.FMT (1)), by decide +kernel⟩,
   ⟨3, { tag := 3, slice := 0, qp := 0, place := 0, at_ := 0, loc := false, atomic := false, entry := ent [(0, 1), (32, 82), (33, 1), (37, 1), (40, 40), (49, 64), (57, 16)], sqHead := 0, stage := .dispatched }, up |>.upd (fun s => { s with que := { s.que with cmds := [{ tag := 3, slice := 0, qp := 0, place := 0, at_ := 0, loc := false, atomic := false, entry := ent [(0, 1), (32, 82), (33, 1), (37, 1), (40, 40), (49, 64), (57, 16)], sqHead := 0, stage := .dispatched }] } }) |>.upd (fun s => s.wr LDR.STATE (6)) |>.upd (fun s => s.wr LDR.DISC (5)) |>.upd (fun s => s.wr CHN.FMT (1)) |>.upd (fun s => { s with drv := { s.drv with toc := { leadOut := 500000 } } }), by decide +kernel⟩⟩

/-- What `MmcControlsComplete` assumes can hold. -/
theorem witness_mmcControlsComplete :
    (∃ (tag : Nat) (c : Cmd) (s : State), s.atHostTurn tag c ∧ mmcIs 0x1B c = true ∧ beAt c.cdb 4 1 = 0 ∧ bit (beAt c.cdb 1 1) 0 = true) ∧
    (∃ (tag : Nat) (c : Cmd) (s : State), s.atHostTurn tag c ∧ mmcIs 0x1B c = true ∧ beAt c.cdb 4 1 = 2 ∧ c.started = false ∧ c.slice ≠ 0 ∧ s.is CMD.EJECT_OK = false ∧ (s.pagesFree [0x1A])) ∧
    (∃ (tag : Nat) (c : Cmd) (s : State), s.atHostTurn tag c ∧ mmcIs 0x1E c = true ∧ (beAt c.cdb 4 1 % 4 = 1) ∧ c.slice < 64 ∧ PageUp s 0x1A) ∧
    (∃ (tag : Nat) (v : Nat) (c : Cmd) (s : State), s.atHostTurn tag c ∧ mmcIs 0xBB c = true ∧ c.slice = 0 ∧ PageUp s 0x07 ∧ beAt c.cdb 2 2 = v ∧ 704 ≤ v ∧ v < 0xFFFF) ∧
    (∃ (tag : Nat) (c : Cmd) (s : State), s.atHostTurn tag c ∧ mmcIs 0x5A c = true ∧ beAt c.cdb 2 1 = 0x01 ∧ beAt c.cdb 3 1 = 0 ∧ 20 ≤ beAt c.cdb 7 2 ∧ beAt c.cdb 7 2 ≤ c.dlen) ∧
    (∃ (tag : Nat) (n : Nat) (per : Bool) (c : Cmd) (s : State), s.atHostTurn tag c ∧ mmcIs 0x55 c = true ∧ bit (beAt c.cdb 1 1) 0 = false ∧ bit (beAt c.cdb 1 1) 4 = true ∧ beAt c.cdb 7 2 = 20 ∧ 20 ≤ c.dlen ∧ c.started = true ∧ n ≤ 8 ∧ (c.dataIn = some ([0, 0, 0, 0, 0, 0, 0, 0, 0x01, 0x0A, BitVec.ofNat 8 (4 * b2n per), BitVec.ofNat 8 n, 0, 0, 0, 0, 0, 0, 0, 0]))) :=
  ⟨⟨3, { tag := 3, slice := 0, qp := 0, place := 0, at_ := 0, loc := false, atomic := false, entry := ent [(0, 1), (32, 27), (33, 1), (49, 64), (57, 16)], sqHead := 0, stage := .dispatched }, up |>.upd (fun s => { s with que := { s.que with cmds := [{ tag := 3, slice := 0, qp := 0, place := 0, at_ := 0, loc := false, atomic := false, entry := ent [(0, 1), (32, 27), (33, 1), (49, 64), (57, 16)], sqHead := 0, stage := .dispatched }] } }) |>.upd (fun s => { s with drv := { s.drv with demand := true } }), by decide +kernel⟩,
   ⟨3, { tag := 3, slice := 2, qp := 0, place := 0, at_ := 0, loc := false, atomic := false, entry := ent [(0, 1), (32, 27), (36, 2), (49, 64), (57, 16)], sqHead := 0, stage := .dispatched }, up |>.upd (fun s => s.wr CMD.EJECT_OK 0) |>.upd (fun s => { s with que := { s.que with cmds := [{ tag := 3, slice := 2, qp := 0, place := 0, at_ := 0, loc := false, atomic := false, entry := ent [(0, 1), (32, 27), (36, 2), (49, 64), (57, 16)], sqHead := 0, stage := .dispatched }] } }), by decide +kernel⟩,
   ⟨3, { tag := 3, slice := 2, qp := 0, place := 0, at_ := 0, loc := false, atomic := false, entry := ent [(0, 1), (32, 30), (36, 1), (49, 64), (57, 16)], sqHead := 0, stage := .dispatched }, up |>.upd (fun s => { s with que := { s.que with cmds := [{ tag := 3, slice := 2, qp := 0, place := 0, at_ := 0, loc := false, atomic := false, entry := ent [(0, 1), (32, 30), (36, 1), (49, 64), (57, 16)], sqHead := 0, stage := .dispatched }] } }), by decide +kernel⟩,
   ⟨3, 0x2B10, { tag := 3, slice := 0, qp := 0, place := 0, at_ := 0, loc := false, atomic := false, entry := ent [(0, 1), (32, 187), (34, 43), (35, 16), (49, 64), (57, 16)], sqHead := 0, stage := .dispatched }, up |>.upd (fun s => { s with que := { s.que with cmds := [{ tag := 3, slice := 0, qp := 0, place := 0, at_ := 0, loc := false, atomic := false, entry := ent [(0, 1), (32, 187), (34, 43), (35, 16), (49, 64), (57, 16)], sqHead := 0, stage := .dispatched }] } }), by decide +kernel⟩,
   ⟨3, { tag := 3, slice := 0, qp := 0, place := 0, at_ := 0, loc := false, atomic := false, entry := ent [(0, 1), (32, 90), (34, 1), (40, 32), (49, 64), (57, 16)], sqHead := 0, stage := .dispatched }, up |>.upd (fun s => { s with que := { s.que with cmds := [{ tag := 3, slice := 0, qp := 0, place := 0, at_ := 0, loc := false, atomic := false, entry := ent [(0, 1), (32, 90), (34, 1), (40, 32), (49, 64), (57, 16)], sqHead := 0, stage := .dispatched }] } }), by decide +kernel⟩,
   ⟨3, 7, true, { tag := 3, slice := 0, qp := 0, place := 0, at_ := 0, loc := false, atomic := false, entry := ent [(0, 1), (32, 85), (33, 16), (40, 20), (49, 64), (57, 16)], sqHead := 0, stage := .dispatched, started := true, dataIn := some ([0, 0, 0, 0, 0, 0, 0, 0, 0x01, 0x0A, BitVec.ofNat 8 4, BitVec.ofNat 8 7, 0, 0, 0, 0, 0, 0, 0, 0]) }, up |>.upd (fun s => { s with que := { s.que with cmds := [{ tag := 3, slice := 0, qp := 0, place := 0, at_ := 0, loc := false, atomic := false, entry := ent [(0, 1), (32, 85), (33, 16), (40, 20), (49, 64), (57, 16)], sqHead := 0, stage := .dispatched, started := true, dataIn := some ([0, 0, 0, 0, 0, 0, 0, 0, 0x01, 0x0A, BitVec.ofNat 8 4, BitVec.ofNat 8 7, 0, 0, 0, 0, 0, 0, 0, 0]) }] } }), by decide +kernel⟩⟩

/-- What `MmcReadsComplete` assumes can hold. -/
theorem witness_mmcReadsComplete :
    (∃ (tag : Nat) (lba : Nat) (c : Cmd) (e : Cached) (s : State), s.atHostTurn tag c ∧ mmcIs 0x28 c = true ∧ c.untouched ∧ beAt c.cdb 2 4 = lba ∧ beAt c.cdb 7 2 = 1 ∧ 2048 ≤ c.dlen ∧ (s.pagesFree [0x0B, 0x0E]) ∧ s.medium = .ok ∧ 1 ≤ s.rd CMD.MAX_XFER ∧ s.userHeld lba e ∧ (s.rd QUE.HITS < 2 ^ 32 - 1)) ∧
    (∃ (tag : Nat) (lba : Nat) (c : Cmd) (e : Cached) (s : State), s.atHostTurn tag c ∧ mmcIs 0xA8 c = true ∧ c.untouched ∧ beAt c.cdb 2 4 = lba ∧ beAt c.cdb 6 4 = 1 ∧ 2048 ≤ c.dlen ∧ (s.pagesFree [0x0B, 0x0E]) ∧ s.medium = .ok ∧ 1 ≤ s.rd CMD.MAX_XFER ∧ s.userHeld lba e ∧ (s.rd QUE.HITS < 2 ^ 32 - 1)) ∧
    (∃ (tag : Nat) (lba : Nat) (c : Cmd) (e : Cached) (s : State), s.atHostTurn tag c ∧ mmcIs 0xBE c = true ∧ c.untouched ∧ (cdSel c.cdb = some { type := 2, sync := false, hdr := 0, user := true, edc := false, c2 := 0, sub := 0 }) ∧ beAt c.cdb 2 4 = lba ∧ beAt c.cdb 6 3 = 1 ∧ 2048 ≤ c.dlen ∧ (s.pagesFree [0x0B, 0x0E]) ∧ s.medium = .ok ∧ 1 ≤ s.rd CMD.MAX_XFER ∧ s.isDvd = false ∧ s.userHeld lba e ∧ (s.rd QUE.HITS < 2 ^ 32 - 1)) ∧
    (∃ (tag : Nat) (lba : Nat) (c : Cmd) (e : Cached) (s : State), s.atHostTurn tag c ∧ mmcIs 0xB9 c = true ∧ c.untouched ∧ (cdSel c.cdb = some { type := 2, sync := false, hdr := 0, user := true, edc := false, c2 := 0, sub := 0 }) ∧ beAt c.cdb 4 1 ≤ 59 ∧ beAt c.cdb 5 1 ≤ 74 ∧ beAt c.cdb 7 1 ≤ 59 ∧ beAt c.cdb 8 1 ≤ 74 ∧ ((beAt c.cdb 3 1 * 60 + beAt c.cdb 4 1) * 75 + beAt c.cdb 5 1 = lba + 150) ∧ ((beAt c.cdb 6 1 * 60 + beAt c.cdb 7 1) * 75 + beAt c.cdb 8 1 = lba + 151) ∧ 2048 ≤ c.dlen ∧ (s.pagesFree [0x0B, 0x0E]) ∧ s.medium = .ok ∧ 1 ≤ s.rd CMD.MAX_XFER ∧ s.isDvd = false ∧ s.userHeld lba e ∧ (s.rd QUE.HITS < 2 ^ 32 - 1)) :=
  ⟨⟨3, 50, { tag := 3, slice := 0, qp := 0, place := 0, at_ := 0, loc := false, atomic := false, entry := ent [(0, 1), (32, 40), (37, 50), (40, 1), (49, 64), (57, 16)], sqHead := 0, stage := .dispatched }, { ns := 1, block := 50, off := 0x100000, len := 2048, raw := false, info := 0, level := 0, used := 0 }, up |>.upd (fun s => s.wr CMD.MAX_XFER 1) |>.upd (fun s => { s with que := { s.que with cmds := [{ tag := 3, slice := 0, qp := 0, place := 0, at_ := 0, loc := false, atomic := false, entry := ent [(0, 1), (32, 40), (37, 50), (40, 1), (49, 64), (57, 16)], sqHead := 0, stage := .dispatched }] } }) |>.upd (fun s => s.wr LDR.STATE (6)) |>.upd (fun s => s.wr LDR.DISC (5)) |>.upd (fun s => s.wr CHN.FMT (1)) |>.upd (fun s => { s with drv := { s.drv with toc := { leadOut := 100, tracks := [{ number := 1, first := 0, control := 4 }] } } }) |>.upd (fun s => { s with mem := { s.mem with sectors := [({ ns := 1, block := 50, off := 0x100000, len := 2048, raw := false, info := 0, level := 0, used := 0 } : Cached)] } }), by decide +kernel⟩,
   ⟨3, 50, { tag := 3, slice := 0, qp := 0, place := 0, at_ := 0, loc := false, atomic := false, entry := ent [(0, 1), (32, 168), (37, 50), (41, 1), (49, 64), (57, 16)], sqHead := 0, stage := .dispatched }, { ns := 1, block := 50, off := 0x100000, len := 2742, raw := true, info := 0, level := 0, used := 0 }, up |>.upd (fun s => s.wr CMD.MAX_XFER 1) |>.upd (fun s => { s with que := { s.que with cmds := [{ tag := 3, slice := 0, qp := 0, place := 0, at_ := 0, loc := false, atomic := false, entry := ent [(0, 1), (32, 168), (37, 50), (41, 1), (49, 64), (57, 16)], sqHead := 0, stage := .dispatched }] } }) |>.upd (fun s => s.wr LDR.STATE (6)) |>.upd (fun s => s.wr LDR.DISC (1)) |>.upd (fun s => { s with drv := { s.drv with toc := { leadOut := 100, tracks := [{ number := 1, first := 0, control := 4 }] } } }) |>.upd (fun s => { s with mem := { s.mem with sectors := [({ ns := 1, block := 50, off := 0x100000, len := 2742, raw := true, info := 0, level := 0, used := 0 } : Cached)] } }) |>.upd (fun s => { s with cells := [(0x10000F, 1#8), (0x100010, 9#8)] }), by decide +kernel⟩,
   ⟨3, 50, { tag := 3, slice := 0, qp := 0, place := 0, at_ := 0, loc := false, atomic := false, entry := ent [(0, 1), (32, 190), (33, 8), (37, 50), (40, 1), (41, 16), (49, 64), (57, 16)], sqHead := 0, stage := .dispatched }, { ns := 1, block := 50, off := 0x100000, len := 2742, raw := true, info := 0, level := 0, used := 0 }, up |>.upd (fun s => s.wr CMD.MAX_XFER 1) |>.upd (fun s => { s with que := { s.que with cmds := [{ tag := 3, slice := 0, qp := 0, place := 0, at_ := 0, loc := false, atomic := false, entry := ent [(0, 1), (32, 190), (33, 8), (37, 50), (40, 1), (41, 16), (49, 64), (57, 16)], sqHead := 0, stage := .dispatched }] } }) |>.upd (fun s => s.wr LDR.STATE (6)) |>.upd (fun s => s.wr LDR.DISC (1)) |>.upd (fun s => { s with drv := { s.drv with toc := { leadOut := 100, tracks := [{ number := 1, first := 0, control := 4 }] } } }) |>.upd (fun s => { s with mem := { s.mem with sectors := [({ ns := 1, block := 50, off := 0x100000, len := 2742, raw := true, info := 0, level := 0, used := 0 } : Cached)] } }) |>.upd (fun s => { s with cells := [(0x10000F, 1#8), (0x100010, 9#8)] }), by decide +kernel⟩,
   ⟨3, 50, { tag := 3, slice := 0, qp := 0, place := 0, at_ := 0, loc := false, atomic := false, entry := ent [(0, 1), (32, 185), (33, 8), (36, 2), (37, 50), (39, 2), (40, 51), (41, 16), (49, 64), (57, 16)], sqHead := 0, stage := .dispatched }, { ns := 1, block := 50, off := 0x100000, len := 2742, raw := true, info := 0, level := 0, used := 0 }, up |>.upd (fun s => s.wr CMD.MAX_XFER 1) |>.upd (fun s => { s with que := { s.que with cmds := [{ tag := 3, slice := 0, qp := 0, place := 0, at_ := 0, loc := false, atomic := false, entry := ent [(0, 1), (32, 185), (33, 8), (36, 2), (37, 50), (39, 2), (40, 51), (41, 16), (49, 64), (57, 16)], sqHead := 0, stage := .dispatched }] } }) |>.upd (fun s => s.wr LDR.STATE (6)) |>.upd (fun s => s.wr LDR.DISC (1)) |>.upd (fun s => { s with drv := { s.drv with toc := { leadOut := 100, tracks := [{ number := 1, first := 0, control := 4 }] } } }) |>.upd (fun s => { s with mem := { s.mem with sectors := [({ ns := 1, block := 50, off := 0x100000, len := 2742, raw := true, info := 0, level := 0, used := 0 } : Cached)] } }) |>.upd (fun s => { s with cells := [(0x10000F, 1#8), (0x100010, 9#8)] }), by decide +kernel⟩⟩

/-- What `NativeReportsComplete` assumes can hold. -/
theorem witness_nativeReportsComplete :
    (∃ (tag : Nat) (c : Cmd) (s : State), s.atTurn tag = some c ∧ nativeIs 0x00 c = true) ∧
    (∃ (tag : Nat) (c : Cmd) (s : State), s.atHostTurn tag c ∧ nativeIs 0x02 c = true ∧ 512 ≤ c.dlen) ∧
    (∃ (tag : Nat) (c : Cmd) (d : Cmd) (s : State), s.atTurn tag = some c ∧ nativeIs 0x03 c = true ∧ c.started = false ∧ (s.que.cmds = [d, c]) ∧ (s.que.accepted = []) ∧ d.slice = c.abortTarget ∧ d.place < c.place ∧ d.tag ≠ c.tag ∧ d.stage ≠ .ended ∧ s.playsTag d.tag = false) ∧
    (∃ (tag : Nat) (c : Cmd) (s : State), s.atHostTurn tag c ∧ nativeIs 0x30 c = true ∧ (s.pagesFree [0x13]) ∧ (32 * (s.ryl.roster.take (s.rd RYL.ROSTER_HELD)).length ≤ c.dlen)) ∧
    (∃ (tag : Nat) (c : Cmd) (s : State), s.atHostTurn tag c ∧ nativeIs 0x20 c = true ∧ c.started = false ∧ s.medium = .ok ∧ c.count = 1 ∧ c.block < s.drv.toc.leadOut ∧ 1 ≤ s.rd CMD.MAX_XFER ∧ 1 ≤ c.dlen) ∧
    (∃ (tag : Nat) (c : Cmd) (s : State), s.atTurn tag = some c ∧ nativeIs 0x21 c = true ∧ (s.pagesFree [0x12]) ∧ bit c.param0 0 = true) :=
  ⟨⟨3, { tag := 3, slice := 0, qp := 0, place := 0, at_ := 0, loc := false, atomic := false, entry := ent [(0, 0)], sqHead := 0, stage := .dispatched }, up |>.upd (fun s => { s with que := { s.que with cmds := [{ tag := 3, slice := 0, qp := 0, place := 0, at_ := 0, loc := false, atomic := false, entry := ent [(0, 0)], sqHead := 0, stage := .dispatched }] } }), by decide +kernel⟩,
   ⟨3, { tag := 3, slice := 0, qp := 0, place := 0, at_ := 0, loc := false, atomic := false, entry := ent [(0, 2), (49, 64), (57, 16)], sqHead := 0, stage := .dispatched }, up |>.upd (fun s => { s with que := { s.que with cmds := [{ tag := 3, slice := 0, qp := 0, place := 0, at_ := 0, loc := false, atomic := false, entry := ent [(0, 2), (49, 64), (57, 16)], sqHead := 0, stage := .dispatched }] } }), by decide +kernel⟩,
   ⟨3, { tag := 3, slice := 0, qp := 0, at_ := 0, loc := false, atomic := false, entry := ent [(0, 3)], sqHead := 0, stage := .dispatched, place := 7 }, { tag := 9, slice := 0, qp := 0, place := 1, at_ := 0, loc := false, atomic := false, entry := ent [(0, 0x10)], sqHead := 0, stage := .fetched }, up |>.upd (fun s => { s with que := { s.que with cmds := [({ tag := 9, slice := 0, qp := 0, place := 1, at_ := 0, loc := false, atomic := false, entry := ent [(0, 0x10)], sqHead := 0, stage := .fetched } : Cmd), ({ tag := 3, slice := 0, qp := 0, at_ := 0, loc := false, atomic := false, entry := ent [(0, 3)], sqHead := 0, stage := .dispatched, place := 7 } : Cmd)] } }) |>.upd (fun s => { s with que := { s.que with accepted := [] } }) |>.upd (fun s => { s with que := { s.que with cmds := [{ tag := 9, slice := 0, qp := 0, place := 1, at_ := 0, loc := false, atomic := false, entry := ent [(0, 0x10)], sqHead := 0, stage := .fetched }, { tag := 3, slice := 0, qp := 0, at_ := 0, loc := false, atomic := false, entry := ent [(0, 3)], sqHead := 0, stage := .dispatched, place := 7 }] } }), by decide +kernel⟩,
   ⟨3, { tag := 3, slice := 0, qp := 0, place := 0, at_ := 0, loc := false, atomic := false, entry := ent [(0, 48), (49, 64), (57, 16)], sqHead := 0, stage := .dispatched }, up |>.upd (fun s => { s with que := { s.que with cmds := [{ tag := 3, slice := 0, qp := 0, place := 0, at_ := 0, loc := false, atomic := false, entry := ent [(0, 48), (49, 64), (57, 16)], sqHead := 0, stage := .dispatched }] } }) |>.upd (fun s => s.wr RYL.ROSTER_HELD (2)) |>.upd (fun s => { s with ryl := { s.ryl with roster := [{ unique := 77, id := 5, neigh := [none, none, none] }, { unique := 78, id := 6, neigh := [none, none, none] }] } }), by decide +kernel⟩,
   ⟨3, { tag := 3, slice := 0, qp := 0, place := 0, at_ := 0, loc := false, atomic := false, entry := ent [(0, 32), (16, 50), (24, 1), (49, 64), (57, 16)], sqHead := 0, stage := .dispatched }, up |>.upd (fun s => s.wr CMD.MAX_XFER 1) |>.upd (fun s => { s with que := { s.que with cmds := [{ tag := 3, slice := 0, qp := 0, place := 0, at_ := 0, loc := false, atomic := false, entry := ent [(0, 32), (16, 50), (24, 1), (49, 64), (57, 16)], sqHead := 0, stage := .dispatched }] } }) |>.upd (fun s => s.wr LDR.STATE (6)) |>.upd (fun s => s.wr LDR.DISC (1)) |>.upd (fun s => { s with drv := { s.drv with toc := { leadOut := 100, tracks := [{ number := 1, first := 0, control := 4 }] } } }), by decide +kernel⟩,
   ⟨3, { tag := 3, slice := 0, qp := 0, place := 0, at_ := 0, loc := false, atomic := false, entry := ent [(0, 33), (28, 1)], sqHead := 0, stage := .dispatched }, up |>.upd (fun s => { s with que := { s.que with cmds := [{ tag := 3, slice := 0, qp := 0, place := 0, at_ := 0, loc := false, atomic := false, entry := ent [(0, 33), (28, 1)], sqHead := 0, stage := .dispatched }] } }) |>.upd (fun s => { s with nand := { s.nand with shadow := [{ ident := [], layer := 0, addr := 5, dvd := true, data := [1, 2] }] } }), by decide +kernel⟩⟩

/-- What `NativeTransfersComplete` assumes can hold. -/
theorem witness_nativeTransfersComplete :
    (∃ (tag : Nat) (c : Cmd) (e : Cached) (s : State), s.atHostTurn tag c ∧ nativeIs 0x10 c = true ∧ c.untouched ∧ s.localNs c.nsid = 1 ∧ c.count = 1 ∧ 2048 ≤ c.dlen ∧ (s.pagesFree [0x0B, 0x0E]) ∧ s.medium = .ok ∧ 1 ≤ s.rd CMD.MAX_XFER ∧ s.userHeld c.block e ∧ (s.rd QUE.HITS < 2 ^ 32 - 1)) ∧
    (∃ (tag : Nat) (k : Nat) (c : Cmd) (s : State), s.atHostTurn tag c ∧ nativeIs 0x10 c = true ∧ c.untouched ∧ k < 16 ∧ (s.localNs c.nsid = 0x10 + k) ∧ c.count = 1 ∧ 2048 ≤ c.dlen ∧ (s.pagesFree [0x12]) ∧ s.rd OAS.STATE = 4 ∧ 1 ≤ s.rd CMD.MAX_XFER ∧ c.block < s.rd (OAS.NS_SIZE.at k) ∧ s.libGet k c.block = none ∧ (s.cachedAt (0x10 + k) c.block = none) ∧ (s.rd QUE.MISSES < 2 ^ 32 - 1)) ∧
    (∃ (tag : Nat) (k : Nat) (l : List Byte) (c : Cmd) (s : State), s.atHostTurn tag c ∧ nativeIs 0x11 c = true ∧ c.started = true ∧ c.dataIn = some l ∧ (l.length = 2048 * c.count) ∧ k < 16 ∧ (s.localNs c.nsid = 0x10 + k) ∧ (s.pagesFree [0x12]) ∧ s.rd OAS.STATE = 4 ∧ s.writeOf tag = none ∧ 0 < c.count ∧ (min c.writeMost (s.xferCount c.block c.count (s.rd (OAS.NS_SIZE.at k)) (c.dlen / 2048)) = c.count) ∧ s.roomFor k c.block c.count = c.count ∧ s.gcShort = false) ∧
    (∃ (tag : Nat) (k : Nat) (c : Cmd) (s : State), s.atHostTurn tag c ∧ nativeIs 0x12 c = true ∧ k < 16 ∧ (s.localNs c.nsid = 0x10 + k) ∧ (s.pagesFree [0x12]) ∧ s.rd OAS.STATE = 4 ∧ s.writeOf tag = none ∧ 0 < c.count ∧ s.xferCount c.block c.count (s.rd (OAS.NS_SIZE.at k)) c.count = c.count) ∧
    (∃ (tag : Nat) (k : Nat) (j : Nat) (c : Cmd) (s : State), s.atHostTurn tag c ∧ nativeIs 0x13 c = true ∧ c.untouched ∧ k < 16 ∧ j < 16 ∧ (s.localNs c.nsid = 0x10 + k) ∧ (s.localNs (c.param 1) = 0x10 + j) ∧ c.count = 1 ∧ (s.pagesFree [0x12]) ∧ s.rd OAS.STATE = 4 ∧ 1 ≤ s.rd CMD.MAX_XFER ∧ c.block < s.rd (OAS.NS_SIZE.at k) ∧ c.param0 < s.rd (OAS.NS_SIZE.at j) ∧ s.libGet k c.block = none ∧ (s.cachedAt (0x10 + k) c.block = none) ∧ s.libGet j c.param0 = none ∧ (s.cachedAt (0x10 + j) c.param0 = none)) ∧
    (∃ (tag : Nat) (k : Nat) (c : Cmd) (e : Cached) (s : State), s.atHostTurn tag c ∧ nativeIs 0x18 c = true ∧ c.untouched ∧ k < 16 ∧ (s.localNs c.nsid = 0x10 + k) ∧ s.localNs (c.param 1) = 1 ∧ c.count = 1 ∧ (s.pagesFree [0x0B, 0x0E, 0x12]) ∧ s.rd OAS.STATE = 4 ∧ s.medium = .ok ∧ s.writeOf tag = none ∧ 1 ≤ s.rd CMD.MAX_XFER ∧ c.block < s.rd (OAS.NS_SIZE.at k) ∧ s.userHeld c.param0 e ∧ (s.rd QUE.HITS < 2 ^ 32 - 1) ∧ s.roomFor k c.block 1 = 1 ∧ s.gcShort = false) :=
  ⟨⟨3, { tag := 3, slice := 0, qp := 0, place := 0, at_ := 0, loc := false, atomic := false, entry := ent [(0, 16), (12, 1), (16, 50), (24, 1), (49, 64), (57, 16)], sqHead := 0, stage := .dispatched }, { ns := 1, block := 50, off := 0x100000, len := 2742, raw := true, info := 0, level := 0, used := 0 }, up |>.upd (fun s => s.wr CMD.MAX_XFER 1) |>.upd (fun s => { s with que := { s.que with cmds := [{ tag := 3, slice := 0, qp := 0, place := 0, at_ := 0, loc := false, atomic := false, entry := ent [(0, 16), (12, 1), (16, 50), (24, 1), (49, 64), (57, 16)], sqHead := 0, stage := .dispatched }] } }) |>.upd (fun s => s.wr LDR.STATE (6)) |>.upd (fun s => s.wr LDR.DISC (1)) |>.upd (fun s => { s with drv := { s.drv with toc := { leadOut := 100, tracks := [{ number := 1, first := 0, control := 4 }] } } }) |>.upd (fun s => { s with mem := { s.mem with sectors := [({ ns := 1, block := 50, off := 0x100000, len := 2742, raw := true, info := 0, level := 0, used := 0 } : Cached)] } }) |>.upd (fun s => { s with cells := [(0x10000F, 1#8), (0x100010, 9#8)] }), by decide +kernel⟩,
   ⟨3, 2, { tag := 3, slice := 0, qp := 0, place := 0, at_ := 0, loc := false, atomic := false, entry := ent [(0, 16), (12, 18), (16, 50), (24, 1), (49, 64), (57, 16)], sqHead := 0, stage := .dispatched }, up |>.upd (fun s => s.wr OAS.STATE (4)) |>.upd (fun s => s.wr CMD.MAX_XFER 1) |>.upd (fun s => { s with que := { s.que with cmds := [{ tag := 3, slice := 0, qp := 0, place := 0, at_ := 0, loc := false, atomic := false, entry := ent [(0, 16), (12, 18), (16, 50), (24, 1), (49, 64), (57, 16)], sqHead := 0, stage := .dispatched }] } }) |>.upd (fun s => s.wr (OAS.NS_SIZE.at 2) (1000)) |>.upd (fun s => s.wr (OAS.NS_SIZE.at 3) (1000)), by decide +kernel⟩,
   ⟨3, 2, List.replicate 2048 7, { tag := 3, slice := 0, qp := 0, place := 0, at_ := 0, loc := false, atomic := false, entry := ent [(0, 17), (12, 18), (16, 50), (24, 1), (49, 64), (57, 16)], sqHead := 0, stage := .dispatched, started := true, dataIn := some (List.replicate 2048 7) }, roomy (up |>.upd (fun s => s.wr OAS.STATE (4)) |>.upd (fun s => { s with que := { s.que with cmds := [{ tag := 3, slice := 0, qp := 0, place := 0, at_ := 0, loc := false, atomic := false, entry := ent [(0, 17), (12, 18), (16, 50), (24, 1), (49, 64), (57, 16)], sqHead := 0, stage := .dispatched, started := true, dataIn := some (List.replicate 2048 7) }] } }) |>.upd (fun s => s.wr (OAS.NS_SIZE.at 2) (1000)) |>.upd (fun s => s.wr (OAS.NS_SIZE.at 3) (1000))), by decide +kernel, by decide +kernel, by decide +kernel, by decide +kernel, by decide +kernel, by decide +kernel, by decide +kernel, by decide +kernel, by decide +kernel, by decide +kernel, by decide +kernel, by decide +kernel, by exact room_of _ _ _ (by decide +kernel) (roomy_usable _ (by decide +kernel) (by decide +kernel) (by decide +kernel)), by exact roomy_gcShort _⟩,
   ⟨3, 2, { tag := 3, slice := 0, qp := 0, place := 0, at_ := 0, loc := false, atomic := false, entry := ent [(0, 18), (12, 18), (16, 50), (24, 1), (49, 64), (57, 16)], sqHead := 0, stage := .dispatched }, up |>.upd (fun s => s.wr OAS.STATE (4)) |>.upd (fun s => { s with que := { s.que with cmds := [{ tag := 3, slice := 0, qp := 0, place := 0, at_ := 0, loc := false, atomic := false, entry := ent [(0, 18), (12, 18), (16, 50), (24, 1), (49, 64), (57, 16)], sqHead := 0, stage := .dispatched }] } }) |>.upd (fun s => s.wr (OAS.NS_SIZE.at 2) (1000)) |>.upd (fun s => s.wr (OAS.NS_SIZE.at 3) (1000)), by decide +kernel⟩,
   ⟨3, 2, 3, { tag := 3, slice := 0, qp := 0, place := 0, at_ := 0, loc := false, atomic := false, entry := ent [(0, 19), (12, 18), (16, 50), (24, 1), (28, 60), (32, 19), (49, 64), (57, 16)], sqHead := 0, stage := .dispatched }, up |>.upd (fun s => s.wr OAS.STATE (4)) |>.upd (fun s => s.wr CMD.MAX_XFER 1) |>.upd (fun s => { s with que := { s.que with cmds := [{ tag := 3, slice := 0, qp := 0, place := 0, at_ := 0, loc := false, atomic := false, entry := ent [(0, 19), (12, 18), (16, 50), (24, 1), (28, 60), (32, 19), (49, 64), (57, 16)], sqHead := 0, stage := .dispatched }] } }) |>.upd (fun s => s.wr (OAS.NS_SIZE.at 2) (1000)) |>.upd (fun s => s.wr (OAS.NS_SIZE.at 3) (1000)), by decide +kernel⟩,
   ⟨3, 2, { tag := 3, slice := 0, qp := 0, place := 0, at_ := 0, loc := false, atomic := false, entry := ent [(0, 24), (12, 18), (16, 50), (24, 1), (28, 50), (32, 1), (49, 64), (57, 16)], sqHead := 0, stage := .dispatched }, { ns := 1, block := 50, off := 0x100000, len := 2742, raw := true, info := 0, level := 0, used := 0 }, roomy (up |>.upd (fun s => s.wr OAS.STATE (4)) |>.upd (fun s => s.wr CMD.MAX_XFER 1) |>.upd (fun s => { s with que := { s.que with cmds := [{ tag := 3, slice := 0, qp := 0, place := 0, at_ := 0, loc := false, atomic := false, entry := ent [(0, 24), (12, 18), (16, 50), (24, 1), (28, 50), (32, 1), (49, 64), (57, 16)], sqHead := 0, stage := .dispatched }] } }) |>.upd (fun s => s.wr LDR.STATE (6)) |>.upd (fun s => s.wr LDR.DISC (1)) |>.upd (fun s => { s with drv := { s.drv with toc := { leadOut := 100, tracks := [{ number := 1, first := 0, control := 4 }] } } }) |>.upd (fun s => { s with mem := { s.mem with sectors := [({ ns := 1, block := 50, off := 0x100000, len := 2742, raw := true, info := 0, level := 0, used := 0 } : Cached)] } }) |>.upd (fun s => { s with cells := [(0x10000F, 1#8), (0x100010, 9#8)] }) |>.upd (fun s => s.wr (OAS.NS_SIZE.at 2) (1000)) |>.upd (fun s => s.wr (OAS.NS_SIZE.at 3) (1000))), by decide +kernel, by decide +kernel, by decide +kernel, by decide +kernel, by decide +kernel, by decide +kernel, by decide +kernel, by decide +kernel, by decide +kernel, by decide +kernel, by decide +kernel, by decide +kernel, by decide +kernel, by decide +kernel, by decide +kernel, by exact room_of _ _ _ (by decide +kernel) (roomy_usable _ (by decide +kernel) (by decide +kernel) (by decide +kernel)), by exact roomy_gcShort _⟩⟩

/-- What `LibraryCommandsComplete` assumes can hold. -/
theorem witness_libraryCommandsComplete :
    (∃ (tag : Nat) (k : Nat) (bad : List (Nat × Nat)) (c : Cmd) (s : State), s.atHostTurn tag c ∧ nativeIs 0x14 c = true ∧ (s.pagesFree [0x12]) ∧ k < 16 ∧ (s.localNs c.nsid = 0x10 + k) ∧ s.rd OAS.STATE = 4 ∧ c.started = false ∧ (s.mem.ueTab = [])) ∧
    (∃ (tag : Nat) (bad : List (Nat × Nat)) (c : Cmd) (s : State), s.atHostTurn tag c ∧ nativeIs 0x14 c = true ∧ (s.pagesFree [0x12]) ∧ s.rd OAS.STATE = 1 ∧ c.started = false) ∧
    (∃ (tag : Nat) (c : Cmd) (s : State), s.atHostTurn tag c ∧ nativeIs 0x15 c = true ∧ (s.pagesFree [0x12]) ∧ s.rd OAS.STATE = 4 ∧ c.started = false) ∧
    (∃ (tag : Nat) (c : Cmd) (s : State), s.atHostTurn tag c ∧ nativeIs 0x15 c = true ∧ (s.pagesFree [0x12]) ∧ s.rd OAS.STATE = 2 ∧ c.started = false) ∧
    (∃ (tag : Nat) (c : Cmd) (s : State), s.atHostTurn tag c ∧ nativeIs 0x16 c = true ∧ (s.pagesFree [0x12]) ∧ s.rd OAS.STATE = 4 ∧ c.started = false ∧ s.libBusy = false ∧ (s.mem.ueTab = [])) :=
  ⟨⟨3, 2, [], { tag := 3, slice := 0, qp := 0, place := 0, at_ := 0, loc := false, atomic := false, entry := ent [(0, 20), (12, 18), (16, 50), (24, 1), (49, 64), (57, 16)], sqHead := 0, stage := .dispatched }, up |>.upd (fun s => s.wr OAS.STATE (4)) |>.upd (fun s => { s with mem := { s.mem with ueTab := [] } }) |>.upd (fun s => { s with que := { s.que with cmds := [{ tag := 3, slice := 0, qp := 0, place := 0, at_ := 0, loc := false, atomic := false, entry := ent [(0, 20), (12, 18), (16, 50), (24, 1), (49, 64), (57, 16)], sqHead := 0, stage := .dispatched }] } }) |>.upd (fun s => s.wr (OAS.NS_SECTORS.at 2) (500)) |>.upd (fun s => { s with nand := { s.nand with lib := [{ ns := 2, block := 50, seq := 1, die := 0, data := [] }] } }) |>.upd (fun s => { s with nand := { s.nand with dies := [0, 1] } }) |>.upd (fun s => { s with regs := (OAS.BLOCKS_PER_DIE.key, Config.systemBlocks + 100) :: s.regs }) |>.upd (fun s => s.wr OAS.PAGES_PER_BLOCK (64)), by decide +kernel⟩,
   ⟨3, [(0, 5)], { tag := 3, slice := 0, qp := 0, place := 0, at_ := 0, loc := false, atomic := false, entry := ent [(0, 20), (12, 18), (16, 50), (24, 1), (49, 64), (57, 16)], sqHead := 0, stage := .dispatched }, up |>.upd (fun s => s.wr OAS.STATE (1)) |>.upd (fun s => { s with que := { s.que with cmds := [{ tag := 3, slice := 0, qp := 0, place := 0, at_ := 0, loc := false, atomic := false, entry := ent [(0, 20), (12, 18), (16, 50), (24, 1), (49, 64), (57, 16)], sqHead := 0, stage := .dispatched }] } }), by decide +kernel⟩,
   ⟨3, { tag := 3, slice := 0, qp := 0, place := 0, at_ := 0, loc := false, atomic := false, entry := ent [(0, 21), (12, 18), (16, 50), (24, 1), (49, 64), (57, 16)], sqHead := 0, stage := .dispatched }, up |>.upd (fun s => s.wr OAS.STATE (4)) |>.upd (fun s => { s with que := { s.que with cmds := [{ tag := 3, slice := 0, qp := 0, place := 0, at_ := 0, loc := false, atomic := false, entry := ent [(0, 21), (12, 18), (16, 50), (24, 1), (49, 64), (57, 16)], sqHead := 0, stage := .dispatched }] } }), by decide +kernel⟩,
   ⟨3, { tag := 3, slice := 0, qp := 0, place := 0, at_ := 0, loc := false, atomic := false, entry := ent [(0, 21), (12, 18), (16, 50), (24, 1), (49, 64), (57, 16)], sqHead := 0, stage := .dispatched }, up |>.upd (fun s => s.wr OAS.STATE (2)) |>.upd (fun s => { s with que := { s.que with cmds := [{ tag := 3, slice := 0, qp := 0, place := 0, at_ := 0, loc := false, atomic := false, entry := ent [(0, 21), (12, 18), (16, 50), (24, 1), (49, 64), (57, 16)], sqHead := 0, stage := .dispatched }] } }), by decide +kernel⟩,
   ⟨3, { tag := 3, slice := 0, qp := 0, place := 0, at_ := 0, loc := false, atomic := false, entry := ent [(0, 22), (12, 18), (16, 50), (24, 1), (49, 64), (57, 16)], sqHead := 0, stage := .dispatched }, up |>.upd (fun s => s.wr OAS.STATE (4)) |>.upd (fun s => { s with mem := { s.mem with ueTab := [] } }) |>.upd (fun s => { s with que := { s.que with cmds := [{ tag := 3, slice := 0, qp := 0, place := 0, at_ := 0, loc := false, atomic := false, entry := ent [(0, 22), (12, 18), (16, 50), (24, 1), (49, 64), (57, 16)], sqHead := 0, stage := .dispatched }] } }), by decide +kernel⟩⟩

/-- What `DeviceCommandsComplete` assumes can hold. -/
theorem witness_deviceCommandsComplete :
    (∃ (tag : Nat) (c : Cmd) (s : State), s.atHostTurn tag c ∧ servoIs 0 c = true ∧ c.started = true ∧ s.pageDown 0x04 = false ∧ s.pageDown 0x05 = false ∧ s.pageDown 0x08 = false ∧ s.mechLatched = false) ∧
    (∃ (tag : Nat) (c : Cmd) (s : State), s.atHostTurn tag c ∧ servoIs 2 c = true ∧ c.started = true ∧ s.pageDown 0x04 = false ∧ s.pageDown 0x05 = false ∧ s.pageDown 0x08 = false ∧ s.mechLatched = false) ∧
    (∃ (tag : Nat) (c : Cmd) (s : State), s.atHostTurn tag c ∧ servoIs 3 c = true ∧ c.started = true ∧ s.pageDown 0x04 = false ∧ s.pageDown 0x05 = false ∧ s.pageDown 0x08 = false ∧ s.mechLatched = false) ∧
    (∃ (tag : Nat) (c : Cmd) (s : State), s.atHostTurn tag c ∧ servoIs 1 c = true ∧ c.started = true ∧ s.pageDown 0x04 = false ∧ s.pageDown 0x05 = false ∧ s.pageDown 0x08 = false ∧ s.mechLatched = false ∧ s.drv.seek = none ∧ (s.drv.seeks = [])) ∧
    (∃ (tag : Nat) (c : Cmd) (s : State), s.atHostTurn tag c ∧ nativeIs 0x48 c = true ∧ (s.pagesFree [0x03]) ∧ c.started = false) ∧
    (∃ (tag : Nat) (c : Cmd) (s : State), s.atHostTurn tag c ∧ nativeIs 0x49 c = true ∧ (s.pagesFree [0x03]) ∧ c.started = false ∧ bit c.param0 0 = true) ∧
    (∃ (tag : Nat) (c : Cmd) (s : State), s.atHostTurn tag c ∧ nativeIs 0x4A c = true ∧ (s.pagesFree [0x03]) ∧ 256 ≤ c.dlen) ∧
    (∃ (tag : Nat) (c : Cmd) (s : State), s.atHostTurn tag c ∧ nativeIs 0x50 c = true ∧ (s.pagesFree [0x15]) ∧ (s.xferCount c.block c.count (s.rd REC.NEXT_RSN) (c.dlen / 32) = c.count) ∧ (s.dumpRecs c.block c.count).2 = false) ∧
    (∃ (tag : Nat) (c : Cmd) (s : State), s.atHostTurn tag c ∧ nativeIs 0x51 c = true ∧ (s.pagesFree [0x15]) ∧ c.started = false ∧ s.storeOk = true ∧ s.recd.eraseTag = none ∧ s.is REC.FLUSHING = false) ∧
    (∃ (tag : Nat) (c : Cmd) (s : State), s.atHostTurn tag c ∧ nativeIs 0x58 c = true ∧ c.traceOp = 0 ∧ (s.pagesFree [0x16]) ∧ c.started = false ∧ s.is TRC.RUNNING = false ∧ (8 ≤ Nat.log2 (c.dlen / 16)) ∧ (Nat.log2 (c.dlen / 16) ≤ 24)) ∧
    (∃ (tag : Nat) (c : Cmd) (s : State), s.atHostTurn tag c ∧ nativeIs 0x58 c = true ∧ c.traceOp = 1 ∧ (s.pagesFree [0x16]) ∧ s.is TRC.RUNNING = false) ∧
    (∃ (tag : Nat) (c : Cmd) (s : State), s.atHostTurn tag c ∧ nativeIs 0x58 c = true ∧ (c.param0 % 4 = 2) ∧ (s.pagesFree [0x16])) ∧
    (∃ (tag : Nat) (stop : Nat) (how : PlayEnd) (c : Cmd) (s : State), s.atHostTurn tag c ∧ nativeIs 0x60 c = true ∧ c.started = false ∧ (s.pagesFree [0x0A, 0x0B, 0x14]) ∧ s.medium = .ok ∧ s.isDvd = false ∧ s.audioBlock c.block = true ∧ s.aud.play = none ∧ (c.count ≤ s.drv.toc.leadOut - c.block) ∧ (s.playRange c.block c.count = (stop, how)) ∧ c.block < stop ∧ s.rd (Hdr.HOOK 0x0B) = 0 ∧ s.rd TIME.STATE = 0 ∧ s.pow.entry = none) ∧
    (∃ (tag : Nat) (c : Cmd) (s : State), s.atHostTurn tag c ∧ nativeIs 0x61 c = true ∧ c.started = false ∧ (s.pagesFree [0x14]) ∧ s.aud.play = none) ∧
    (∃ (tag : Nat) (c : Cmd) (p : Play) (s : State), s.atHostTurn tag c ∧ nativeIs 0x61 c = true ∧ c.started = false ∧ (s.pagesFree [0x14]) ∧ s.aud.play = some p ∧ p.tag ≠ tag ∧ (s.aud.stops = []) ∧ s.rd AUD.STATE ≠ 3 ∧ (s.mem.ueTab = [])) :=
  ⟨⟨3, { tag := 3, slice := 0, qp := 0, place := 0, at_ := 0, loc := false, atomic := false, entry := ent [(0, 64), (49, 64), (57, 16)], sqHead := 0, stage := .dispatched, started := true }, up |>.upd (fun s => { s with que := { s.que with cmds := [{ tag := 3, slice := 0, qp := 0, place := 0, at_ := 0, loc := false, atomic := false, entry := ent [(0, 64), (49, 64), (57, 16)], sqHead := 0, stage := .dispatched, started := true }] } }), by decide +kernel⟩,
   ⟨3, { tag := 3, slice := 0, qp := 0, place := 0, at_ := 0, loc := false, atomic := false, entry := ent [(0, 64), (28, 2), (49, 64), (57, 16)], sqHead := 0, stage := .dispatched, started := true }, up |>.upd (fun s => { s with que := { s.que with cmds := [{ tag := 3, slice := 0, qp := 0, place := 0, at_ := 0, loc := false, atomic := false, entry := ent [(0, 64), (28, 2), (49, 64), (57, 16)], sqHead := 0, stage := .dispatched, started := true }] } }), by decide +kernel⟩,
   ⟨3, { tag := 3, slice := 0, qp := 0, place := 0, at_ := 0, loc := false, atomic := false, entry := ent [(0, 64), (28, 3), (49, 64), (57, 16)], sqHead := 0, stage := .dispatched, started := true }, up |>.upd (fun s => { s with que := { s.que with cmds := [{ tag := 3, slice := 0, qp := 0, place := 0, at_ := 0, loc := false, atomic := false, entry := ent [(0, 64), (28, 3), (49, 64), (57, 16)], sqHead := 0, stage := .dispatched, started := true }] } }), by decide +kernel⟩,
   ⟨3, { tag := 3, slice := 0, qp := 0, place := 0, at_ := 0, loc := false, atomic := false, entry := ent [(0, 64), (28, 1), (49, 64), (57, 16)], sqHead := 0, stage := .dispatched, started := true }, up |>.upd (fun s => { s with drv := { s.drv with seek := none } }) |>.upd (fun s => { s with drv := { s.drv with seeks := [] } }) |>.upd (fun s => { s with que := { s.que with cmds := [{ tag := 3, slice := 0, qp := 0, place := 0, at_ := 0, loc := false, atomic := false, entry := ent [(0, 64), (28, 1), (49, 64), (57, 16)], sqHead := 0, stage := .dispatched, started := true }] } }), by decide +kernel⟩,
   ⟨3, { tag := 3, slice := 0, qp := 0, place := 0, at_ := 0, loc := false, atomic := false, entry := ent [(0, 72)], sqHead := 0, stage := .dispatched }, up |>.upd (fun s => { s with que := { s.que with cmds := [{ tag := 3, slice := 0, qp := 0, place := 0, at_ := 0, loc := false, atomic := false, entry := ent [(0, 72)], sqHead := 0, stage := .dispatched }] } }), by decide +kernel⟩,
   ⟨3, { tag := 3, slice := 0, qp := 0, place := 0, at_ := 0, loc := false, atomic := false, entry := ent [(0, 73), (28, 1)], sqHead := 0, stage := .dispatched }, up |>.upd (fun s => { s with que := { s.que with cmds := [{ tag := 3, slice := 0, qp := 0, place := 0, at_ := 0, loc := false, atomic := false, entry := ent [(0, 73), (28, 1)], sqHead := 0, stage := .dispatched }] } }), by decide +kernel⟩,
   ⟨3, { tag := 3, slice := 0, qp := 0, place := 0, at_ := 0, loc := false, atomic := false, entry := ent [(0, 74), (49, 64), (57, 16)], sqHead := 0, stage := .dispatched }, up |>.upd (fun s => { s with que := { s.que with cmds := [{ tag := 3, slice := 0, qp := 0, place := 0, at_ := 0, loc := false, atomic := false, entry := ent [(0, 74), (49, 64), (57, 16)], sqHead := 0, stage := .dispatched }] } }), by decide +kernel⟩,
   ⟨3, { tag := 3, slice := 0, qp := 0, place := 0, at_ := 0, loc := false, atomic := false, entry := ent [(0, 80), (24, 2), (49, 64), (57, 16)], sqHead := 0, stage := .dispatched }, up |>.upd (fun s => { s with que := { s.que with cmds := [{ tag := 3, slice := 0, qp := 0, place := 0, at_ := 0, loc := false, atomic := false, entry := ent [(0, 80), (24, 2), (49, 64), (57, 16)], sqHead := 0, stage := .dispatched }] } }) |>.upd (fun s => { s with recd := { s.recd with ring := [{ rsn := 0, early := false, body := { opSeconds := 0, powerCycles := 0, sev := 0, code := 3, page := 2, slice := 0, repeats := 1, data := [], lastDelta := 0 } }, { rsn := 1, early := false, body := { opSeconds := 9, powerCycles := 0, sev := 0, code := 3, page := 2, slice := 0, repeats := 1, data := [], lastDelta := 0 } }] } }) |>.upd (fun s => s.wr REC.NEXT_RSN (2)), by decide +kernel⟩,
   ⟨3, { tag := 3, slice := 0, qp := 0, place := 0, at_ := 0, loc := false, atomic := false, entry := ent [(0, 81), (24, 2)], sqHead := 0, stage := .dispatched }, up |>.upd (fun s => { s with recd := { s.recd with eraseTag := none } }) |>.upd (fun s => s.wr REC.FLUSHING 0) |>.upd (fun s => { s with que := { s.que with cmds := [{ tag := 3, slice := 0, qp := 0, place := 0, at_ := 0, loc := false, atomic := false, entry := ent [(0, 81), (24, 2)], sqHead := 0, stage := .dispatched }] } }) |>.upd (fun s => { s with recd := { s.recd with ring := [{ rsn := 0, early := false, body := { opSeconds := 0, powerCycles := 0, sev := 0, code := 3, page := 2, slice := 0, repeats := 1, data := [], lastDelta := 0 } }, { rsn := 1, early := false, body := { opSeconds := 9, powerCycles := 0, sev := 0, code := 3, page := 2, slice := 0, repeats := 1, data := [], lastDelta := 0 } }] } }) |>.upd (fun s => s.wr REC.NEXT_RSN (2)) |>.upd (fun s => s.wr OAS.STATE (4)), by decide +kernel⟩,
   ⟨3, { tag := 3, slice := 0, qp := 0, place := 0, at_ := 0, loc := false, atomic := false, entry := ent [(0, 88), (29, 19), (49, 64), (57, 64)], sqHead := 0, stage := .dispatched }, up |>.upd (fun s => s.wr TRC.RUNNING 0) |>.upd (fun s => { s with que := { s.que with cmds := [{ tag := 3, slice := 0, qp := 0, place := 0, at_ := 0, loc := false, atomic := false, entry := ent [(0, 88), (29, 19), (49, 64), (57, 64)], sqHead := 0, stage := .dispatched }] } }), by decide +kernel⟩,
   ⟨3, { tag := 3, slice := 0, qp := 0, place := 0, at_ := 0, loc := false, atomic := false, entry := ent [(0, 88), (28, 1)], sqHead := 0, stage := .dispatched }, up |>.upd (fun s => s.wr TRC.RUNNING 0) |>.upd (fun s => { s with que := { s.que with cmds := [{ tag := 3, slice := 0, qp := 0, place := 0, at_ := 0, loc := false, atomic := false, entry := ent [(0, 88), (28, 1)], sqHead := 0, stage := .dispatched }] } }), by decide +kernel⟩,
   ⟨3, { tag := 3, slice := 0, qp := 0, place := 0, at_ := 0, loc := false, atomic := false, entry := ent [(0, 88), (28, 2), (29, 19)], sqHead := 0, stage := .dispatched }, up |>.upd (fun s => { s with que := { s.que with cmds := [{ tag := 3, slice := 0, qp := 0, place := 0, at_ := 0, loc := false, atomic := false, entry := ent [(0, 88), (28, 2), (29, 19)], sqHead := 0, stage := .dispatched }] } }), by decide +kernel⟩,
   ⟨3, 70, .range, { tag := 3, slice := 0, qp := 0, place := 0, at_ := 0, loc := false, atomic := false, entry := ent [(0, 96), (16, 50), (24, 20)], sqHead := 0, stage := .dispatched }, up |>.upd (fun s => { s with aud := { s.aud with play := none } }) |>.upd (fun s => s.wr (Hdr.HOOK 0x0B) (0)) |>.upd (fun s => s.wr TIME.STATE (0)) |>.upd (fun s => { s with pow := { s.pow with entry := none } }) |>.upd (fun s => { s with que := { s.que with cmds := [{ tag := 3, slice := 0, qp := 0, place := 0, at_ := 0, loc := false, atomic := false, entry := ent [(0, 96), (16, 50), (24, 20)], sqHead := 0, stage := .dispatched }] } }) |>.upd (fun s => s.wr LDR.STATE (6)) |>.upd (fun s => s.wr LDR.DISC (1)) |>.upd (fun s => { s with drv := { s.drv with toc := { leadOut := 100, tracks := [{ number := 1, first := 0, control := 0 }] } } }), by decide +kernel⟩,
   ⟨3, { tag := 3, slice := 0, qp := 0, place := 0, at_ := 0, loc := false, atomic := false, entry := ent [(0, 97)], sqHead := 0, stage := .dispatched }, up |>.upd (fun s => { s with aud := { s.aud with play := none } }) |>.upd (fun s => { s with que := { s.que with cmds := [{ tag := 3, slice := 0, qp := 0, place := 0, at_ := 0, loc := false, atomic := false, entry := ent [(0, 97)], sqHead := 0, stage := .dispatched }] } }), by decide +kernel⟩,
   ⟨3, { tag := 3, slice := 0, qp := 0, place := 0, at_ := 0, loc := false, atomic := false, entry := ent [(0, 97)], sqHead := 0, stage := .dispatched }, { tag := 7, next := 60, stop := 70, how := .range, lastOut := some 55 }, up |>.upd (fun s => { s with aud := { s.aud with play := some ({ tag := 7, next := 60, stop := 70, how := .range, lastOut := some 55 } : Play) } }) |>.upd (fun s => { s with aud := { s.aud with stops := [] } }) |>.upd (fun s => { s with mem := { s.mem with ueTab := [] } }) |>.upd (fun s => { s with que := { s.que with cmds := [{ tag := 3, slice := 0, qp := 0, place := 0, at_ := 0, loc := false, atomic := false, entry := ent [(0, 97)], sqHead := 0, stage := .dispatched }] } }) |>.upd (fun s => { s with aud := { s.aud with play := some ({ tag := 7, next := 60, stop := 70, how := .range, lastOut := some 55 } : Play) } }) |>.upd (fun s => s.wr AUD.STATE (2)), by decide +kernel⟩⟩

/-- What `RemoteCommandsAreCarried` assumes can hold. -/
theorem witness_remoteCommandsAreCarried :
    (∃ (tag : Nat) (x : Nat) (c : Cmd) (s : State), s.atTurn tag = some c ∧ c.loc = false ∧ nativeIs 0x10 c = true ∧ isRemote (s.localNs c.nsid) = true ∧ c.started = false ∧ s.rylUp = true ∧ s.is (Hdr.QUIESCE 0x13) = false ∧ s.routeUp (remoteNode (s.localNs c.nsid)) = some x) ∧
    (∃ (tag : Nat) (c : Cmd) (s : State), s.atTurn tag = some c ∧ c.loc = false ∧ nativeIs 0x10 c = true ∧ isRemote (s.localNs c.nsid) = true ∧ c.started = false ∧ s.rylUp = true ∧ s.is (Hdr.QUIESCE 0x13) = false ∧ s.routeUp (remoteNode (s.localNs c.nsid)) = none) :=
  ⟨⟨3, 1, { tag := 3, slice := 0, qp := 0, place := 0, at_ := 0, loc := false, atomic := false, entry := ent [(0, 16), (12, 1), (13, 5), (15, 128), (16, 50), (24, 1), (49, 64), (57, 16)], sqHead := 0, stage := .dispatched }, up |>.upd (fun s => s.wr (Hdr.QUIESCE 0x13) 0) |>.upd (fun s => { s with que := { s.que with cmds := [{ tag := 3, slice := 0, qp := 0, place := 0, at_ := 0, loc := false, atomic := false, entry := ent [(0, 16), (12, 1), (13, 5), (15, 128), (16, 50), (24, 1), (49, 64), (57, 16)], sqHead := 0, stage := .dispatched }] } }) |>.upd (fun s => { s with ryl := { s.ryl with routes := [(5, 1, 1)] } }) |>.upd (fun s => s.wr (RYL.UP.at 1) (1)), by decide +kernel⟩,
   ⟨3, { tag := 3, slice := 0, qp := 0, place := 0, at_ := 0, loc := false, atomic := false, entry := ent [(0, 16), (12, 1), (13, 5), (15, 128), (16, 50), (24, 1), (49, 64), (57, 16)], sqHead := 0, stage := .dispatched }, up |>.upd (fun s => s.wr (Hdr.QUIESCE 0x13) 0) |>.upd (fun s => { s with que := { s.que with cmds := [{ tag := 3, slice := 0, qp := 0, place := 0, at_ := 0, loc := false, atomic := false, entry := ent [(0, 16), (12, 1), (13, 5), (15, 128), (16, 50), (24, 1), (49, 64), (57, 16)], sqHead := 0, stage := .dispatched }] } }), by decide +kernel⟩⟩

/-- What `NandCommandsComplete` assumes can hold. -/
theorem witness_nandCommandsComplete :
    (∃ (die : Nat) (block : Nat) (page : Nat) (wp : Bool) (s : State), s.oasUp = true ∧ s.rd OAS.STATE = 4 ∧ die ∉ s.lib.dead ∧ dbGet s.nand.ptrs die block ≤ page ∧ s.rd (Hdr.HOOK 0x12) = 0 ∧ (s.rd OAS.PAGES_PROGRAMMED < 2 ^ 32 - 1)) ∧
    (∃ (die : Nat) (block : Nat) (page : Nat) (n : Nat) (wp : Bool) (w : LibWrite) (c : Cmd) (s : State), s.oasUp = true ∧ s.rd OAS.STATE = 4 ∧ die ∉ s.lib.dead ∧ dbGet s.nand.ptrs die block ≤ page ∧ s.rd (Hdr.HOOK 0x12) = 0 ∧ (s.nand.writes = [w]) ∧ w.live = true ∧ w.trim = false ∧ w.atomic = false ∧ w.count = 1 ∧ w.programmed = 0 ∧ 1 ≤ n ∧ s.cmd w.tag = some c ∧ c.stage ≠ .ended ∧ (s.cachedAt (0x10 + w.ns) w.block = none) ∧ (s.rd OAS.COMMITS < 2 ^ 32 - 1)) ∧
    (∃ (die : Nat) (block : Nat) (page : Nat) (wp : Bool) (s : State), s.oasUp = true ∧ s.rd OAS.STATE = 4 ∧ die ∉ s.lib.dead ∧ dbGet s.nand.ptrs die block ≤ page ∧ s.rd (Hdr.HOOK 0x12) = 0 ∧ 0 < s.sparesLeft die ∧ s.failRunOf die < 15 ∧ (s.rd OAS.PROG_FAILS < 2 ^ 16 - 1) ∧ (s.rd OAS.GROWN_BAD < 2 ^ 16 - 1)) ∧
    (∃ (die : Nat) (block : Nat) (wp : Bool) (s : State), s.oasUp = true ∧ s.rd OAS.STATE = 4 ∧ die ∉ s.lib.dead ∧ s.rd (Hdr.HOOK 0x12) = 0) ∧
    (∃ (tag : Nat) (die : Nat) (r : SectorRead) (c : Cmd) (s : State), s.oasUp = true ∧ s.rd OAS.STATE = 4 ∧ die ∉ s.lib.dead ∧ s.rd (Hdr.HOOK 0x12) = 0 ∧ (r.first ≠ []) ∧ (∀ o ∈ r.first, ∃ n, o = some n ∧ n ≤ 72) ∧ s.cmd tag = some c ∧ (s.rd OAS.PAGES_READ < 2 ^ 32 - 1)) ∧
    (∃ (tag : Nat) (die : Nat) (r : SectorRead) (c : Cmd) (s : State), s.oasUp = true ∧ s.rd OAS.STATE = 4 ∧ die ∉ s.lib.dead ∧ s.rd (Hdr.HOOK 0x12) = 0 ∧ none ∈ r.first ∧ none ∈ r.again ∧ none ∈ r.last ∧ s.cmd tag = some c ∧ (s.rd OAS.READ_RETRIES < 2 ^ 16 - 1) ∧ (s.rd OAS.BCH_FAILS < 2 ^ 16 - 1)) ∧
    (∃ (die : Nat) (beyond : Bool) (s : State), s.oasUp = true ∧ die ∉ s.lib.dead ∧ die < 8) ∧
    (∃ (die : Nat) (block : Nat) (s : State), s.oasUp = true ∧ s.pow.pfHeld = false ∧ s.rd OAS.STATE = 4 ∧ s.is (Hdr.QUIESCE 0x12) = false ∧ die ∉ s.lib.dead) ∧
    (∃ (s : State), PageUp s 0x12 ∧ s.rd OAS.RAW_GO = 0 ∧ 1 ≤ s.rd OAS.STATE ∧ 5 ≤ s.rd MEM.HOST_NOW) ∧
    (∃ (s : State), PageUp s 0x12 ∧ s.rd OAS.RAW_GO = 0 ∧ 1 ≤ s.rd OAS.STATE ∧ 5 ≤ s.rd MEM.HOST_NOW) ∧
    (∃ (s : State), PageUp s 0x12 ∧ s.rd OAS.RAW_GO = 0 ∧ 1 ≤ s.rd OAS.STATE ∧ (¬(3 ≤ s.rd OAS.STATE ∧ s.rd OAS.STATE ≤ 5)) ∧ 5 ≤ s.rd MEM.HOST_NOW ∧ (s.ptrKnown (s.rd OAS.RAW_DIE) (s.rd OAS.RAW_BLOCK) = true → dbGet s.nand.ptrs (s.rd OAS.RAW_DIE) (s.rd OAS.RAW_BLOCK) ≤ s.rd OAS.RAW_PAGE) ∧ s.mem.parityFaults = 0 ∧ (∀ w ∈ wordsOf (s.rd OAS.RAW_BUF * 0x1000) 16512, s.synd w = 0)) ∧
    (∃ (s : State), PageUp s 0x12 ∧ s.rd OAS.RAW_GO = 0 ∧ 1 ≤ s.rd OAS.STATE ∧ (¬(3 ≤ s.rd OAS.STATE ∧ s.rd OAS.STATE ≤ 5)) ∧ 5 ≤ s.rd MEM.HOST_NOW) ∧
    (∃ (s : State), PageUp s 0x12 ∧ s.rd OAS.RAW_GO = 0 ∧ s.rd OAS.STATE = 4 ∧ 5 ≤ s.rd MEM.HOST_NOW ∧ OAS.RAW_GO.key ∉ s.goWait) ∧
    (∃ (d : Nat) (b : Nat) (p : Nat) (buf : Nat) (r : RawResult) (s : State), (s.lib.raw = some (3, d, b, p, buf)) ∧ s.oasUp = true ∧ s.rd (Hdr.HOOK 0x12) = 0 ∧ r.ok = true ∧ OAS.RAW_GO.key ∉ s.goWait) ∧
    (∃ (d : Nat) (b : Nat) (p : Nat) (buf : Nat) (r : RawResult) (s : State), (s.lib.raw = some (0, d, b, p, buf)) ∧ s.oasUp = true ∧ s.rd (Hdr.HOOK 0x12) = 0 ∧ RawErased r = false ∧ (∀ o ∈ r.bits, ∃ n, o = some n ∧ n ≤ 72) ∧ r.data.length = 16512 ∧ OAS.RAW_GO.key ∉ s.goWait ∧ s.mem.parityFaults = 0 ∧ s.rd (Hdr.HOOK 0x0E) = 0 ∧ (buf * 0x1000 + 16512 ≤ cacheBytes) ∧ (∀ w ∈ wordsOf (buf * 0x1000) 16512, s.synd w = 0)) :=
  ⟨⟨0, 0, 0, true, up |>.upd (fun s => s.wr OAS.STATE (4)) |>.upd (fun s => s.wr (Hdr.HOOK 0x12) (0)), by decide +kernel⟩,
   ⟨0, 0, 0, 1, true, { tag := 3, atomic := false, trim := false, ns := 1, block := 5, count := 1, seq := 9, data := List.replicate 2048 1 }, { tag := 3, slice := 0, qp := 0, place := 0, at_ := 0, loc := false, atomic := false, entry := ent [(0, 17), (12, 17), (16, 50), (24, 1), (49, 64), (57, 16)], sqHead := 0, stage := .dispatched }, up |>.upd (fun s => s.wr OAS.STATE (4)) |>.upd (fun s => s.wr (Hdr.HOOK 0x12) (0)) |>.upd (fun s => { s with nand := { s.nand with writes := [({ tag := 3, atomic := false, trim := false, ns := 1, block := 5, count := 1, seq := 9, data := List.replicate 2048 1 } : LibWrite)] } }) |>.upd (fun s => { s with que := { s.que with cmds := [{ tag := 3, slice := 0, qp := 0, place := 0, at_ := 0, loc := false, atomic := false, entry := ent [(0, 17), (12, 17), (16, 50), (24, 1), (49, 64), (57, 16)], sqHead := 0, stage := .dispatched }] } }) |>.upd (fun s => { s with nand := { s.nand with writes := [({ tag := 3, atomic := false, trim := false, ns := 1, block := 5, count := 1, seq := 9, data := List.replicate 2048 1 } : LibWrite)] } }), by decide +kernel⟩,
   ⟨0, 0, 0, true, up |>.upd (fun s => s.wr OAS.STATE (4)) |>.upd (fun s => s.wr (Hdr.HOOK 0x12) (0)), by decide +kernel⟩,
   ⟨0, 0, true, up |>.upd (fun s => s.wr OAS.STATE (4)) |>.upd (fun s => s.wr (Hdr.HOOK 0x12) (0)), by decide +kernel⟩,
   ⟨3, 0, { ns := 1, block := 5, first := [some 3] }, { tag := 3, slice := 0, qp := 0, place := 0, at_ := 0, loc := false, atomic := false, entry := ent [(0, 16), (12, 17), (16, 50), (24, 1), (49, 64), (57, 16)], sqHead := 0, stage := .dispatched }, up |>.upd (fun s => s.wr OAS.STATE (4)) |>.upd (fun s => s.wr (Hdr.HOOK 0x12) (0)) |>.upd (fun s => { s with que := { s.que with cmds := [{ tag := 3, slice := 0, qp := 0, place := 0, at_ := 0, loc := false, atomic := false, entry := ent [(0, 16), (12, 17), (16, 50), (24, 1), (49, 64), (57, 16)], sqHead := 0, stage := .dispatched }] } }), by decide +kernel⟩,
   ⟨3, 0, { ns := 1, block := 5, first := [some 3, none], again := [none], last := [none] }, { tag := 3, slice := 0, qp := 0, place := 0, at_ := 0, loc := false, atomic := false, entry := ent [(0, 16), (12, 17), (16, 50), (24, 1), (49, 64), (57, 16)], sqHead := 0, stage := .dispatched }, up |>.upd (fun s => s.wr OAS.STATE (4)) |>.upd (fun s => s.wr (Hdr.HOOK 0x12) (0)) |>.upd (fun s => { s with que := { s.que with cmds := [{ tag := 3, slice := 0, qp := 0, place := 0, at_ := 0, loc := false, atomic := false, entry := ent [(0, 16), (12, 17), (16, 50), (24, 1), (49, 64), (57, 16)], sqHead := 0, stage := .dispatched }] } }), by decide +kernel⟩,
   ⟨0, true, up, by decide +kernel⟩,
   ⟨0, 0, up |>.upd (fun s => { s with pow := { s.pow with pfHeld := false } }) |>.upd (fun s => s.wr OAS.STATE (4)) |>.upd (fun s => s.wr (Hdr.QUIESCE 0x12) 0), by decide +kernel⟩,
   ⟨up |>.upd (fun s => s.wr OAS.RAW_GO (0)) |>.upd (fun s => s.wr OAS.STATE 1) |>.upd (fun s => s.wr MEM.HOST_NOW 5), by decide +kernel⟩,
   ⟨up |>.upd (fun s => s.wr OAS.RAW_GO (0)) |>.upd (fun s => s.wr OAS.STATE 1) |>.upd (fun s => s.wr MEM.HOST_NOW 5), by decide +kernel⟩,
   ⟨up |>.upd (fun s => s.wr OAS.RAW_GO (0)) |>.upd (fun s => s.wr OAS.STATE 1) |>.upd (fun s => s.wr MEM.HOST_NOW 5) |>.upd (fun s => { s with mem := { s.mem with parityFaults := 0 } }), by decide +kernel⟩,
   ⟨up |>.upd (fun s => s.wr OAS.RAW_GO (0)) |>.upd (fun s => s.wr OAS.STATE 1) |>.upd (fun s => s.wr MEM.HOST_NOW 5), by decide +kernel⟩,
   ⟨up |>.upd (fun s => s.wr OAS.RAW_GO (0)) |>.upd (fun s => s.wr OAS.STATE (4)) |>.upd (fun s => s.wr MEM.HOST_NOW 5), by decide +kernel⟩,
   ⟨0, 0, 0, 0, {}, up |>.upd (fun s => { s with lib := { s.lib with raw := some (3, 0, 0, 0, 0) } }) |>.upd (fun s => s.wr (Hdr.HOOK 0x12) (0)), by decide +kernel⟩,
   ⟨1, 5, 6, 2, { bits := [some 3], data := List.replicate 16512 7 }, up |>.upd (fun s => { s with lib := { s.lib with raw := some (0, 1, 5, 6, 2) } }) |>.upd (fun s => s.wr (Hdr.HOOK 0x12) (0)) |>.upd (fun s => { s with mem := { s.mem with parityFaults := 0 } }) |>.upd (fun s => s.wr (Hdr.HOOK 0x0E) (0)) |>.upd (fun s => { s with lib := { s.lib with raw := some (0, 1, 5, 6, 2) } }) |>.upd (fun s => s.wr OAS.RAW_GO (1)), by decide +kernel⟩⟩

/-- What `MountAndShadowComplete` assumes can hold. -/
theorem witness_mountAndShadowComplete :
    (∃ (s : State), s.rd OAS.STATE = 3 ∧ s.oasUp = true ∧ s.pow.pfHeld = false ∧ s.nand.formatted = true ∧ s.nand.geom = s.geomNow ∧ (s.nand.writes = []) ∧ s.is (Hdr.GATED 0x00) = false) ∧
    (∃ (fail : Bool) (s : State), s.rd OAS.STATE = 3 ∧ s.oasUp = true ∧ s.pow.pfHeld = false) ∧
    (∃ (x : ShadowSec) (r : List ShadowSec) (s : State), (s.lib.shadowQ = x :: r) ∧ s.oasUp = true ∧ s.pow.pfHeld = false ∧ s.rd OAS.STATE = 4 ∧ (∀ y ∈ s.nand.shadow, ¬(y.ident = x.ident ∧ y.layer = x.layer ∧ y.addr = x.addr)) ∧ ((s.nand.shadow.filter fun y => y.ident == x.ident).length < 16384) ∧ s.nand.shadow.length < s.shadowCap) :=
  ⟨⟨up |>.upd (fun s => s.wr OAS.STATE (3)) |>.upd (fun s => { s with pow := { s.pow with pfHeld := false } }) |>.upd (fun s => { s with nand := { s.nand with formatted := true } }) |>.upd (fun s => { s with nand := { s.nand with geom := s.geomNow } }) |>.upd (fun s => { s with nand := { s.nand with writes := [] } }) |>.upd (fun s => s.wr (Hdr.GATED 0x00) 0), by decide +kernel⟩,
   ⟨true, up |>.upd (fun s => s.wr OAS.STATE (3)) |>.upd (fun s => { s with pow := { s.pow with pfHeld := false } }), by decide +kernel⟩,
   ⟨{ ident := [], layer := 0, addr := 5, dvd := true, data := [1, 2] }, [], up |>.upd (fun s => { s with lib := { s.lib with shadowQ := ({ ident := [], layer := 0, addr := 5, dvd := true, data := [1, 2] } : ShadowSec) :: ([] : List ShadowSec) } }) |>.upd (fun s => { s with pow := { s.pow with pfHeld := false } }) |>.upd (fun s => s.wr OAS.STATE (4)), by decide +kernel⟩⟩

/-- What `RylLinkCommandsComplete` assumes can hold. -/
theorem witness_rylLinkCommandsComplete :
    (∃ (x : Nat) (s : State), x < 3 ∧ s.rylQuiet ∧ s.portLive x = true ∧ (s.rport x).gotHello = true ∧ (s.rport x).sentHello = true ∧ s.is (RYL.LOOP.at x) = false ∧ s.is (RYL.UP.at x) = false) ∧
    (∃ (x : Nat) (s : State), x < 3 ∧ s.rylQuiet ∧ s.portLive x = true ∧ s.is (RYL.UP.at x) = true) ∧
    (∃ (x : Nat) (unique : Nat) (n : Nat) (port : Nat) (c : Caravan) (s : State), x < 3 ∧ s.rylQuiet ∧ s.portLive x = true ∧ c.lseq = (s.rport x).rxNext ∧ (s.rd RYL.CARAVANS_RX < 2 ^ 32 - 1) ∧ c.body = .hello unique (some n) port ∧ unique ≠ ownUnique ∧ (s.rport x).sentHello = true) ∧
    (∃ (x : Nat) (port : Nat) (node : Option Nat) (c : Caravan) (s : State), x < 3 ∧ s.rylQuiet ∧ s.portLive x = true ∧ c.lseq = (s.rport x).rxNext ∧ (s.rd RYL.CARAVANS_RX < 2 ^ 32 - 1) ∧ c.body = .hello ownUnique node port ∧ s.is (RYL.UP.at x) = false ∧ s.rd (RYL.LOOP.at x) = 0) ∧
    (∃ (x : Nat) (s : State), x < 3 ∧ s.portLive x = true ∧ (s.rd RYL.SYMBOL_ERRS < 2 ^ 16 - 1)) ∧
    (∃ (x : Nat) (s : State), x < 3 ∧ s.rylQuiet ∧ s.portLive x = true) ∧
    (∃ (x : Nat) (s : State), x < 3 ∧ s.rylUp = true ∧ s.is (RYL.UP.at x) = false) ∧
    (∃ (x : Nat) (c : Caravan) (s : State), s.takes x c ∧ s.rylQuiet ∧ c.body = .reserved) ∧
    (∃ (x : Nat) (s : State), x < 3 ∧ s.portLive x = true ∧ (s.rd RYL.CRC_ERRS < 2 ^ 16 - 1)) ∧
    (∃ (x : Nat) (s : State), x < 3 ∧ s.portLive x = true) ∧
    (∃ (x : Nat) (q : QCar) (s : State), x < 3 ∧ s.portLive x = true ∧ s.ryl.ports.length = 3 ∧ ((s.rport x).unacked = [q]) ∧ ((s.rport x).queue = [])) ∧
    (∃ (x : Nat) (q : QCar) (s : State), x < 3 ∧ s.rylQuiet ∧ s.portLive x = true ∧ ((s.rport x).unacked = [q]) ∧ (s.rport x).replays < 3 ∧ (s.rd RYL.REPLAYS < 2 ^ 16 - 1)) ∧
    (∃ (x : Nat) (q : QCar) (s : State), x < 3 ∧ s.rylQuiet ∧ s.portLive x = true ∧ ((s.rport x).unacked = [q]) ∧ (s.rport x).replays < 3 ∧ (s.rd RYL.REPLAYS < 2 ^ 16 - 1)) ∧
    (∃ (x : Nat) (n : Nat) (s : State), x < 3 ∧ s.portLive x = true ∧ ((s.rport x).queue = [])) ∧
    (∃ (x : Nat) (q : QCar) (s : State), x < 3 ∧ pickNext (s.rport x) = some q ∧ s.rd (RYL.CREDITS.at x) < carCredits q.c ∧ s.is (Hdr.GATED 0x13) = false) ∧
    (∃ (x : Nat) (y : Nat) (q : QCar) (s : State), x < 3 ∧ s.ryl.ports.length = 3 ∧ ((s.rport x).queue = [q]) ∧ q.came = some y ∧ (s.rd RYL.FWD_DROPS < 2 ^ 16 - 1)) :=
  ⟨⟨1, up |>.upd (fun s => s.wr (RYL.LOOP.at 1) 0) |>.upd (fun s => s.wr (RYL.UP.at 1) 0) |>.upd (fun s => s.wr RYL.PORT_EN (7)) |>.upd (fun s => { s with ryl := { s.ryl with ports := s.ryl.ports.set 0 { s.rport 0 with sentHello := true } } }) |>.upd (fun s => { s with ryl := { s.ryl with ports := s.ryl.ports.set 2 { s.rport 2 with sentHello := true } } }) |>.upd (fun s => { s with ryl := { s.ryl with ports := s.ryl.ports.set 1 { s.rport 1 with sentHello := true, gotHello := true } } }), by decide +kernel⟩,
   ⟨1, up |>.upd (fun s => s.wr (RYL.UP.at 1) 1) |>.upd (fun s => s.wr RYL.PORT_EN (7)) |>.upd (fun s => s.wr (RYL.UP.at 1) (1)) |>.upd (fun s => { s with ryl := { s.ryl with ports := s.ryl.ports.set 0 { s.rport 0 with sentHello := true } } }) |>.upd (fun s => { s with ryl := { s.ryl with ports := s.ryl.ports.set 1 { s.rport 1 with sentHello := true } } }) |>.upd (fun s => { s with ryl := { s.ryl with ports := s.ryl.ports.set 2 { s.rport 2 with sentHello := true } } }) |>.upd (fun s => { s with ryl := { s.ryl with ports := s.ryl.ports.set 1 { s.rport 1 with unacked := [{ c := { body := .nsData [1, 2], lseq := 7 }, came := some 2 }] } } }), by decide +kernel⟩,
   ⟨1, 0x10000000000000005, 9, 2, { body := .hello 0x10000000000000005 (some 9) 2 }, up |>.upd (fun s => s.wr RYL.PORT_EN (7)) |>.upd (fun s => { s with ryl := { s.ryl with ports := s.ryl.ports.set 0 { s.rport 0 with sentHello := true } } }) |>.upd (fun s => { s with ryl := { s.ryl with ports := s.ryl.ports.set 1 { s.rport 1 with sentHello := true } } }) |>.upd (fun s => { s with ryl := { s.ryl with ports := s.ryl.ports.set 2 { s.rport 2 with sentHello := true } } }), by decide +kernel, by decide +kernel, by decide +kernel, by decide +kernel, by decide +kernel, by decide +kernel, by exact Nat.ne_of_gt (Nat.lt_of_lt_of_le ownUnique_lt (by decide +kernel)), by decide +kernel⟩,
   ⟨1, 2, none, { body := .hello ownUnique none 2 }, up |>.upd (fun s => s.wr (RYL.UP.at 1) 0) |>.upd (fun s => s.wr (RYL.LOOP.at 1) (0)) |>.upd (fun s => s.wr RYL.PORT_EN (7)) |>.upd (fun s => { s with ryl := { s.ryl with ports := s.ryl.ports.set 0 { s.rport 0 with sentHello := true } } }) |>.upd (fun s => { s with ryl := { s.ryl with ports := s.ryl.ports.set 1 { s.rport 1 with sentHello := true } } }) |>.upd (fun s => { s with ryl := { s.ryl with ports := s.ryl.ports.set 2 { s.rport 2 with sentHello := true } } }), by decide +kernel, by decide +kernel, by decide +kernel, by decide +kernel, by decide +kernel, by rfl, by decide +kernel, by decide +kernel⟩,
   ⟨0, up, by decide +kernel⟩,
   ⟨1, up |>.upd (fun s => s.wr RYL.PORT_EN (7)) |>.upd (fun s => { s with ryl := { s.ryl with ports := s.ryl.ports.set 0 { s.rport 0 with sentHello := true } } }) |>.upd (fun s => { s with ryl := { s.ryl with ports := s.ryl.ports.set 1 { s.rport 1 with sentHello := true } } }) |>.upd (fun s => { s with ryl := { s.ryl with ports := s.ryl.ports.set 2 { s.rport 2 with sentHello := true } } }) |>.upd (fun s => s.wr (RYL.UP.at 1) (1)), by decide +kernel⟩,
   ⟨0, up |>.upd (fun s => s.wr (RYL.UP.at 0) 0), by decide +kernel⟩,
   ⟨1, { body := .reserved }, up |>.upd (fun s => s.wr RYL.PORT_EN (7)) |>.upd (fun s => { s with ryl := { s.ryl with ports := s.ryl.ports.set 0 { s.rport 0 with sentHello := true } } }) |>.upd (fun s => { s with ryl := { s.ryl with ports := s.ryl.ports.set 1 { s.rport 1 with sentHello := true } } }) |>.upd (fun s => { s with ryl := { s.ryl with ports := s.ryl.ports.set 2 { s.rport 2 with sentHello := true } } }) |>.upd (fun s => s.wr (RYL.UP.at 1) (1)), by decide +kernel⟩,
   ⟨0, up, by decide +kernel⟩,
   ⟨0, up, by decide +kernel⟩,
   ⟨1, { c := { body := .nsData [1, 2], lseq := 7 }, came := some 2 }, up |>.upd (fun s => s.wr RYL.PORT_EN (7)) |>.upd (fun s => { s with ryl := { s.ryl with ports := s.ryl.ports.set 0 { s.rport 0 with sentHello := true } } }) |>.upd (fun s => { s with ryl := { s.ryl with ports := s.ryl.ports.set 1 { s.rport 1 with sentHello := true } } }) |>.upd (fun s => { s with ryl := { s.ryl with ports := s.ryl.ports.set 2 { s.rport 2 with sentHello := true } } }) |>.upd (fun s => s.wr (RYL.UP.at 1) (1)) |>.upd (fun s => { s with ryl := { s.ryl with ports := s.ryl.ports.set 1 { s.rport 1 with unacked := [({ c := { body := .nsData [1, 2], lseq := 7 }, came := some 2 } : QCar)] } } }), by decide +kernel⟩,
   ⟨1, { c := { body := .nsData [1, 2], lseq := 7 }, came := some 2 }, up |>.upd (fun s => s.wr RYL.PORT_EN (7)) |>.upd (fun s => { s with ryl := { s.ryl with ports := s.ryl.ports.set 0 { s.rport 0 with sentHello := true } } }) |>.upd (fun s => { s with ryl := { s.ryl with ports := s.ryl.ports.set 1 { s.rport 1 with sentHello := true } } }) |>.upd (fun s => { s with ryl := { s.ryl with ports := s.ryl.ports.set 2 { s.rport 2 with sentHello := true } } }) |>.upd (fun s => s.wr (RYL.UP.at 1) (1)) |>.upd (fun s => { s with ryl := { s.ryl with ports := s.ryl.ports.set 1 { s.rport 1 with unacked := [({ c := { body := .nsData [1, 2], lseq := 7 }, came := some 2 } : QCar)] } } }), by decide +kernel⟩,
   ⟨1, { c := { body := .nsData [1, 2], lseq := 7 }, came := some 2 }, up |>.upd (fun s => s.wr RYL.PORT_EN (7)) |>.upd (fun s => { s with ryl := { s.ryl with ports := s.ryl.ports.set 0 { s.rport 0 with sentHello := true } } }) |>.upd (fun s => { s with ryl := { s.ryl with ports := s.ryl.ports.set 1 { s.rport 1 with sentHello := true } } }) |>.upd (fun s => { s with ryl := { s.ryl with ports := s.ryl.ports.set 2 { s.rport 2 with sentHello := true } } }) |>.upd (fun s => s.wr (RYL.UP.at 1) (1)) |>.upd (fun s => { s with ryl := { s.ryl with ports := s.ryl.ports.set 1 { s.rport 1 with unacked := [({ c := { body := .nsData [1, 2], lseq := 7 }, came := some 2 } : QCar)] } } }), by decide +kernel⟩,
   ⟨0, 0, up, by decide +kernel⟩,
   ⟨1, { c := { body := .nsData [1, 2], lseq := 7 }, came := some 2 }, up |>.upd (fun s => s.wr (Hdr.GATED 0x13) 0) |>.upd (fun s => s.wr RYL.PORT_EN (7)) |>.upd (fun s => { s with ryl := { s.ryl with ports := s.ryl.ports.set 0 { s.rport 0 with sentHello := true } } }) |>.upd (fun s => { s with ryl := { s.ryl with ports := s.ryl.ports.set 1 { s.rport 1 with sentHello := true } } }) |>.upd (fun s => { s with ryl := { s.ryl with ports := s.ryl.ports.set 2 { s.rport 2 with sentHello := true } } }) |>.upd (fun s => s.wr (RYL.UP.at 1) (1)) |>.upd (fun s => { s with ryl := { s.ryl with ports := s.ryl.ports.set 1 { s.rport 1 with queue := [({ c := { body := .nsData [1, 2], lseq := 7 }, came := some 2 } : QCar)] } } }) |>.upd (fun s => s.wr (RYL.CREDITS.at 1) (0)), by decide +kernel⟩,
   ⟨1, 2, { c := { body := .nsData [1, 2], lseq := 7 }, came := some 2 }, up |>.upd (fun s => s.wr RYL.PORT_EN (7)) |>.upd (fun s => { s with ryl := { s.ryl with ports := s.ryl.ports.set 0 { s.rport 0 with sentHello := true } } }) |>.upd (fun s => { s with ryl := { s.ryl with ports := s.ryl.ports.set 1 { s.rport 1 with sentHello := true } } }) |>.upd (fun s => { s with ryl := { s.ryl with ports := s.ryl.ports.set 2 { s.rport 2 with sentHello := true } } }) |>.upd (fun s => s.wr (RYL.UP.at 1) (1)) |>.upd (fun s => { s with ryl := { s.ryl with ports := s.ryl.ports.set 1 { s.rport 1 with queue := [({ c := { body := .nsData [1, 2], lseq := 7 }, came := some 2 } : QCar)] } } }) |>.upd (fun s => s.wr (RYL.CREDITS.at 1) (0)), by decide +kernel⟩⟩

/-- What `RylElectionComplete` assumes can hold. -/
theorem witness_rylElectionComplete :
    (∃ (x : Nat) (p : Nat) (u : Nat) (h : Nat) (c : Caravan) (s : State), s.takes x c ∧ s.rylQuiet ∧ c.body = .elect p u h ∧ h < 256 ∧ s.ryl.ignore = none ∧ u ≠ ownUnique ∧ keyBetter p u s.bestNow.1 s.bestNow.2.1 = true) ∧
    (∃ (b : Best) (s : State), s.rylQuiet ∧ s.ryl.best = some b) ∧
    (∃ (s : State), s.rylQuiet ∧ s.ryl.best = none ∧ (s.ryl.roster = []) ∧ (s.ryl.reserved = []) ∧ s.is RYL.ID_VALID = false ∧ s.is RYL.PREF_EN = false ∧ s.ryl.lastId = none ∧ (s.mem.owners = [])) ∧
    (∃ (s : State), s.elderSettled) ∧
    (∃ (y : Nat) (s : State), y < 3 ∧ s.rylQuiet ∧ s.rd RYL.JOIN_STATE = 2 ∧ (s.rd RYL.ELDER_PORT = y + 1) ∧ s.is RYL.JOIN_EN = true) ∧
    (∃ (x : Nat) (y : Nat) (unique : Nat) (pref : Option Nat) (path : List Nat) (c : Caravan) (s : State), s.takes x c ∧ s.rylQuiet ∧ y < 3 ∧ c.body = .joinReq unique pref path ∧ (s.rd RYL.ELDER_PORT = y + 1) ∧ c.hops ≠ 0 ∧ s.is (RYL.UP.at y) = true ∧ (s.rd RYL.FORWARDED < 2 ^ 32 - 1)) ∧
    (∃ (x : Nat) (n : Nat) (c : Caravan) (s : State), s.takes x c ∧ s.rylQuiet ∧ (c.body = .joinGrant ownUnique n []) ∧ s.is RYL.ID_VALID = false) ∧
    (∃ (id : Nat) (s : State), s.is RYL.ELDER = true ∧ (∀ e ∈ s.ryl.roster, e.id ≠ id)) :=
  ⟨⟨1, 300, 0x10000000000000005, 3, { body := .elect 300 0x10000000000000005 3 }, up |>.upd (fun s => { s with ryl := { s.ryl with ignore := none } }) |>.upd (fun s => s.wr RYL.PORT_EN (7)) |>.upd (fun s => { s with ryl := { s.ryl with ports := s.ryl.ports.set 0 { s.rport 0 with sentHello := true } } }) |>.upd (fun s => { s with ryl := { s.ryl with ports := s.ryl.ports.set 1 { s.rport 1 with sentHello := true } } }) |>.upd (fun s => { s with ryl := { s.ryl with ports := s.ryl.ports.set 2 { s.rport 2 with sentHello := true } } }) |>.upd (fun s => s.wr (RYL.UP.at 1) (1)) |>.upd (fun s => s.wr RYL.PRIORITY (9)), by decide +kernel, by decide +kernel, by decide +kernel, by decide +kernel, by decide +kernel, by exact Nat.ne_of_gt (Nat.lt_of_lt_of_le ownUnique_lt (by decide +kernel)), by decide +kernel⟩,
   ⟨{ priority := 3, unique := 5, hops := 2, port := 1 }, up |>.upd (fun s => { s with ryl := { s.ryl with best := some ({ priority := 3, unique := 5, hops := 2, port := 1 } : Best) } }) |>.upd (fun s => s.wr RYL.PORT_EN (7)) |>.upd (fun s => { s with ryl := { s.ryl with ports := s.ryl.ports.set 0 { s.rport 0 with sentHello := true } } }) |>.upd (fun s => { s with ryl := { s.ryl with ports := s.ryl.ports.set 1 { s.rport 1 with sentHello := true } } }) |>.upd (fun s => { s with ryl := { s.ryl with ports := s.ryl.ports.set 2 { s.rport 2 with sentHello := true } } }) |>.upd (fun s => s.wr (RYL.UP.at 1) (1)) |>.upd (fun s => { s with ryl := { s.ryl with best := some ({ priority := 3, unique := 5, hops := 2, port := 1 } : Best) } }) |>.upd (fun s => s.wr RYL.JOIN_STATE (2)) |>.upd (fun s => s.wr RYL.ELDER_PORT (2)), by decide +kernel⟩,
   ⟨up |>.upd (fun s => { s with ryl := { s.ryl with best := none } }) |>.upd (fun s => { s with ryl := { s.ryl with roster := [] } }) |>.upd (fun s => { s with ryl := { s.ryl with reserved := [] } }) |>.upd (fun s => s.wr RYL.ID_VALID 0) |>.upd (fun s => s.wr RYL.PREF_EN 0) |>.upd (fun s => { s with ryl := { s.ryl with lastId := none } }) |>.upd (fun s => { s with mem := { s.mem with owners := [] } }) |>.upd (fun s => s.wr RYL.PORT_EN (7)) |>.upd (fun s => { s with ryl := { s.ryl with ports := s.ryl.ports.set 0 { s.rport 0 with sentHello := true } } }) |>.upd (fun s => { s with ryl := { s.ryl with ports := s.ryl.ports.set 1 { s.rport 1 with sentHello := true } } }) |>.upd (fun s => { s with ryl := { s.ryl with ports := s.ryl.ports.set 2 { s.rport 2 with sentHello := true } } }) |>.upd (fun s => s.wr (RYL.UP.at 1) (1)), by decide +kernel⟩,
   ⟨up |>.upd (fun s => s.wr RYL.PORT_EN (7)) |>.upd (fun s => { s with ryl := { s.ryl with ports := s.ryl.ports.set 0 { s.rport 0 with sentHello := true } } }) |>.upd (fun s => { s with ryl := { s.ryl with ports := s.ryl.ports.set 1 { s.rport 1 with sentHello := true } } }) |>.upd (fun s => { s with ryl := { s.ryl with ports := s.ryl.ports.set 2 { s.rport 2 with sentHello := true } } }) |>.upd (fun s => s.wr (RYL.UP.at 1) (1)) |>.upd (fun s => s.wr (RYL.UP.at 0) (1)) |>.upd (fun s => s.wr RYL.ELDER (1)) |>.upd (fun s => s.wr RYL.ID_VALID (1)) |>.upd (fun s => s.wr RYL.NODE_ID (4)) |>.upd (fun s => s.wr RYL.JOIN_STATE (3)) |>.upd (fun s => { s with ryl := { s.ryl with roster := s.elderRoster } }), by exact ⟨by decide +kernel, by decide +kernel, elderRoster_of_roster _ _⟩⟩,
   ⟨1, up |>.upd (fun s => s.wr RYL.JOIN_STATE (2)) |>.upd (fun s => s.wr RYL.ELDER_PORT (1 + 1)) |>.upd (fun s => s.wr RYL.JOIN_EN 1) |>.upd (fun s => s.wr RYL.PORT_EN (7)) |>.upd (fun s => { s with ryl := { s.ryl with ports := s.ryl.ports.set 0 { s.rport 0 with sentHello := true } } }) |>.upd (fun s => { s with ryl := { s.ryl with ports := s.ryl.ports.set 1 { s.rport 1 with sentHello := true } } }) |>.upd (fun s => { s with ryl := { s.ryl with ports := s.ryl.ports.set 2 { s.rport 2 with sentHello := true } } }) |>.upd (fun s => s.wr (RYL.UP.at 1) (1)) |>.upd (fun s => s.wr RYL.ELDER_PORT (2)) |>.upd (fun s => s.wr RYL.JOIN_STATE (2)), by decide +kernel⟩,
   ⟨0, 1, 77, none, [2], { body := .joinReq 77 none [2], hops := 3 }, up |>.upd (fun s => s.wr RYL.ELDER_PORT (1 + 1)) |>.upd (fun s => s.wr (RYL.UP.at 1) 1) |>.upd (fun s => s.wr RYL.PORT_EN (7)) |>.upd (fun s => { s with ryl := { s.ryl with ports := s.ryl.ports.set 0 { s.rport 0 with sentHello := true } } }) |>.upd (fun s => { s with ryl := { s.ryl with ports := s.ryl.ports.set 1 { s.rport 1 with sentHello := true } } }) |>.upd (fun s => { s with ryl := { s.ryl with ports := s.ryl.ports.set 2 { s.rport 2 with sentHello := true } } }) |>.upd (fun s => s.wr (RYL.UP.at 1) (1)) |>.upd (fun s => s.wr (RYL.UP.at 0) (1)) |>.upd (fun s => s.wr RYL.ELDER_PORT (2)), by decide +kernel⟩,
   ⟨1, 9, { body := .joinGrant ownUnique 9 [] }, up |>.upd (fun s => s.wr RYL.ID_VALID 0) |>.upd (fun s => s.wr RYL.PORT_EN (7)) |>.upd (fun s => { s with ryl := { s.ryl with ports := s.ryl.ports.set 0 { s.rport 0 with sentHello := true } } }) |>.upd (fun s => { s with ryl := { s.ryl with ports := s.ryl.ports.set 1 { s.rport 1 with sentHello := true } } }) |>.upd (fun s => { s with ryl := { s.ryl with ports := s.ryl.ports.set 2 { s.rport 2 with sentHello := true } } }) |>.upd (fun s => s.wr (RYL.UP.at 1) (1)), by decide +kernel, by decide +kernel, by rfl, by decide +kernel⟩,
   ⟨0, up |>.upd (fun s => s.wr RYL.ELDER 1), by decide +kernel⟩⟩

/-- What `RylRosterComplete` assumes can hold. -/
theorem witness_rylRosterComplete :
    (∃ (x : Nat) (e : RosterEnt) (c : Caravan) (s : State), s.takes x c ∧ s.forMe c ∧ s.rylTrained ∧ s.is RYL.ELDER = true ∧ c.body = .neigh e ∧ ((e.unique, e.id) ∈ s.ryl.reserved) ∧ (({ s with ryl := { s.ryl with reports := (s.ryl.reports.filter fun (f : RosterEnt) => f.unique ≠ e.unique) ++ [e] } }).elderRoster = s.ryl.roster)) ∧
    (∃ (x : Nat) (c : Caravan) (s : State), s.takes x c ∧ s.rylQuiet ∧ (c.body = .roster (s.rd RYL.GEN) [] []) ∧ c.hops ≠ 0 ∧ (s.rd RYL.ELDER_PORT = x + 1) ∧ s.ryl.awaitElder = false ∧ s.ryl.needSync = false ∧ (s.rd RYL.GEN < 2 ^ 32)) ∧
    (∃ (x : Nat) (e : RosterEnt) (c : Caravan) (s : State), s.takes x c ∧ s.rylQuiet ∧ (c.body = .roster ((s.rd RYL.GEN + 1) % 2 ^ 32) [e] []) ∧ c.hops = 0 ∧ (s.rd RYL.ELDER_PORT = x + 1) ∧ s.ryl.awaitElder = false ∧ s.ryl.needSync = false ∧ (s.rd RYL.GEN < 2 ^ 32) ∧ (s.ryl.roster = []) ∧ (s.mem.owners = [])) ∧
    (∃ (x : Nat) (y : Nat) (c : Caravan) (s : State), s.takes x c ∧ s.forMe c ∧ s.elderSettled ∧ c.body = .syncReq ∧ s.ryl.roster.length ≤ 127 ∧ y < 3 ∧ s.routeUp c.src = some y) ∧
    (∃ (x : Nat) (gen : Nat) (e : RosterEnt) (c : Caravan) (s : State), s.takes x c ∧ s.forMe c ∧ s.rylQuiet ∧ (c.body = .rosterFull gen [e]) ∧ c.last = true ∧ (s.ryl.full = []) ∧ (s.ryl.roster = []) ∧ (s.mem.owners = [])) ∧
    (∃ (s : State), s.rylQuiet ∧ s.ryl.rebuilding = true ∧ (s.ryl.held = []) ∧ (s.ryl.opens = []) ∧ s.is (Hdr.GATED 0x00) = false) :=
  ⟨⟨1, joiner, { body := .neigh joiner, dst := 4 }, joinState elderState joiner, by decide +kernel, by decide +kernel, by decide +kernel, by decide +kernel, by decide +kernel, by decide +kernel, by exact joinState_settled elderState joiner (by decide +kernel)⟩,
   ⟨1, { body := .roster 0 [] [], hops := 3 }, up |>.upd (fun s => s.wr RYL.ELDER_PORT (1 + 1)) |>.upd (fun s => { s with ryl := { s.ryl with awaitElder := false } }) |>.upd (fun s => { s with ryl := { s.ryl with needSync := false } }) |>.upd (fun s => s.wr RYL.PORT_EN (7)) |>.upd (fun s => { s with ryl := { s.ryl with ports := s.ryl.ports.set 0 { s.rport 0 with sentHello := true } } }) |>.upd (fun s => { s with ryl := { s.ryl with ports := s.ryl.ports.set 1 { s.rport 1 with sentHello := true } } }) |>.upd (fun s => { s with ryl := { s.ryl with ports := s.ryl.ports.set 2 { s.rport 2 with sentHello := true } } }) |>.upd (fun s => s.wr (RYL.UP.at 1) (1)) |>.upd (fun s => s.wr (RYL.UP.at 0) (1)) |>.upd (fun s => s.wr RYL.ELDER_PORT (2)) |>.upd (fun s => { s with ryl := { s.ryl with awaitElder := false } }), by decide +kernel⟩,
   ⟨1, { unique := 77, id := 6, neigh := [none, none, none] }, { body := .roster 1 [{ unique := 77, id := 6, neigh := [none, none, none] }] [], hops := 0 }, up |>.upd (fun s => s.wr RYL.ELDER_PORT (1 + 1)) |>.upd (fun s => { s with ryl := { s.ryl with awaitElder := false } }) |>.upd (fun s => { s with ryl := { s.ryl with needSync := false } }) |>.upd (fun s => { s with ryl := { s.ryl with roster := [] } }) |>.upd (fun s => { s with mem := { s.mem with owners := [] } }) |>.upd (fun s => s.wr RYL.PORT_EN (7)) |>.upd (fun s => { s with ryl := { s.ryl with ports := s.ryl.ports.set 0 { s.rport 0 with sentHello := true } } }) |>.upd (fun s => { s with ryl := { s.ryl with ports := s.ryl.ports.set 1 { s.rport 1 with sentHello := true } } }) |>.upd (fun s => { s with ryl := { s.ryl with ports := s.ryl.ports.set 2 { s.rport 2 with sentHello := true } } }) |>.upd (fun s => s.wr (RYL.UP.at 1) (1)) |>.upd (fun s => s.wr RYL.ELDER_PORT (2)) |>.upd (fun s => { s with ryl := { s.ryl with awaitElder := false } }), by decide +kernel⟩,
   ⟨1, 0, { body := .syncReq, dst := 4, src := 5 }, syncState elderSync, by decide +kernel, by decide +kernel, by exact ⟨by decide +kernel, by decide +kernel, syncState_settled elderSync⟩, by decide +kernel, by exact syncState_short elderSync (by decide +kernel), by decide +kernel, by decide +kernel⟩,
   ⟨1, 9, { unique := 77, id := 6, neigh := [none, none, none] }, { body := .rosterFull 9 [{ unique := 77, id := 6, neigh := [none, none, none] }], dst := 4, last := true }, up |>.upd (fun s => { s with ryl := { s.ryl with full := [] } }) |>.upd (fun s => { s with ryl := { s.ryl with roster := [] } }) |>.upd (fun s => { s with mem := { s.mem with owners := [] } }) |>.upd (fun s => s.wr RYL.PORT_EN (7)) |>.upd (fun s => { s with ryl := { s.ryl with ports := s.ryl.ports.set 0 { s.rport 0 with sentHello := true } } }) |>.upd (fun s => { s with ryl := { s.ryl with ports := s.ryl.ports.set 1 { s.rport 1 with sentHello := true } } }) |>.upd (fun s => { s with ryl := { s.ryl with ports := s.ryl.ports.set 2 { s.rport 2 with sentHello := true } } }) |>.upd (fun s => s.wr (RYL.UP.at 1) (1)) |>.upd (fun s => s.wr RYL.ID_VALID (1)) |>.upd (fun s => s.wr RYL.NODE_ID (4)), by decide +kernel⟩,
   ⟨up |>.upd (fun s => { s with ryl := { s.ryl with rebuilding := true } }) |>.upd (fun s => { s with ryl := { s.ryl with held := [] } }) |>.upd (fun s => { s with ryl := { s.ryl with opens := [] } }) |>.upd (fun s => s.wr (Hdr.GATED 0x00) 0) |>.upd (fun s => s.wr RYL.PORT_EN (7)) |>.upd (fun s => { s with ryl := { s.ryl with ports := s.ryl.ports.set 0 { s.rport 0 with sentHello := true } } }) |>.upd (fun s => { s with ryl := { s.ryl with ports := s.ryl.ports.set 1 { s.rport 1 with sentHello := true } } }) |>.upd (fun s => { s with ryl := { s.ryl with ports := s.ryl.ports.set 2 { s.rport 2 with sentHello := true } } }) |>.upd (fun s => s.wr (RYL.UP.at 1) (1)) |>.upd (fun s => { s with ryl := { s.ryl with rebuilding := true } }), by decide +kernel⟩⟩

/-- What `RylRemoteComplete` assumes can hold. -/
theorem witness_rylRemoteComplete :
    (∃ (x : Nat) (entry : List Byte) (c : Caravan) (s : State), s.takes x c ∧ s.forMe c ∧ s.rylQuiet ∧ c.body = .nsReq entry ∧ s.is (Hdr.QUIESCE 0x13) = false ∧ (s.ryl.serves = []) ∧ s.exported (s.localNs (nsReqNs entry)) = true ∧ s.rd TIME.STATE ≤ 1 ∧ s.pow.entry = none) ∧
    (∃ (x : Nat) (y : Nat) (entry : List Byte) (c : Caravan) (s : State), s.takes x c ∧ s.forMe c ∧ s.rylQuiet ∧ c.body = .nsReq entry ∧ s.is (Hdr.QUIESCE 0x13) = false ∧ (s.ryl.serves = []) ∧ s.exported (s.localNs (nsReqNs entry)) = false ∧ y < 3 ∧ s.routeUp c.src = some y) ∧
    (∃ (x : Nat) (tag : Nat) (data : List Byte) (o : RylOpen) (d : Cmd) (c : Caravan) (s : State), s.takes x c ∧ s.forMe c ∧ s.rylQuiet ∧ c.body = .nsData data ∧ s.openOf c = some o ∧ o.cmd = some tag ∧ s.cmd tag = some d ∧ d.loc = false ∧ d.remotePlain = true ∧ d.stage ≠ .ended ∧ d.remoteDone = none ∧ (16 * c.param + data.length ≤ d.dlen)) ∧
    (∃ (x : Nat) (tag : Nat) (specific : Nat) (residual : Nat) (status : Nat) (o : RylOpen) (d : Cmd) (c : Caravan) (s : State), s.takes x c ∧ s.forMe c ∧ s.rylQuiet ∧ c.body = .nsDone specific residual status ∧ s.openOf c = some o ∧ o.cmd = some tag ∧ s.cmd tag = some d ∧ d.remotePlain = true ∧ d.stage ≠ .ended ∧ (d.dlen - residual ≤ d.remoteLen)) ∧
    (∃ (x : Nat) (o : RylOpen) (c : Caravan) (s : State), s.takes x c ∧ s.forMe c ∧ s.rylQuiet ∧ c.body = .progress ∧ s.openOf c = some o) ∧
    (∃ (x : Nat) (c : Caravan) (s : State), s.takes x c ∧ s.forMe c ∧ s.rylQuiet ∧ c.body = .progress ∧ s.openOf c = none ∧ s.is (Hdr.GATED 0x00) = false) ∧
    (∃ (src : Nat) (tag : Nat) (y : Nat) (v : Serve) (s : State), ((s.ryl.serves.find? fun v => v.src == src && v.tag == tag) = some v) ∧ s.rylTrained ∧ y < 3 ∧ s.routeUp src = some y) ∧
    (∃ (tag : Nat) (o : RylOpen) (e : RosterEnt) (d : Cmd) (s : State), o ∈ s.ryl.opens ∧ o.cmd = some tag ∧ e ∈ s.ryl.roster ∧ e.id = o.node ∧ s.cmd tag = some d ∧ d.stage ≠ .ended) ∧
    (∃ (x : Nat) (y : Nat) (layer : Nat) (addr : Nat) (ident : List Byte) (f : ShadowSec) (c : Caravan) (s : State), s.takes x c ∧ s.forMe c ∧ s.rylQuiet ∧ c.body = .borrowReq ident layer addr 1 ∧ s.is (Hdr.QUIESCE 0x13) = false ∧ s.is RYL.BORROW_SERVE = true ∧ (s.ryl.bserves = []) ∧ s.drv.discId = none ∧ s.shadowGet ident layer addr = some f ∧ s.rd TIME.STATE ≤ 1 ∧ s.pow.entry = none ∧ (s.rd RYL.BORROWS_SERVED < 2 ^ 16 - 1) ∧ y < 3 ∧ s.routeUp c.src = some y) ∧
    (∃ (x : Nat) (addr : Nat) (layer : Nat) (p : Nat) (data : List Byte) (o : RylOpen) (u : EUnit) (k : Cached) (c : Caravan) (s : State), s.takes x c ∧ s.forMe c ∧ c.body = .borrowData data ∧ c.param = 0 ∧ s.openOf c = some o ∧ (o.unit = some (addr, layer)) ∧ (s.ecd.units = [u]) ∧ u.addr = addr ∧ u.layer = layer ∧ u.direct = false ∧ u.need = 3 ∧ u.level = 4 ∧ s.isDvd = true ∧ s.rd ECD.SHADOW_FROM = 0 ∧ (s.ryl.bserves = []) ∧ (s.mem.owners = [(p, .cache)]) ∧ (s.mem.sectors = [k]) ∧ (k.off = p * 0x1000) ∧ k.raw = false ∧ k.block ≠ s.discBlock addr layer ∧ p < 1536 ∧ s.mem.parityFaults = 0 ∧ s.rd (Hdr.HOOK 0x0E) = 0 ∧ (∀ w ∈ wordsOf (p * 0x1000 + 0x800) 2048, s.synd w = 0)) ∧
    (∃ (x : Nat) (addr : Nat) (layer : Nat) (mask : Nat) (o : RylOpen) (u : EUnit) (c : Caravan) (s : State), s.takes x c ∧ s.forMe c ∧ c.body = .borrowDone mask ∧ s.openOf c = some o ∧ (o.unit = some (addr, layer)) ∧ s.unitAt addr layer = some u ∧ s.endsHere u ∧ u.level = 4 ∧ s.rd ECD.BORROW_PEERS ≤ u.asked.length ∧ (s.rd ECD.UNRECOVERED < 2 ^ 16 - 1) ∧ s.is (Hdr.GATED 0x0B) = false) :=
  ⟨⟨1, ent [(0, 0x10), (0x0C, 1)], { body := .nsReq (ent [(0, 0x10), (0x0C, 1)]), dst := 4, src := 5, tag := 9 }, up |>.upd (fun s => s.wr (Hdr.QUIESCE 0x13) 0) |>.upd (fun s => { s with ryl := { s.ryl with serves := [] } }) |>.upd (fun s => { s with pow := { s.pow with entry := none } }) |>.upd (fun s => s.wr RYL.PORT_EN (7)) |>.upd (fun s => { s with ryl := { s.ryl with ports := s.ryl.ports.set 0 { s.rport 0 with sentHello := true } } }) |>.upd (fun s => { s with ryl := { s.ryl with ports := s.ryl.ports.set 1 { s.rport 1 with sentHello := true } } }) |>.upd (fun s => { s with ryl := { s.ryl with ports := s.ryl.ports.set 2 { s.rport 2 with sentHello := true } } }) |>.upd (fun s => s.wr (RYL.UP.at 1) (1)) |>.upd (fun s => s.wr RYL.ID_VALID (1)) |>.upd (fun s => s.wr RYL.NODE_ID (4)) |>.upd (fun s => s.wr RYL.JOIN_STATE (2)) |>.upd (fun s => s.wr RYL.EXPORT_DISC (1)), by decide +kernel⟩,
   ⟨1, 1, ent [(0, 0x10), (0x0C, 0x77)], { body := .nsReq (ent [(0, 0x10), (0x0C, 0x77)]), dst := 4, src := 5, tag := 9 }, up |>.upd (fun s => s.wr (Hdr.QUIESCE 0x13) 0) |>.upd (fun s => { s with ryl := { s.ryl with serves := [] } }) |>.upd (fun s => s.wr RYL.PORT_EN (7)) |>.upd (fun s => { s with ryl := { s.ryl with ports := s.ryl.ports.set 0 { s.rport 0 with sentHello := true } } }) |>.upd (fun s => { s with ryl := { s.ryl with ports := s.ryl.ports.set 1 { s.rport 1 with sentHello := true } } }) |>.upd (fun s => { s with ryl := { s.ryl with ports := s.ryl.ports.set 2 { s.rport 2 with sentHello := true } } }) |>.upd (fun s => s.wr (RYL.UP.at 1) (1)) |>.upd (fun s => s.wr RYL.ID_VALID (1)) |>.upd (fun s => s.wr RYL.NODE_ID (4)) |>.upd (fun s => s.wr RYL.JOIN_STATE (2)) |>.upd (fun s => { s with ryl := { s.ryl with routes := [(5, 1, 1)] } }), by decide +kernel⟩,
   ⟨1, 3, [1, 2, 3, 4], { ctag := 9, epoch := 0, node := 5, cmd := some 3 }, { tag := 3, slice := 0, qp := 0, place := 0, at_ := 0, loc := false, atomic := false, entry := ent [(0, 16), (12, 1), (13, 5), (15, 128), (16, 50), (24, 1), (49, 64), (57, 16)], sqHead := 0, stage := .dispatched }, { body := .nsData [1, 2, 3, 4], dst := 4, src := 5, tag := 9, param := 2 }, up |>.upd (fun s => s.wr RYL.PORT_EN (7)) |>.upd (fun s => { s with ryl := { s.ryl with ports := s.ryl.ports.set 0 { s.rport 0 with sentHello := true } } }) |>.upd (fun s => { s with ryl := { s.ryl with ports := s.ryl.ports.set 1 { s.rport 1 with sentHello := true } } }) |>.upd (fun s => { s with ryl := { s.ryl with ports := s.ryl.ports.set 2 { s.rport 2 with sentHello := true } } }) |>.upd (fun s => s.wr (RYL.UP.at 1) (1)) |>.upd (fun s => s.wr RYL.ID_VALID (1)) |>.upd (fun s => s.wr RYL.NODE_ID (4)) |>.upd (fun s => s.wr RYL.JOIN_STATE (2)) |>.upd (fun s => { s with ryl := { s.ryl with opens := [({ ctag := 9, epoch := 0, node := 5, cmd := some 3 } : RylOpen)] } }) |>.upd (fun s => { s with que := { s.que with cmds := [{ tag := 3, slice := 0, qp := 0, place := 0, at_ := 0, loc := false, atomic := false, entry := ent [(0, 16), (12, 1), (13, 5), (15, 128), (16, 50), (24, 1), (49, 64), (57, 16)], sqHead := 0, stage := .dispatched }] } }), by decide +kernel⟩,
   ⟨1, 3, 5, 4000, 0, { ctag := 9, epoch := 0, node := 5, cmd := some 3 }, { tag := 3, slice := 0, qp := 0, place := 0, at_ := 0, loc := false, atomic := false, entry := ent [(0, 16), (12, 1), (13, 5), (15, 128), (16, 50), (24, 1), (49, 64), (57, 16)], sqHead := 0, stage := .dispatched, remote := [(0, List.replicate 96 1)] }, { body := .nsDone 5 4000 0, dst := 4, src := 5, tag := 9 }, up |>.upd (fun s => s.wr RYL.PORT_EN (7)) |>.upd (fun s => { s with ryl := { s.ryl with ports := s.ryl.ports.set 0 { s.rport 0 with sentHello := true } } }) |>.upd (fun s => { s with ryl := { s.ryl with ports := s.ryl.ports.set 1 { s.rport 1 with sentHello := true } } }) |>.upd (fun s => { s with ryl := { s.ryl with ports := s.ryl.ports.set 2 { s.rport 2 with sentHello := true } } }) |>.upd (fun s => s.wr (RYL.UP.at 1) (1)) |>.upd (fun s => s.wr RYL.ID_VALID (1)) |>.upd (fun s => s.wr RYL.NODE_ID (4)) |>.upd (fun s => s.wr RYL.JOIN_STATE (2)) |>.upd (fun s => { s with ryl := { s.ryl with opens := [({ ctag := 9, epoch := 0, node := 5, cmd := some 3 } : RylOpen)] } }) |>.upd (fun s => { s with que := { s.que with cmds := [{ tag := 3, slice := 0, qp := 0, place := 0, at_ := 0, loc := false, atomic := false, entry := ent [(0, 16), (12, 1), (13, 5), (15, 128), (16, 50), (24, 1), (49, 64), (57, 16)], sqHead := 0, stage := .dispatched, remote := [(0, List.replicate 96 1)] }] } }), by decide +kernel⟩,
   ⟨1, { ctag := 9, epoch := 0, node := 5, cmd := some 3 }, { body := .progress, dst := 4, src := 5, tag := 9 }, up |>.upd (fun s => s.wr RYL.PORT_EN (7)) |>.upd (fun s => { s with ryl := { s.ryl with ports := s.ryl.ports.set 0 { s.rport 0 with sentHello := true } } }) |>.upd (fun s => { s with ryl := { s.ryl with ports := s.ryl.ports.set 1 { s.rport 1 with sentHello := true } } }) |>.upd (fun s => { s with ryl := { s.ryl with ports := s.ryl.ports.set 2 { s.rport 2 with sentHello := true } } }) |>.upd (fun s => s.wr (RYL.UP.at 1) (1)) |>.upd (fun s => s.wr RYL.ID_VALID (1)) |>.upd (fun s => s.wr RYL.NODE_ID (4)) |>.upd (fun s => s.wr RYL.JOIN_STATE (2)) |>.upd (fun s => { s with ryl := { s.ryl with opens := [({ ctag := 9, epoch := 0, node := 5, cmd := some 3 } : RylOpen)] } }), by decide +kernel⟩,
   ⟨1, { body := .progress, dst := 4, src := 5, tag := 9 }, up |>.upd (fun s => s.wr (Hdr.GATED 0x00) 0) |>.upd (fun s => s.wr RYL.PORT_EN (7)) |>.upd (fun s => { s with ryl := { s.ryl with ports := s.ryl.ports.set 0 { s.rport 0 with sentHello := true } } }) |>.upd (fun s => { s with ryl := { s.ryl with ports := s.ryl.ports.set 1 { s.rport 1 with sentHello := true } } }) |>.upd (fun s => { s with ryl := { s.ryl with ports := s.ryl.ports.set 2 { s.rport 2 with sentHello := true } } }) |>.upd (fun s => s.wr (RYL.UP.at 1) (1)) |>.upd (fun s => s.wr RYL.ID_VALID (1)) |>.upd (fun s => s.wr RYL.NODE_ID (4)) |>.upd (fun s => s.wr RYL.JOIN_STATE (2)), by decide +kernel⟩,
   ⟨5, 9, 1, { src := 5, tag := 9, epoch := 0, key := 3, entry := ent [] }, up |>.upd (fun s => s.wr RYL.PORT_EN (7)) |>.upd (fun s => { s with ryl := { s.ryl with ports := s.ryl.ports.set 0 { s.rport 0 with sentHello := true } } }) |>.upd (fun s => { s with ryl := { s.ryl with ports := s.ryl.ports.set 1 { s.rport 1 with sentHello := true } } }) |>.upd (fun s => { s with ryl := { s.ryl with ports := s.ryl.ports.set 2 { s.rport 2 with sentHello := true } } }) |>.upd (fun s => s.wr (RYL.UP.at 1) (1)) |>.upd (fun s => s.wr RYL.ID_VALID (1)) |>.upd (fun s => s.wr RYL.NODE_ID (4)) |>.upd (fun s => s.wr RYL.JOIN_STATE (2)) |>.upd (fun s => { s with ryl := { s.ryl with routes := [(5, 1, 1)] } }) |>.upd (fun s => { s with ryl := { s.ryl with serves := [{ src := 5, tag := 9, epoch := 0, key := 3, entry := ent [] }] } }), by decide +kernel⟩,
   ⟨3, { ctag := 9, epoch := 0, node := 5, cmd := some 3 }, { unique := 77, id := 5, neigh := [none, none, none] }, { tag := 3, slice := 0, qp := 0, place := 0, at_ := 0, loc := false, atomic := false, entry := ent [(0, 16), (12, 1), (13, 5), (15, 128), (16, 50), (24, 1), (49, 64), (57, 16)], sqHead := 0, stage := .dispatched }, up |>.upd (fun s => s.wr RYL.PORT_EN (7)) |>.upd (fun s => { s with ryl := { s.ryl with ports := s.ryl.ports.set 0 { s.rport 0 with sentHello := true } } }) |>.upd (fun s => { s with ryl := { s.ryl with ports := s.ryl.ports.set 1 { s.rport 1 with sentHello := true } } }) |>.upd (fun s => { s with ryl := { s.ryl with ports := s.ryl.ports.set 2 { s.rport 2 with sentHello := true } } }) |>.upd (fun s => s.wr (RYL.UP.at 1) (1)) |>.upd (fun s => s.wr RYL.ID_VALID (1)) |>.upd (fun s => s.wr RYL.NODE_ID (4)) |>.upd (fun s => s.wr RYL.JOIN_STATE (2)) |>.upd (fun s => { s with ryl := { s.ryl with opens := [({ ctag := 9, epoch := 0, node := 5, cmd := some 3 } : RylOpen)] } }) |>.upd (fun s => { s with que := { s.que with cmds := [{ tag := 3, slice := 0, qp := 0, place := 0, at_ := 0, loc := false, atomic := false, entry := ent [(0, 16), (12, 1), (13, 5), (15, 128), (16, 50), (24, 1), (49, 64), (57, 16)], sqHead := 0, stage := .dispatched }] } }) |>.upd (fun s => { s with ryl := { s.ryl with roster := [({ unique := 77, id := 5, neigh := [none, none, none] } : RosterEnt)] } }), by decide +kernel⟩,
   ⟨1, 1, 0, 5, [], { ident := [], layer := 0, addr := 5, dvd := true, data := [1, 2] }, { body := .borrowReq [] 0 5 1, dst := 4, src := 5, tag := 9 }, up |>.upd (fun s => s.wr (Hdr.QUIESCE 0x13) 0) |>.upd (fun s => s.wr RYL.BORROW_SERVE 1) |>.upd (fun s => { s with ryl := { s.ryl with bserves := [] } }) |>.upd (fun s => { s with drv := { s.drv with discId := none } }) |>.upd (fun s => { s with pow := { s.pow with entry := none } }) |>.upd (fun s => s.wr RYL.PORT_EN (7)) |>.upd (fun s => { s with ryl := { s.ryl with ports := s.ryl.ports.set 0 { s.rport 0 with sentHello := true } } }) |>.upd (fun s => { s with ryl := { s.ryl with ports := s.ryl.ports.set 1 { s.rport 1 with sentHello := true } } }) |>.upd (fun s => { s with ryl := { s.ryl with ports := s.ryl.ports.set 2 { s.rport 2 with sentHello := true } } }) |>.upd (fun s => s.wr (RYL.UP.at 1) (1)) |>.upd (fun s => s.wr RYL.ID_VALID (1)) |>.upd (fun s => s.wr RYL.NODE_ID (4)) |>.upd (fun s => s.wr RYL.JOIN_STATE (2)) |>.upd (fun s => { s with ryl := { s.ryl with routes := [(5, 1, 1)] } }) |>.upd (fun s => { s with nand := { s.nand with shadow := [({ ident := [], layer := 0, addr := 5, dvd := true, data := [1, 2] } : ShadowSec)] } }) |>.upd (fun s => s.wr OAS.STATE (4)), by decide +kernel⟩,
   ⟨1, 100, 0, 256, List.replicate 2064 3, { ctag := 9, epoch := 0, node := 5, unit := some (100, 0) }, { addr := 100, layer := 0, level := 4, need := 3, asked := [9, 8, 7, 6, 5, 4, 3, 2, 1] }, { ns := 1, block := 5, off := 0x100000, len := 2048, raw := false, info := 0, level := 0, used := 0 }, { body := .borrowData (List.replicate 2064 3), dst := 4, src := 5, tag := 9 }, up |>.upd (fun s => { s with ecd := { s.ecd with units := [({ addr := 100, layer := 0, level := 4, need := 3, asked := [9, 8, 7, 6, 5, 4, 3, 2, 1] } : EUnit)] } }) |>.upd (fun s => s.wr ECD.SHADOW_FROM (0)) |>.upd (fun s => { s with ryl := { s.ryl with bserves := [] } }) |>.upd (fun s => { s with mem := { s.mem with owners := [(256, .cache)] } }) |>.upd (fun s => { s with mem := { s.mem with sectors := [({ ns := 1, block := 5, off := 0x100000, len := 2048, raw := false, info := 0, level := 0, used := 0 } : Cached)] } }) |>.upd (fun s => { s with mem := { s.mem with parityFaults := 0 } }) |>.upd (fun s => s.wr (Hdr.HOOK 0x0E) (0)) |>.upd (fun s => s.wr RYL.PORT_EN (7)) |>.upd (fun s => { s with ryl := { s.ryl with ports := s.ryl.ports.set 0 { s.rport 0 with sentHello := true } } }) |>.upd (fun s => { s with ryl := { s.ryl with ports := s.ryl.ports.set 1 { s.rport 1 with sentHello := true } } }) |>.upd (fun s => { s with ryl := { s.ryl with ports := s.ryl.ports.set 2 { s.rport 2 with sentHello := true } } }) |>.upd (fun s => s.wr (RYL.UP.at 1) (1)) |>.upd (fun s => s.wr RYL.ID_VALID (1)) |>.upd (fun s => s.wr RYL.NODE_ID (4)) |>.upd (fun s => s.wr RYL.JOIN_STATE (2)) |>.upd (fun s => { s with ryl := { s.ryl with opens := [({ ctag := 9, epoch := 0, node := 5, unit := some (100, 0) } : RylOpen)] } }) |>.upd (fun s => { s with ecd := { s.ecd with units := [({ addr := 100, layer := 0, level := 4, need := 3, asked := [9, 8, 7, 6, 5, 4, 3, 2, 1] } : EUnit)] } }) |>.upd (fun s => s.wr CHN.FMT (1)) |>.upd (fun s => { s with mem := { s.mem with owners := [(256, .cache)] } }) |>.upd (fun s => { s with mem := { s.mem with sectors := [({ ns := 1, block := 5, off := 0x100000, len := 2048, raw := false, info := 0, level := 0, used := 0 } : Cached)] } }), by decide +kernel⟩,
   ⟨1, 100, 0, 1, { ctag := 9, epoch := 0, node := 5, unit := some (100, 0) }, { addr := 100, layer := 0, level := 4, need := 3, asked := [9, 8, 7, 6, 5, 4, 3, 2, 1] }, { body := .borrowDone 1, dst := 4, src := 5, tag := 9 }, up |>.upd (fun s => s.wr (Hdr.GATED 0x0B) 0) |>.upd (fun s => s.wr RYL.PORT_EN (7)) |>.upd (fun s => { s with ryl := { s.ryl with ports := s.ryl.ports.set 0 { s.rport 0 with sentHello := true } } }) |>.upd (fun s => { s with ryl := { s.ryl with ports := s.ryl.ports.set 1 { s.rport 1 with sentHello := true } } }) |>.upd (fun s => { s with ryl := { s.ryl with ports := s.ryl.ports.set 2 { s.rport 2 with sentHello := true } } }) |>.upd (fun s => s.wr (RYL.UP.at 1) (1)) |>.upd (fun s => s.wr RYL.ID_VALID (1)) |>.upd (fun s => s.wr RYL.NODE_ID (4)) |>.upd (fun s => s.wr RYL.JOIN_STATE (2)) |>.upd (fun s => { s with ryl := { s.ryl with opens := [({ ctag := 9, epoch := 0, node := 5, unit := some (100, 0) } : RylOpen)] } }) |>.upd (fun s => { s with que := { s.que with cmds := [cmdE 3 (ent [(0, 0x10), (0x0C, 1), (0x10, 100), (0x18, 1), (2, 7)])] } }) |>.upd (fun s => { s with ecd := { s.ecd with units := [({ addr := 100, layer := 0, level := 4, need := 3, asked := [9, 8, 7, 6, 5, 4, 3, 2, 1] } : EUnit)] } }) |>.upd (fun s => s.wr ECD.BORROW_EN (0)) |>.upd (fun s => s.wr ECD.CONCEAL_EN (0)), by decide +kernel⟩⟩

/-- What `AudioCommandsComplete` assumes can hold. -/
theorem witness_audioCommandsComplete :
    (∃ (n : Nat) (s : State), s.audUp = true ∧ (s.shadow = []) ∧ (s.aud.zeros = n + 1) ∧ s.rd AUD.DEEMPH_EN = 0 ∧ s.rd AUD.FORMAT ≠ 2 ∧ (s.rd AUD.FRAMES < 2 ^ 32 - 1)) ∧
    (∃ (p : Play) (x : AudSec) (r : List AudSec) (s : State), s.audUp = true ∧ (s.shadow = []) ∧ s.aud.zeros = 0 ∧ s.aud.play = some p ∧ p.how = .range ∧ p.reading = false ∧ p.ending = none ∧ s.rd AUD.STATE = 3 ∧ (s.aud.fifo = x :: r) ∧ 0 < s.aud.pos ∧ s.aud.pos < 587 ∧ (∀ f ∈ framesFrom s.aud.fifo s.aud.pos 256, f.fl = false ∧ f.fr = false) ∧ s.aud.pauseLvl = none ∧ s.aud.muteLvl = none ∧ s.aud.stopLvl = none ∧ s.aud.upLvl = none ∧ s.aud.inMute = false ∧ s.rd AUD.PAUSE = 0 ∧ s.rd AUD.MUTE = 0 ∧ s.rd AUD.DEEMPH_EN = 0 ∧ s.rd AUD.FORMAT ≠ 2 ∧ (s.rd AUD.FRAMES < 2 ^ 32 - 1)) ∧
    (∃ (s : State), s.audUp = true ∧ (s.shadow = []) ∧ s.aud.zeros = 0 ∧ s.aud.play = none ∧ s.rd AUD.SRC = 1 ∧ s.aud.pauseLvl = none ∧ s.aud.muteLvl = none ∧ s.aud.stopLvl = none ∧ s.aud.upLvl = none ∧ s.rd AUD.PAUSE = 0 ∧ s.rd AUD.MUTE = 0 ∧ s.rd AUD.DEEMPH_EN = 0 ∧ s.rd AUD.FORMAT ≠ 2 ∧ s.rd AUD.RING_PAGES ≤ s.rd MEM.HOST_NOW ∧ s.rd AUD.RING_RPTR ≠ s.rd AUD.RING_WPTR ∧ (s.rd AUD.RING_RPTR < 2 ^ 16) ∧ s.rd AUD.RING_PAGES ≤ 64 ∧ s.is (Hdr.QUIESCE 0x14) = false ∧ s.mem.parityFaults = 0 ∧ (∀ w ∈ wordsOf (s.rd AUD.RING_PAGE * 0x1000 + 4 * s.rd AUD.RING_RPTR) 4, s.synd w = 0) ∧ s.is (Hdr.GATED 0x14) = false ∧ (s.rd AUD.FRAMES < 2 ^ 32 - 1)) ∧
    (∃ (p : Play) (x : ReadySec) (s : State), s.aud.play = some p ∧ p.reading = true ∧ p.ending = none ∧ p.skip = false ∧ ((s.ecd.ready.find? fun y => y.addr == (s.discAddr p.next).1) = some x) ∧ s.is (Hdr.QUIESCE 0x14) = false ∧ s.pageDown 0x14 = false ∧ s.allocOk = true ∧ s.withheld 0x14 = false ∧ (s.freePages ≠ []) ∧ s.rd (Hdr.HOOK 0x14) = 0 ∧ s.rd (Hdr.HOOK 0x0E) = 0 ∧ s.rd AUD.STATE = 3 ∧ (∀ y ∈ s.aud.fifo, y.fresh = true) ∧ s.rd AUD.HIGH ≤ s.aud.fifo.length) ∧
    (∃ (s : State), s.audUp = true ∧ s.rd AUD.SPDIF_EN = 1 ∧ s.rd AUD.SPDIF_LIVE = 0) ∧
    (∃ (s : State), s.audUp = true ∧ s.rd AUD.SPDIF_EN = 0 ∧ s.rd AUD.SPDIF_LIVE = 1) ∧
    (∃ (s : State), s.rd AUD.MCLK_OK = 1 ∧ s.pageDown 0x14 = false ∧ s.aud.play = none) ∧
    (∃ (p : Play) (s : State), s.rd AUD.MCLK_OK = 1 ∧ s.pageDown 0x14 = false ∧ s.aud.play = some p ∧ p.ending = none ∧ s.rd AUD.STATE = 3) ∧
    (∃ (s : State), s.rd AUD.MCLK_OK = 0 ∧ s.pow.phase = .run ∧ s.rd TIME.STATE ≤ 1 ∧ s.pageDown 0x14 = false ∧ s.rd AUD.PAUSE = 0 ∧ s.rd AUD.STATE = 4) ∧
    (∃ (v : Bool) (s : State), s.pageDown 0x14 = false) ∧
    (∃ (v : Bool) (s : State), s.pageDown 0x14 = false) ∧
    (∃ (s : State), s.pageDown 0x14 = false ∧ s.rd AUD.PAUSE = 0 ∧ s.rd AUD.STATE = 3) ∧
    (∃ (s : State), s.pageDown 0x14 = false ∧ s.rd AUD.PAUSE = 1 ∧ s.rd AUD.STATE = 4) :=
  ⟨⟨3, up |>.upd (fun s => { s with shadow := [] }) |>.upd (fun s => { s with aud := { s.aud with zeros := 3 + 1 } }) |>.upd (fun s => s.wr AUD.DEEMPH_EN (0)) |>.upd (fun s => s.wr AUD.MCLK_OK (1)), by decide +kernel⟩,
   ⟨{ tag := 3, next := 60, stop := 70, how := .range, reading := false }, { lba := 50, data := List.replicate 2352 1, c2 := [], q := none }, [], up |>.upd (fun s => { s with shadow := [] }) |>.upd (fun s => { s with aud := { s.aud with zeros := 0 } }) |>.upd (fun s => { s with aud := { s.aud with play := some ({ tag := 3, next := 60, stop := 70, how := .range, reading := false } : Play) } }) |>.upd (fun s => s.wr AUD.STATE (3)) |>.upd (fun s => { s with aud := { s.aud with fifo := ({ lba := 50, data := List.replicate 2352 1, c2 := [], q := none } : AudSec) :: ([] : List AudSec) } }) |>.upd (fun s => { s with aud := { s.aud with pauseLvl := none } }) |>.upd (fun s => { s with aud := { s.aud with muteLvl := none } }) |>.upd (fun s => { s with aud := { s.aud with stopLvl := none } }) |>.upd (fun s => { s with aud := { s.aud with upLvl := none } }) |>.upd (fun s => { s with aud := { s.aud with inMute := false } }) |>.upd (fun s => s.wr AUD.PAUSE (0)) |>.upd (fun s => s.wr AUD.MUTE (0)) |>.upd (fun s => s.wr AUD.DEEMPH_EN (0)) |>.upd (fun s => s.wr AUD.MCLK_OK (1)) |>.upd (fun s => { s with aud := { s.aud with pos := 5 } }), by decide +kernel⟩,
   ⟨up |>.upd (fun s => { s with shadow := [] }) |>.upd (fun s => { s with aud := { s.aud with zeros := 0 } }) |>.upd (fun s => { s with aud := { s.aud with play := none } }) |>.upd (fun s => s.wr AUD.SRC (1)) |>.upd (fun s => { s with aud := { s.aud with pauseLvl := none } }) |>.upd (fun s => { s with aud := { s.aud with muteLvl := none } }) |>.upd (fun s => { s with aud := { s.aud with stopLvl := none } }) |>.upd (fun s => { s with aud := { s.aud with upLvl := none } }) |>.upd (fun s => s.wr AUD.PAUSE (0)) |>.upd (fun s => s.wr AUD.MUTE (0)) |>.upd (fun s => s.wr AUD.DEEMPH_EN (0)) |>.upd (fun s => s.wr (Hdr.QUIESCE 0x14) 0) |>.upd (fun s => { s with mem := { s.mem with parityFaults := 0 } }) |>.upd (fun s => s.wr (Hdr.GATED 0x14) 0) |>.upd (fun s => s.wr AUD.MCLK_OK (1)) |>.upd (fun s => s.wr AUD.RING_WPTR (9)) |>.upd (fun s => s.wr AUD.RING_PAGES (4)), by decide +kernel⟩,
   ⟨{ tag := 3, next := 60, stop := 70, how := .range }, { addr := 60, data := List.replicate 2352 1, sub := [], c2 := [] }, up |>.upd (fun s => { s with aud := { s.aud with play := some ({ tag := 3, next := 60, stop := 70, how := .range } : Play) } }) |>.upd (fun s => s.wr (Hdr.QUIESCE 0x14) 0) |>.upd (fun s => s.wr (Hdr.HOOK 0x14) (0)) |>.upd (fun s => s.wr (Hdr.HOOK 0x0E) (0)) |>.upd (fun s => s.wr AUD.STATE (3)) |>.upd (fun s => { s with ecd := { s.ecd with ready := [({ addr := 60, data := List.replicate 2352 1, sub := [], c2 := [] } : ReadySec)] } }) |>.upd (fun s => s.wr AUD.HIGH (2)) |>.upd (fun s => { s with aud := { s.aud with fifo := [{ lba := 50, data := List.replicate 2352 1, c2 := [], q := none }, { lba := 50, data := List.replicate 2352 1, c2 := [], q := none }] } }), by decide +kernel⟩,
   ⟨up |>.upd (fun s => s.wr AUD.SPDIF_EN (1)) |>.upd (fun s => s.wr AUD.SPDIF_LIVE (0)) |>.upd (fun s => s.wr AUD.MCLK_OK (1)), by decide +kernel⟩,
   ⟨up |>.upd (fun s => s.wr AUD.SPDIF_EN (0)) |>.upd (fun s => s.wr AUD.SPDIF_LIVE (1)) |>.upd (fun s => s.wr AUD.MCLK_OK (1)), by decide +kernel⟩,
   ⟨up |>.upd (fun s => s.wr AUD.MCLK_OK (1)) |>.upd (fun s => { s with aud := { s.aud with play := none } }), by decide +kernel⟩,
   ⟨{ tag := 3, next := 60, stop := 70, how := .range }, up |>.upd (fun s => s.wr AUD.MCLK_OK (1)) |>.upd (fun s => { s with aud := { s.aud with play := some ({ tag := 3, next := 60, stop := 70, how := .range } : Play) } }) |>.upd (fun s => s.wr AUD.STATE (3)), by decide +kernel⟩,
   ⟨up |>.upd (fun s => s.wr AUD.MCLK_OK (0)) |>.upd (fun s => { s with pow := { s.pow with phase := .run } }) |>.upd (fun s => s.wr AUD.PAUSE (0)) |>.upd (fun s => s.wr AUD.STATE (4)), by decide +kernel⟩,
   ⟨true, up, by decide +kernel⟩,
   ⟨true, up, by decide +kernel⟩,
   ⟨up |>.upd (fun s => s.wr AUD.PAUSE (0)) |>.upd (fun s => s.wr AUD.STATE (3)), by decide +kernel⟩,
   ⟨up |>.upd (fun s => s.wr AUD.PAUSE (1)) |>.upd (fun s => s.wr AUD.STATE (4)), by decide +kernel⟩⟩

/-- What `RecorderCommandsComplete` assumes can hold. -/
theorem witness_recorderCommandsComplete :
    (∃ (s : State), s.pageDown 0x15 = false ∧ s.storeOk = true ∧ s.rd REC.FLUSHING = 0 ∧ s.rd REC.FLUSH = 0) ∧
    (∃ (s : State), s.pageDown 0x15 = false ∧ s.storeOk = true ∧ s.rd REC.FLUSHING = 0 ∧ (s.recd.ring ≠ [])) ∧
    (∃ (s : State), s.pageDown 0x15 = false ∧ s.storeOk = true ∧ s.rd REC.FLUSHING = 0 ∧ s.recd.restored = true) ∧
    (∃ (e : RingRec) (r : List RingRec) (s : State), s.rd REC.FLUSHING = 1 ∧ (s.recd.ring = e :: r) ∧ 0 < s.recd.flushN ∧ s.recd.eraseTag = none ∧ s.recd.flushGo = false ∧ s.pow.pfFlush = false ∧ s.rd REC.FLUSH = 0 ∧ (s.rd REC.FLUSHES < 2 ^ 16 - 1) ∧ s.is (Hdr.GATED 0x15) = false) ∧
    (∃ (s : State), s.rd REC.FLUSHING = 1 ∧ s.recd.eraseTag = none ∧ s.recd.flushGo = false ∧ s.is (Hdr.GATED 0x15) = false) ∧
    (∃ (s : State), s.pageDown 0x15 = false ∧ s.rd REC.WRITE = 0 ∧ s.is (Hdr.QUIESCE 0x15) = false ∧ (s.recd.ring = []) ∧ REC.WRITE.key ∉ s.goWait ∧ (s.rd REC.NEXT_RSN < 2 ^ 32 - 1)) ∧
    (∃ (p : RecPage) (s : State), s.pow.phase = .run ∧ s.pow.kind = .por ∧ s.recd.restored = false ∧ s.recd.again = false ∧ s.pageDown 0x15 = false ∧ s.storeOk = true ∧ s.newestPage = some p ∧ (p.opSeconds < 2 ^ 32) ∧ (p.powerCycles < 2 ^ 32 - 1) ∧ s.is (Hdr.GATED 0x15) = false) ∧
    (∃ (port : HostPort) (r : EvRec) (s : State), s.pageDown 0x15 = false ∧ s.ringRec (s.rd REC.RD_RSN) = some r) :=
  ⟨⟨up |>.upd (fun s => s.wr REC.FLUSHING (0)) |>.upd (fun s => s.wr REC.FLUSH (0)) |>.upd (fun s => s.wr OAS.STATE (4)) |>.upd (fun s => { s with recd := { s.recd with ring := [{ rsn := 4, early := false, body := { opSeconds := 0, powerCycles := 0, sev := 0, code := 3, page := 2, slice := 0, repeats := 1, data := [], lastDelta := 0 } }] } }), by decide +kernel⟩,
   ⟨up |>.upd (fun s => s.wr REC.FLUSHING (0)) |>.upd (fun s => s.wr OAS.STATE (4)) |>.upd (fun s => { s with recd := { s.recd with ring := [{ rsn := 4, early := false, body := { opSeconds := 0, powerCycles := 0, sev := 0, code := 3, page := 2, slice := 0, repeats := 1, data := [], lastDelta := 0 } }] } }), by decide +kernel⟩,
   ⟨up |>.upd (fun s => s.wr REC.FLUSHING (0)) |>.upd (fun s => { s with recd := { s.recd with restored := true } }) |>.upd (fun s => s.wr OAS.STATE (4)) |>.upd (fun s => { s with recd := { s.recd with ring := [{ rsn := 4, early := false, body := { opSeconds := 0, powerCycles := 0, sev := 0, code := 3, page := 2, slice := 0, repeats := 1, data := [], lastDelta := 0 } }] } }), by decide +kernel⟩,
   ⟨{ rsn := 4, early := false, body := { opSeconds := 0, powerCycles := 0, sev := 0, code := 3, page := 2, slice := 0, repeats := 1, data := [], lastDelta := 0 } }, [], up |>.upd (fun s => s.wr REC.FLUSHING (1)) |>.upd (fun s => { s with recd := { s.recd with ring := ({ rsn := 4, early := false, body := { opSeconds := 0, powerCycles := 0, sev := 0, code := 3, page := 2, slice := 0, repeats := 1, data := [], lastDelta := 0 } } : RingRec) :: ([] : List RingRec) } }) |>.upd (fun s => { s with recd := { s.recd with eraseTag := none } }) |>.upd (fun s => { s with recd := { s.recd with flushGo := false } }) |>.upd (fun s => { s with pow := { s.pow with pfFlush := false } }) |>.upd (fun s => s.wr REC.FLUSH (0)) |>.upd (fun s => s.wr (Hdr.GATED 0x15) 0) |>.upd (fun s => { s with recd := { s.recd with flushN := 1 } }), by decide +kernel⟩,
   ⟨up |>.upd (fun s => s.wr REC.FLUSHING (1)) |>.upd (fun s => { s with recd := { s.recd with eraseTag := none } }) |>.upd (fun s => { s with recd := { s.recd with flushGo := false } }) |>.upd (fun s => s.wr (Hdr.GATED 0x15) 0), by decide +kernel⟩,
   ⟨up |>.upd (fun s => s.wr REC.WRITE (0)) |>.upd (fun s => s.wr (Hdr.QUIESCE 0x15) 0) |>.upd (fun s => { s with recd := { s.recd with ring := [] } }), by decide +kernel⟩,
   ⟨{ flags := 0, pageSeq := 3, firstRsn := 0, recs := [], opSeconds := 44, powerCycles := 5, erasedBelow := 0, block := 0, ok := true }, up |>.upd (fun s => { s with pow := { s.pow with phase := .run } }) |>.upd (fun s => { s with pow := { s.pow with kind := .por } }) |>.upd (fun s => { s with recd := { s.recd with restored := false } }) |>.upd (fun s => { s with recd := { s.recd with again := false } }) |>.upd (fun s => s.wr (Hdr.GATED 0x15) 0) |>.upd (fun s => s.wr OAS.STATE (4)) |>.upd (fun s => { s with recStore := [({ flags := 0, pageSeq := 3, firstRsn := 0, recs := [], opSeconds := 44, powerCycles := 5, erasedBelow := 0, block := 0, ok := true } : RecPage)] }), by decide +kernel⟩,
   ⟨.serial, { opSeconds := 9, powerCycles := 0, sev := 0, code := 3, page := 2, slice := 0, repeats := 1, data := [], lastDelta := 0 }, up |>.upd (fun s => { s with recd := { s.recd with ring := [{ rsn := 4, early := false, body := ({ opSeconds := 9, powerCycles := 0, sev := 0, code := 3, page := 2, slice := 0, repeats := 1, data := [], lastDelta := 0 } : EvRec) }] } }) |>.upd (fun s => s.wr REC.RD_RSN (4)) |>.upd (fun s => s.wr REC.NEXT_RSN (5)), by decide +kernel⟩⟩

/-- What `TraceCommandsComplete` assumes can hold. -/
theorem witness_traceCommandsComplete :
    (∃ (s : State), s.pageDown 0x16 = false ∧ s.rd TRC.RUNNING = 0 ∧ s.rd TRC.RS_VALID = 0) ∧
    (∃ (s : State), s.pageDown 0x16 = false ∧ s.rd TRC.RUNNING = 1 ∧ (s.trc.queue = []) ∧ s.trcDest = true ∧ s.rd TRC.LOC = 0 ∧ s.rd TRC.MODE = 1 ∧ s.trc.startTag = none ∧ (s.rd TRC.RECORDS < 2 ^ 32 - 1) ∧ s.rd TRC.BUF_LOG2 ≤ 24) ∧
    (∃ (s : State), s.rd TRC.RUNNING = 1 ∧ s.trc.postLeft = some 0 ∧ (s.trc.queue = []) ∧ s.trcDest = true ∧ s.rd TRC.LOC = 0 ∧ s.rd TRC.MODE = 1 ∧ s.trc.startTag = none ∧ s.is (Hdr.GATED 0x16) = false) ∧
    (∃ (s : State), s.rd TRC.RUNNING = 1 ∧ 32 ≤ s.trc.queue.length ∧ s.trcDest = true ∧ s.rd TRC.LOC = 0 ∧ s.rd TRC.MODE = 1 ∧ s.rd TRC.BUF_LOG2 ≤ 24 ∧ (s.rd TRC.RECORDS + 32 < 2 ^ 32 - 1)) ∧
    (∃ (s : State), s.rd TRC.RUNNING = 1 ∧ (s.trc.queue ≠ []) ∧ s.trc.queue.length ≤ 32 ∧ s.trcDest = true ∧ s.rd TRC.LOC = 0 ∧ s.rd TRC.MODE = 1 ∧ s.rd TRC.BUF_LOG2 ≤ 24 ∧ (s.rd TRC.RECORDS + 32 < 2 ^ 32 - 1)) ∧
    (∃ (s : State), s.rd TRC.RUNNING = 1 ∧ (s.trc.queue ≠ []) ∧ s.trc.startTag = none ∧ s.is (Hdr.GATED 0x16) = false) :=
  ⟨⟨up |>.upd (fun s => s.wr TRC.RUNNING (0)) |>.upd (fun s => s.wr TRC.RS_VALID (0)), by decide +kernel⟩,
   ⟨up |>.upd (fun s => s.wr TRC.RUNNING (1)) |>.upd (fun s => { s with trc := { s.trc with queue := [] } }) |>.upd (fun s => s.wr TRC.LOC (0)) |>.upd (fun s => s.wr TRC.MODE (1)) |>.upd (fun s => { s with trc := { s.trc with startTag := none } }), by decide +kernel⟩,
   ⟨up |>.upd (fun s => s.wr TRC.RUNNING (1)) |>.upd (fun s => { s with trc := { s.trc with postLeft := some 0 } }) |>.upd (fun s => { s with trc := { s.trc with queue := [] } }) |>.upd (fun s => s.wr TRC.LOC (0)) |>.upd (fun s => s.wr TRC.MODE (1)) |>.upd (fun s => { s with trc := { s.trc with startTag := none } }) |>.upd (fun s => s.wr (Hdr.GATED 0x16) 0), by decide +kernel⟩,
   ⟨up |>.upd (fun s => s.wr TRC.RUNNING (1)) |>.upd (fun s => s.wr TRC.LOC (0)) |>.upd (fun s => s.wr TRC.MODE (1)) |>.upd (fun s => { s with trc := { s.trc with queue := List.replicate 32 { src := 2, kind := 0, drop := false, lost := false, stamp := 0, payload := [] } } }), by decide +kernel⟩,
   ⟨up |>.upd (fun s => s.wr TRC.RUNNING (1)) |>.upd (fun s => s.wr TRC.LOC (0)) |>.upd (fun s => s.wr TRC.MODE (1)) |>.upd (fun s => { s with trc := { s.trc with queue := List.replicate 3 { src := 2, kind := 0, drop := false, lost := false, stamp := 0, payload := [] } } }), by decide +kernel⟩,
   ⟨up |>.upd (fun s => s.wr TRC.RUNNING (1)) |>.upd (fun s => { s with trc := { s.trc with startTag := none } }) |>.upd (fun s => s.wr (Hdr.GATED 0x16) 0) |>.upd (fun s => { s with trc := { s.trc with queue := List.replicate 3 { src := 2, kind := 0, drop := false, lost := false, stamp := 0, payload := [] } } }), by decide +kernel⟩⟩

/-- What `StepRunsTheFrontCommand` assumes can hold. -/
theorem witness_stepRunsTheFrontCommand :
    (∃ (c : Instr) (rest : List Instr) (s : State), (s.pending = c :: rest)) ∧
    (∃ (s : State), (s.pending = []) ∧ s.rd TIME.PC_GO = 0) :=
  ⟨⟨.pageAllocGrant, [], up |>.upd (fun s => { s with pending := (.pageAllocGrant : Instr) :: ([] : List Instr) }), by decide +kernel⟩,
   ⟨up |>.upd (fun s => { s with pending := [] }) |>.upd (fun s => s.wr TIME.PC_GO (0)), by decide +kernel⟩⟩

/-- What `IntaFollowsThePinAfterEveryStep` assumes can hold. -/
theorem witness_intaFollowsThePinAfterEveryStep :
    (∃ (s : State) (t : State), s.IntxFollowsPin ∧ step s = .next t) :=
  ⟨State.reset, State.reset.tick.powerCmdStep.settle, by decide +kernel, by rfl⟩

/-- What `LaserOffWithoutItsPermits` assumes can hold. -/
theorem witness_laserOffWithoutItsPermits :
    (∃ (s : State) (t : State), s.LaserPermitted ∧ step s = .next t) :=
  ⟨State.reset, State.reset.tick.powerCmdStep.settle, by decide +kernel, by rfl⟩

/-- What `HostDmaKeepsItsLimits` assumes can hold. -/
theorem witness_hostDmaKeepsItsLimits :
    (∃ (sl : Nat) (addr : Nat) (data : List Byte) (poison : Bool) (s : State), 0 < s.pci.mps) ∧
    (∃ (max_ : Nat) (addr : Nat) (len : Nat), 0 < max_) ∧
    (∃ (s : State), s.pci.reads.length ≤ s.readLimit) :=
  ⟨⟨0, 0, [], true, up, by decide +kernel⟩,
   ⟨128, 0xFF0, 300, by decide +kernel⟩,
   ⟨up, by decide +kernel⟩⟩

/-- What `CountersSaturate` assumes can hold. -/
theorem witness_countersSaturate :
    (∃ (f : Fld) (n : Nat) (s : State), logKey f.key = false ∧ s.rd f ≤ f.maxVal) :=
  ⟨TIME.SERVO_LATE, 0, up, by decide +kernel⟩

/-- What `FreedPageIsZeroed` assumes can hold. -/
theorem witness_freedPageIsZeroed :
    (∃ (p : Nat) (s : State), s.rd (Hdr.HOOK 0x0E) = 0 ∧ p < 1536) ∧
    (∃ (page : Nat) (s : State), ((page, PageUse.cache) ∈ s.mem.owners) ∧ (∀ c ∈ s.mem.sectors, c.off / 0x1000 = page → s.blockHeld c.ns c.block = false)) :=
  ⟨⟨0, up |>.upd (fun s => s.wr (Hdr.HOOK 0x0E) (0)), by decide +kernel⟩,
   ⟨80, up |>.upd (fun s => { s with mem := { s.mem with owners := [(80, .cache)] } }), by decide +kernel⟩⟩

end Sys2Proof.Tests
end

/-! SUPPORT. Reserved places of BAR0 (R36): a place without fields takes no write, starts nothing when it is read, and reads
zero; and the block registers of a page that is gated or in a forced reset take no write (R41). -/

namespace Sys2Proof.Machine

/-- A meaning that ends in a next state brings that state about. -/
theorem Brings.of {c : Instr} {s u : State} {P : State → Prop} (h : exec c s = done u) (hp : P u) : Brings c s P := ⟨u, h, hp⟩

/-! ### Places without fields -/

theorem pageFields_of_not_pageExists {page : Nat} (h : pageExists page = false) : pageFields page = [] := by
  have hp : 0x1B ≤ page := by simpa [pageExists] using h
  unfold pageFields
  split
  case h_28 => rfl
  all_goals omega

/-- Every place of a page that R33 does not list is reserved. -/
theorem fieldsAt_of_not_pageExists {page : Nat} (h : pageExists page = false) (off : Nat) : fieldsAt page off = [] := by
  simp [fieldsAt, h, pageFields_of_not_pageExists h, sortBy]

/-! ### Writes -/

theorem fldWrites_of_fieldsAt_nil {page off : Nat} (h : fieldsAt page off = []) (be val : Nat) : fldWrites page off be val = [] := by
  simp [fldWrites, h]

/-- An access that reaches no field stores nothing and records no clamp (R52). -/
@[simp] theorem State.storeFields_nil (s : State) (source : Nat) : s.storeFields source [] = s := rfl

@[simp] theorem openWins_nil : openWins [] = [] := rfl

@[simp] theorem State.afterAccess_nil (s old : State) (page off : Nat) : s.afterAccess old page off [] = s := rfl

theorem State.writeReg_of_fieldsAt_nil {page off : Nat} (h : fieldsAt page off = []) (s : State) (port : HostPort) (be val : Nat) :
    s.writeReg port page off be val = s := by
  simp [State.writeReg, fldWrites_of_fieldsAt_nil h]

theorem State.writeReg_of_regsClosed {page off : Nat} {s : State} (hoff : 0x40 ≤ off) (h : s.regsClosed page = true)
    (port : HostPort) (be val : Nat) : s.writeReg port page off be val = s := by
  simp [State.writeReg, hoff, h]

theorem execBar0Write_of_served {port : HostPort} {page : Nat} {pasid : Option Nat} {s : State} (hs : s.served port pasid = true)
    (hp : page < 32) (off be value rid : Nat) :
    execBar0Write port page off be value rid pasid s = done (s.writeReg port page off be value) := by
  simp [execBar0Write, hs, hp]

/-! ### Reads -/

/-- Each register whose read captures or holds something has fields, so that a read of a reserved place does nothing. -/
theorem State.readEffect_of_fieldsAt_nil {page off : Nat} (h : fieldsAt page off = []) (s : State) : s.readEffect page off = s := by
  unfold State.readEffect
  split
  · rfl
  · split
    case h_7 => rfl
    all_goals exact absurd h (by decide)

/-- GPIO_IN, which reads open pins, is no reserved place. -/
theorem State.readReg_of_fieldsAt_nil {page off : Nat} (h : fieldsAt page off = []) (s : State) :
    s.readReg page off = (s, s.regWord page off) := by
  have hgpio : ¬(page = 0x19 ∧ off = 0x050) := by
    rintro ⟨rfl, rfl⟩
    exact absurd h (by decide)
  simp [State.readReg, hgpio, State.readEffect_of_fieldsAt_nil h]

theorem State.regWord_of_not_pageExists {page : Nat} (h : pageExists page = false) (s : State) (off : Nat) :
    s.regWord page off = 0 := by
  simp [State.regWord, h]

/-- A place without fields reads zero, but for PAGE_ID and PAGE_VER, which no field holds (R42). -/
theorem State.regWord_of_fieldsAt_nil {page off : Nat} (h : fieldsAt page off = []) (h0 : off ≠ 0) (h4 : off ≠ 4) (s : State) :
    s.regWord page off = 0 := by
  simp [State.regWord, h, h0, h4]

end Sys2Proof.Machine

namespace Sys2Proof

open Machine

/-- Settles O8: a reserved place is one without fields, and a write stores, starts and records by its fields alone. -/
theorem reservedPlacesReadZeroAndIgnoreWrites : Obligations.ReservedPlacesReadZeroAndIgnoreWrites := by
  unfold Obligations.ReservedPlacesReadZeroAndIgnoreWrites
  refine ⟨fun port page off be value rid s hserved hpage hplace => ?_, fun page off s hplace => ?_⟩
  · have hwrite : s.writeReg port page off be value = s := by
      obtain habsent | hnone | ⟨hoff, hclosed⟩ := hplace
      · exact State.writeReg_of_fieldsAt_nil (fieldsAt_of_not_pageExists habsent off) s port be value
      · exact State.writeReg_of_fieldsAt_nil hnone s port be value
      · exact State.writeReg_of_regsClosed hoff hclosed port be value
    exact .of ((exec_bar0Write ..).trans (execBar0Write_of_served hserved hpage ..)) hwrite
  · obtain habsent | ⟨hnone, h0, h4⟩ := hplace
    · rw [State.readReg_of_fieldsAt_nil (fieldsAt_of_not_pageExists habsent off), State.regWord_of_not_pageExists habsent]
    · rw [State.readReg_of_fieldsAt_nil hnone, State.regWord_of_fieldsAt_nil hnone h0 h4]

end Sys2Proof

/-! SUPPORT. The attention tree (R65, R66, R68): bits of SUMMARY, and a host write of a page's ENABLE, which stores the value
and lets FIRST_LEAF note what it makes pending, and nothing else. -/

namespace Sys2Proof.Machine

/-! ### Numbers as sets of bits -/

theorem bit_and (a b i : Nat) : bit (a &&& b) i = (bit a i && bit b i) := by
  simp [bit_eq_testBit]

theorem testBit_ofBits (l : List Nat) (i : Nat) : (ofBits l).testBit i = decide (i ∈ l) := by
  have h : ∀ a : Nat, (l.foldl (fun a j => a ||| 2 ^ j) a).testBit i = (a.testBit i || decide (i ∈ l)) := by
    induction l with
    | nil => simp
    | cons j l ih =>
      intro a
      simp [ih, Nat.testBit_two_pow, Bool.or_assoc, eq_comm]
  simpa [ofBits] using h 0

theorem ofBits_lt {l : List Nat} {n : Nat} (h : ∀ i ∈ l, i < n) : ofBits l < 2 ^ n := by
  refine Nat.lt_pow_two_of_testBit _ fun i hi => ?_
  rw [testBit_ofBits, decide_eq_false_iff_not]
  exact fun hm => absurd (h i hm) (by omega)

theorem bit_ofBits_filter_range {n i : Nat} (h : i < n) (p : Nat → Bool) : bit (ofBits ((List.range n).filter p)) i = p i := by
  simp [bit_eq_testBit, testBit_ofBits, h]

/-- Clearing the low bits of a number leaves nothing of it under a mask of low bits. -/
theorem clearBits_low_and {m n : Nat} (hm : m < 2 ^ n) (a : Nat) : clearBits a (2 ^ n - 1) &&& m = 0 := by
  have hlow : clearBits a (2 ^ n - 1) % 2 ^ n = 0 := by
    rw [clearBits, Nat.and_two_pow_sub_one_eq_mod]
    exact Nat.sub_mod_eq_zero_of_mod_eq (Nat.mod_mod a _).symm
  calc clearBits a (2 ^ n - 1) &&& m
      = (clearBits a (2 ^ n - 1) &&& m) % 2 ^ n := (Nat.mod_eq_of_lt (Nat.and_lt_two_pow _ hm)).symm
    _ = 0 := by rw [Nat.and_mod_two_pow, hlow, Nat.zero_and]

/-! ### The summaries (R66, R68) -/

theorem State.groups_lt (s : State) : s.groups < 2 ^ 24 :=
  ofBits_lt fun _ h => List.mem_range.1 (List.mem_filter.1 h).1

theorem State.bit_sliceOct (s : State) {k : Nat} (hk : k < 8) : bit s.sliceOct k = decide (bits s.slicePend (8 * k) 8 ≠ 0) :=
  bit_ofBits_filter_range hk _

/-- SUMMARY holds the octets above the 24 groups. -/
theorem State.bit_summary_octet (s : State) (k : Nat) : bit s.summary (24 + k) = bit s.sliceOct k := by
  rw [State.summary, Nat.mul_comm, bit_eq_testBit, bit_eq_testBit, Nat.testBit_two_pow_mul_add _ s.groups_lt,
    if_neg (Nat.not_lt.2 (Nat.le_add_right 24 k)), Nat.add_sub_cancel_left]

/-! ### ENABLE of a page header (R65, R69) -/

theorem enable_key_div (p : Nat) : (Hdr.ENABLE p).key / 32 % 4096 = 0x014 := by
  simp [Hdr.ENABLE, Fld.key]

/-- ENABLE lies apart from every field at another offset. -/
theorem enable_key_ne {f : Fld} (h : f.key / 32 % 4096 ≠ 0x014) (p : Nat) : (Hdr.ENABLE p).key ≠ f.key :=
  fun e => h (e ▸ enable_key_div p)

theorem enable_key_inj {p q : Nat} (h : (Hdr.ENABLE p).key = (Hdr.ENABLE q).key) : p = q := by
  simp [Hdr.ENABLE, Fld.key] at h
  omega

@[simp] theorem enable_page (p : Nat) : (Hdr.ENABLE p).page = p := rfl
@[simp] theorem enable_off (p : Nat) : (Hdr.ENABLE p).off = 0x014 := rfl
@[simp] theorem enable_lsb (p : Nat) : (Hdr.ENABLE p).lsb = 0 := rfl
@[simp] theorem enable_width (p : Nat) : (Hdr.ENABLE p).width = 32 := rfl
@[simp] theorem enable_kind (p : Nat) : (Hdr.ENABLE p).kind = .ctl := rfl

theorem cause_wr_enable (s : State) (p q v : Nat) : (s.wr (Hdr.ENABLE p) v).rd (Hdr.CAUSE q) = s.rd (Hdr.CAUSE q) :=
  rd_wr_ne s v (enable_key_ne (by simp [Hdr.CAUSE, Fld.key]) p).symm

/-! ### What a host write of ENABLE does -/

theorem fieldsAt_enable {p : Nat} (hp : pageExists p = true) (hl : pageNoLeaf p = false) : fieldsAt p 0x014 = [Hdr.ENABLE p] := by
  simp only [fieldsAt, hdrFields, hp, hl]
  cases pageFixed p <;> rfl

theorem reservedBits_enable (p : Nat) : (Hdr.ENABLE p).reservedBits = 0 := by
  simp [Fld.reservedBits, Hdr.ENABLE]

theorem byteMask_all : byteMask 15 = 2 ^ 32 - 1 := by decide

theorem fldWrites_enable {p : Nat} (hp : pageExists p = true) (hl : pageNoLeaf p = false) (val : Nat) :
    fldWrites p 0x014 15 val = [{ f := Hdr.ENABLE p, mask := 2 ^ 32 - 1, v := bits val 0 32 }] := by
  have hmask : clearBits (bits (2 ^ 32 - 1) 0 32) 0 = 2 ^ 32 - 1 := by decide
  simp only [fldWrites, fieldsAt_enable hp hl, List.map_cons, List.map_nil, reservedBits_enable, byteMask_all, enable_lsb,
    enable_width, hmask]
  rfl

theorem leafMask_lt : ∀ p < 0x1B, leafMask p < 2 ^ 32 := by decide

@[simp] theorem State.clamped_same (s : State) (source slice page off lsb v : Nat) :
    s.clamped source slice page off lsb v v = s := by
  simp [State.clamped]

/-- Every value of ENABLE is legal. -/
theorem State.storeField_enable (s : State) (p mask v : Nat) :
    s.storeField { f := Hdr.ENABLE p, mask := mask, v := v } =
      (s.setEnable p (mergeBits (s.rd (Hdr.ENABLE p)) mask v),
        [{ f := Hdr.ENABLE p, wrote := mergeBits (s.rd (Hdr.ENABLE p)) mask v,
           kept := mergeBits (s.rd (Hdr.ENABLE p)) mask v }]) := rfl

theorem dependents_enable (p : Nat) : dependents (Hdr.ENABLE p) = [] := by
  simp (disch := decide) [dependents, enable_key_ne]

/-- ENABLE governs no other field, and no value of it is clamped. -/
theorem State.storeFields_enable (s : State) (source p mask v : Nat) :
    s.storeFields source [{ f := Hdr.ENABLE p, mask := mask, v := v }] =
      s.setEnable p (mergeBits (s.rd (Hdr.ENABLE p)) mask v) := by
  simp [State.storeFields, State.storeField_enable, dependents_enable, sortBy, insertBy]

/-- The write of ENABLE starts nothing further. -/
theorem State.storedField_enable (s : State) (source old p : Nat) : s.storedField source old (Hdr.ENABLE p) = s := by
  simp (disch := decide) [State.storedField, enable_key_ne]

theorem noteFirst_foldl_frame (l : List Leaf) (s : State) : LogFrame s (l.foldl State.noteFirst s) := by
  induction l generalizing s with
  | nil => exact .refl s
  | cons x l ih => exact (noteFirst_frame s x).trans (ih _)

/-- Replacing ENABLE leaves every other field outside the log, for FIRST_LEAF is all that it can write beside it. -/
theorem setEnable_rd (s : State) (p v : Nat) {f : Fld} (hlog : logKey f.key = false) (hf : f.key / 32 % 4096 ≠ 0x014) :
    (s.setEnable p v).rd f = s.rd f :=
  ((noteFirst_foldl_frame _ _).rd hlog).trans (rd_wr_ne s _ (enable_key_ne hf p).symm)

theorem State.noteFilter_setEnable (s : State) (p v : Nat) : (s.setEnable p v).noteFilter s = s.setEnable p v := by
  simp (disch := decide) [State.noteFilter, State.leafIf, setEnable_rd]

theorem State.afterTrace_setEnable (s : State) (p v : Nat) (l : List FldWrite) :
    (s.setEnable p v).afterTrace s p 0x014 l = s.setEnable p v := by
  simp [State.afterTrace, State.noteFilter_setEnable]

theorem openWins_enable (p mask v : Nat) :
    openWins [{ f := Hdr.ENABLE p, mask := mask, v := v }] = [{ f := Hdr.ENABLE p, mask := mask, v := v }] := by
  have hkey : (Hdr.ENABLE p).key ≠ LDR.OPEN.key := enable_key_ne (by decide) p
  simp [openWins, hkey]

/-- A host write of all of ENABLE replaces it, and does nothing else (R65). -/
theorem State.writeReg_enable {p : Nat} (hp : pageExists p = true) (hl : pageNoLeaf p = false) (s : State) (port : HostPort)
    (val : Nat) :
    s.writeReg port p 0x014 15 val = s.setEnable p (mergeBits (s.rd (Hdr.ENABLE p)) (2 ^ 32 - 1) (bits val 0 32)) := by
  simp [State.writeReg, hp, fldWrites_enable hp hl, State.storeFields_enable, openWins_enable, State.afterField,
    State.storedField_enable, State.afterAccess, State.afterTrace_setEnable]

theorem leavesOf_zero (p : Nat) : leavesOf p 0 = [] := by
  have hbits : setBits 32 0 = [] := by decide
  simp [leavesOf, hbits, sortBy]

/-- Clearing ENABLE makes no leaf pending, so that FIRST_LEAF stays. -/
theorem State.setEnable_of_and_leafMask_eq_zero {p v : Nat} (h : v &&& leafMask p = 0) (s : State) :
    s.setEnable p v = s.wr (Hdr.ENABLE p) 0 := by
  simp [State.setEnable, h, clearBits, leavesOf_zero]

theorem State.writeReg_enable_zero {p : Nat} (hp : pageExists p = true) (hl : pageNoLeaf p = false) (s : State)
    (port : HostPort) : s.writeReg port p 0x014 15 0 = s.wr (Hdr.ENABLE p) 0 := by
  rw [s.writeReg_enable hp hl]
  refine State.setEnable_of_and_leafMask_eq_zero ?_ s
  simpa [mergeBits, bits] using clearBits_low_and (leafMask_lt p (by simpa [pageExists] using hp)) _

/-! ### The summaries after ENABLE is cleared -/

theorem State.pend_wr_enable_zero (s : State) (p : Nat) : (s.wr (Hdr.ENABLE p) 0).pend p = 0 := by
  simp [State.pend, rd_wr_self]

theorem State.pend_wr_enable_ne (s : State) {p q : Nat} (v : Nat) (h : q ≠ p) : (s.wr (Hdr.ENABLE p) v).pend q = s.pend q := by
  rw [State.pend, State.pend, cause_wr_enable, rd_wr_ne s v (fun e => h (enable_key_inj e))]

/-- The page whose ENABLE is 0 gives its groups nothing. -/
theorem State.grpPend_wr_enable_zero (s : State) (p g : Nat) :
    (s.wr (Hdr.ENABLE p) 0).grpPend g = (leafRows.filter fun r => r.group == g && r.page != p).foldl
      (fun m r => m ||| bits (s.pend r.page) r.pbit r.n * 2 ^ r.gbit) 0 := by
  simp only [State.grpPend, List.foldl_filter]
  congr 1
  funext m r
  by_cases hr : r.page = p
  · simp [hr, State.pend_wr_enable_zero, bits]
  · simp [hr, State.pend_wr_enable_ne s 0 hr]

end Sys2Proof.Machine

namespace Sys2Proof

open Machine

/-- Settles O3: SUMMARY holds the octets of SLICE_PEND above its 24 groups, and a write of 0 to ENABLE does nothing but clear
it. -/
theorem pendingIsCauseAndEnable : Obligations.PendingIsCauseAndEnable := by
  unfold Obligations.PendingIsCauseAndEnable
  refine ⟨fun s p i => bit_and .., fun s k hk => (s.bit_summary_octet k).trans (s.bit_sliceOct hk),
    fun port page s hserved hp hl => ?_⟩
  have hpage : page < 32 := by
    have : page < 0x1B := by simpa [pageExists] using hp
    omega
  exact .of ((exec_bar0Write ..).trans
      ((execBar0Write_of_served hserved hpage ..).trans (congrArg done (s.writeReg_enable_zero hp hl port))))
    ⟨cause_wr_enable s page page 0, s.pend_wr_enable_zero page, s.grpPend_wr_enable_zero page⟩

end Sys2Proof

/-! SUPPORT. A full write of a word and the return of a page to the pool (R267, R271): which bytes and check bits they leave, while
no Mirage hook on MEM may upset what is stored (R523). -/

namespace Sys2Proof.Machine

/-! ### A word stored whole -/

theorem padTo_getElem?_getD {n i : Nat} (h : i < n) (l : List Byte) : ((padTo n l)[i]?).getD 0 = (l[i]?).getD 0 := by
  simp [padTo, slice, h]

/-- A word stored whole reads as its bytes, and every byte of another word as before. -/
theorem cellGet_putWord {w : Nat} (hw : 8 * w + 8 ≤ cacheBytes) (s : State) (bytes : List Byte) (mask x : Nat) :
    cellGet (s.putWord w bytes mask).cells x = if x / 8 = w then (bytes[x % 8]?).getD 0 else cellGet s.cells x := by
  have hlen : (padTo 8 bytes).length = 8 := by simp [padTo, slice]
  simp only [State.putWord, if_pos hw, cellGet_cellsSet, hlen]
  by_cases hx : x / 8 = w
  · have hoff : x - 8 * w = x % 8 := by omega
    rw [if_pos (by omega), if_pos hx, hoff, padTo_getElem?_getD (Nat.mod_lt x (by decide))]
  · rw [if_neg (by omega), if_neg hx]

theorem synd_putWord {w : Nat} (hw : 8 * w + 8 ≤ cacheBytes) (s : State) (bytes : List Byte) (mask v : Nat) :
    (s.putWord w bytes mask).synd v = if v = w then mask % 256 else s.synd v := by
  simp only [State.putWord, State.synd, if_pos hw]
  by_cases hv : v = w
  · rw [if_pos hv, hv, storeGet_set_self]
  · rw [if_neg hv, storeGet_set_ne _ _ _ hv]

/-! ### A full write without a hook on MEM -/

/-- A page whose hook is clear has no event that a slot acts on (R519). -/
theorem mirEvent_of_hook_zero {s : State} {p : Nat} (h : s.rd (Hdr.HOOK p) = 0) (kind : Nat) (fits : Nat → Bool) :
    s.mirEvent p kind fits = (s, none) := by
  simp [State.mirEvent, h]

theorem mirStored_of_hook_zero {s : State} (h : s.rd (Hdr.HOOK 0x0E) = 0) (w : Nat) : s.mirStored w = s := by
  simp [State.mirStored, mirEvent_of_hook_zero h]

/-- A full write stores its word and no upset of it; what it does to the uncorrectable table and to the log touches neither
the array nor the hook. -/
theorem fullWrite_of_hook_zero {s : State} (h : s.rd (Hdr.HOOK 0x0E) = 0) (w : Nat) (bytes : List Byte) :
    (s.fullWrite w bytes).cells = (s.putWord w bytes 0).cells ∧ (s.fullWrite w bytes).ecc = (s.putWord w bytes 0).ecc ∧
      (s.fullWrite w bytes).rd (Hdr.HOOK 0x0E) = 0 := by
  have hput : (s.putWord w bytes 0).rd (Hdr.HOOK 0x0E) = 0 := h
  simp only [State.fullWrite, mirStored_of_hook_zero hput]
  split
  · exact ⟨setLeaf_cells .., setLeaf_ecc .., (setLeaf_rd _ _ (by decide)).trans hput⟩
  · exact ⟨rfl, rfl, hput⟩

/-! ### Words zeroed in turn -/

/-- Zeros written in full to each word of a list. -/
def State.zeroWords (s : State) (ws : List Nat) : State := ws.foldl (fun t w => t.fullWrite w [0, 0, 0, 0, 0, 0, 0, 0]) s

/-- Every byte of a zero word is 0, and so is what lies past it. -/
theorem zeroWord_getD (i : Nat) : (([0, 0, 0, 0, 0, 0, 0, 0] : List Byte)[i]?).getD 0 = 0 := by
  rw [show ([0, 0, 0, 0, 0, 0, 0, 0] : List Byte) = List.replicate 8 0 from rfl, List.getElem?_replicate]
  split <;> rfl

/-- The words of the list read as zeros, and every other byte as before. -/
theorem cellGet_zeroWords {ws : List Nat} (hws : ∀ w ∈ ws, 8 * w + 8 ≤ cacheBytes) {s : State}
    (h : s.rd (Hdr.HOOK 0x0E) = 0) (x : Nat) :
    cellGet (s.zeroWords ws).cells x = if x / 8 ∈ ws then 0 else cellGet s.cells x := by
  induction ws generalizing s with
  | nil => simp [State.zeroWords]
  | cons w ws ih =>
    obtain ⟨hw, hws⟩ := List.forall_mem_cons.1 hws
    obtain ⟨hcells, -, hhook⟩ := fullWrite_of_hook_zero h w [0, 0, 0, 0, 0, 0, 0, 0]
    calc cellGet (s.zeroWords (w :: ws)).cells x
        = if x / 8 ∈ ws then 0 else cellGet (s.fullWrite w [0, 0, 0, 0, 0, 0, 0, 0]).cells x := ih hws hhook
      _ = if x / 8 ∈ ws then 0 else if x / 8 = w then 0 else cellGet s.cells x := by
        rw [hcells, cellGet_putWord hw, zeroWord_getD]
      _ = if x / 8 ∈ w :: ws then 0 else cellGet s.cells x := by
        by_cases hx : x / 8 = w <;> simp [hx]

/-- The words of the list have their own check bits, and every other word its own as before. -/
theorem synd_zeroWords {ws : List Nat} (hws : ∀ w ∈ ws, 8 * w + 8 ≤ cacheBytes) {s : State}
    (h : s.rd (Hdr.HOOK 0x0E) = 0) (v : Nat) :
    (s.zeroWords ws).synd v = if v ∈ ws then 0 else s.synd v := by
  induction ws generalizing s with
  | nil => simp [State.zeroWords]
  | cons w ws ih =>
    obtain ⟨hw, hws⟩ := List.forall_mem_cons.1 hws
    obtain ⟨-, hecc, hhook⟩ := fullWrite_of_hook_zero h w [0, 0, 0, 0, 0, 0, 0, 0]
    calc (s.zeroWords (w :: ws)).synd v
        = if v ∈ ws then 0 else (s.fullWrite w [0, 0, 0, 0, 0, 0, 0, 0]).synd v := ih hws hhook
      _ = if v ∈ ws then 0 else (s.putWord w [0, 0, 0, 0, 0, 0, 0, 0] 0).synd v := by rw [State.synd, hecc, State.synd]
      _ = if v ∈ ws then 0 else if v = w then 0 else s.synd v := by rw [synd_putWord hw]
      _ = if v ∈ w :: ws then 0 else s.synd v := by
        by_cases hv : v = w <;> simp [hv]

/-! ### A page's return to the pool (R271) -/

/-- The words of a page that have an uncleared entry of the uncorrectable table. -/
def State.unclearedWords (s : State) (p : Nat) : List Nat :=
  (s.mem.ueTab.filter fun e => e.word / 512 == p && !e.cleared).map TabEnt.word

theorem mem_unclearedWords {s : State} {p w : Nat} :
    w ∈ s.unclearedWords p ↔ ∃ e ∈ s.mem.ueTab, e.word = w ∧ w / 512 = p ∧ e.cleared = false := by
  simp only [State.unclearedWords, List.mem_map, List.mem_filter, Bool.and_eq_true, beq_iff_eq, Bool.not_eq_true']
  constructor
  · rintro ⟨e, ⟨he, hpage, hopen⟩, rfl⟩
    exact ⟨e, he, rfl, hpage, hopen⟩
  · rintro ⟨e, he, rfl, hpage, hopen⟩
    exact ⟨e, ⟨he, hpage, hopen⟩, rfl⟩

/-- The words of the 1,536 pages lie in the array. -/
theorem unclearedWords_in_cache {s : State} {p w : Nat} (hp : p < 1536) (h : w ∈ s.unclearedWords p) :
    8 * w + 8 ≤ cacheBytes := by
  obtain ⟨-, -, -, hpage, -⟩ := mem_unclearedWords.1 h
  unfold cacheBytes
  omega

/-- The page that is freed has its uncleared words zeroed before it loses its owner. -/
theorem freePage_eq (s : State) (p : Nat) :
    s.freePage p = { s.zeroWords (s.unclearedWords p) with
      mem := { (s.zeroWords (s.unclearedWords p)).mem with
        owners := (s.zeroWords (s.unclearedWords p)).mem.owners.filter fun o => o.1 ≠ p } } := rfl

theorem cellGet_freePage {s : State} {p : Nat} (h : s.rd (Hdr.HOOK 0x0E) = 0) (hp : p < 1536) (x : Nat) :
    cellGet (s.freePage p).cells x = if x / 8 ∈ s.unclearedWords p then 0 else cellGet s.cells x := by
  rw [freePage_eq]
  exact cellGet_zeroWords (fun _ => unclearedWords_in_cache hp) h x

theorem synd_freePage {s : State} {p : Nat} (h : s.rd (Hdr.HOOK 0x0E) = 0) (hp : p < 1536) (v : Nat) :
    (s.freePage p).synd v = if v ∈ s.unclearedWords p then 0 else s.synd v := by
  rw [freePage_eq]
  exact synd_zeroWords (fun _ => unclearedWords_in_cache hp) h v

theorem freePage_no_owner {s : State} {p : Nat} {o : Nat × PageUse} (h : o ∈ (s.freePage p).mem.owners) : o.1 ≠ p := by
  rw [freePage_eq] at h
  exact of_decide_eq_true (List.mem_filter.1 h).2

/-- PAGE_FREE takes back a cache page of which no command holds a sector. -/
theorem execPageFree_of_not_held {page : Nat} {s : State} (howner : (page, PageUse.cache) ∈ s.mem.owners)
    (hheld : ∀ c ∈ s.mem.sectors, c.off / 0x1000 = page → s.blockHeld c.ns c.block = false) :
    execPageFree page s =
      done (({ s with mem := { s.mem with sectors := s.mem.sectors.filter fun c => c.off / 0x1000 ≠ page } }).freePage page) := by
  have hnone : (s.mem.sectors.any fun c => c.off / 0x1000 == page && s.blockHeld c.ns c.block) = false := by
    simpa using hheld
  simp [execPageFree, hnone, howner]

end Sys2Proof.Machine

namespace Sys2Proof

open Machine

/-- Settles O59: freeing a page zeroes exactly the words on its list of uncleared entries, one full write after another, and
PAGE_FREE frees the page once its cached sectors are gone. -/
theorem freedPageIsZeroed : Obligations.FreedPageIsZeroed := by
  unfold Obligations.FreedPageIsZeroed
  refine ⟨fun p s hhook hp => ⟨fun e he hpage hopen => ?_, fun w hw => ?_, fun o ho => freePage_no_owner ho⟩,
    fun page s howner hheld => .of ((exec_pageFree ..).trans (execPageFree_of_not_held howner hheld)) rfl⟩
  · have hmem : e.word ∈ s.unclearedWords p := mem_unclearedWords.2 ⟨e, he, rfl, hpage, hopen⟩
    refine ⟨fun i hi => ?_, by rw [synd_freePage hhook hp, if_pos hmem]⟩
    rw [cellGet_freePage hhook hp, show (8 * e.word + i) / 8 = e.word by omega, if_pos hmem]
  · have hmem : w ∉ s.unclearedWords p := by
      intro hin
      obtain ⟨e, he, hword, hpage, hopen⟩ := mem_unclearedWords.1 hin
      obtain hcleared | hother := hw e he hword
      · simp [hopen] at hcleared
      · exact hother hpage
    refine ⟨fun i hi => ?_, by rw [synd_freePage hhook hp, if_neg hmem]⟩
    rw [cellGet_freePage hhook hp, show (8 * w + i) / 8 = w by omega, if_neg hmem]

end Sys2Proof
